-- ==== Sys2Proof/Word.lean ====
section
/-!
DEFINITION. The words of the device: a byte, a 32-bit register word, and the place of a field in the register map.
-/
namespace Sys2Proof

/-- One byte. -/
abbrev Byte := BitVec 8

/-- One 32-bit register word (R57); also one binary32 sample (R12). -/
abbrev Word := BitVec 32

end Sys2Proof

namespace Sys2Proof.Machine

/-- The place of a register field: the byte address of its register in BAR0, and its bit range [hi:lo] (R4, R5). -/
structure Field where
  addr : Nat
  hi : Nat
  lo : Nat
  deriving DecidableEq, Repr

/-- Bit `b` of a field, as a field of its own. -/
def Field.bit (f : Field) (b : Nat) : Field := ⟨f.addr, f.lo + b, f.lo + b⟩

/-- How many bits a field has. -/
def Field.width (f : Field) : Nat := f.hi + 1 - f.lo

end Sys2Proof.Machine
end

