-- ==== Sys2Proof/Syntax.lean ====
section
/-!
DEFINITION. The commands of the device: one constructor of `Instr` for each row of spec/opcode_table.json, with the
quantities the row acts on: the word a host writes, the frame that arrives, the value a monitor measures.
-/
namespace Sys2Proof

/-- The two dies of the package (chapter 1). -/
inductive Die where
  | dDie
  | aDie
  deriving DecidableEq, Repr

/-- The host port a command comes from: 0 PCIe, 1 quad-SPI, 2 management processor, 3 JTAG (Table 2.1). -/
abbrev HostPort := Fin 4

/-- The width of a host access in bits (Table 2.7). -/
inductive AccessSize where
  | byte
  | half
  /-- Three contiguous byte enables: the first or last DW of a PCIe burst. -/
  | three
  | word
  deriving DecidableEq, Repr

/-- An RTP packet as it reaches the flow engine (R163, R164): the datagram's addresses and ports, the RTP header's fields, and
what remains of the payload after CSRC list, header extension and padding. -/
structure RtpPacket where
  src : Nat
  dst : Nat
  sport : Nat
  dport : Nat
  version : Nat := 2
  pt : Nat
  seq : Nat
  ts : Nat
  ssrc : Nat
  payload : List (BitVec 8)
  deriving DecidableEq, Repr


/-- The data set an Announce carries or a port holds (R147, R151). -/
structure PtpDs where
  priority1 : Nat := 0
  cls : Nat := 0
  accuracy : Nat := 0
  variance : Nat := 0
  priority2 : Nat := 0
  /-- grandmasterIdentity, 64 bits. -/
  gm : Nat := 0
  /-- stepsRemoved. -/
  steps : Nat := 0
  deriving DecidableEq, Repr

/-- A PTP message as it reaches the PTP unit (Table 5.3, row 1). -/
structure PtpMsg where
  /-- sourcePortIdentity: clockIdentity × 65,536 + portNumber. -/
  source : Nat
  seq : Nat
  twoStep : Bool := false
  /-- correctionField, in 2^-16 ns. -/
  corr : Int := 0
  logInterval : Int := 0
  /-- originTimestamp, preciseOriginTimestamp or receiveTimestamp, in whole nanoseconds. -/
  time : Nat := 0
  /-- requestingPortIdentity. -/
  req : Nat := 0
  ds : PtpDs := {}
  /-- The IPv4 and MAC source addresses it came from. -/
  ip : Nat := 0
  mac : Nat := 0
  deriving DecidableEq, Repr

/-- What an IGMP Membership Query asks (R155). -/
structure IgmpQuery where
  /-- 2 or 3: the version of the query. -/
  version : Nat
  /-- The group, or 0 in a General Query. -/
  group : Nat := 0
  sources : List Nat := []
  deriving DecidableEq, Repr

/-- Why a port's link goes down (R132). -/
inductive LinkCause where
  | pcs
  /-- The port's LOS pin takes a level: high or low. -/
  | los (high : Bool)
  | an
  deriving DecidableEq, Repr


/-- One slot, subframe or channel of a serial unit's frame (R302, R305, R309): its word or 24-bit sample, and the bits V, U, C,
channel active, and Z preamble or block start, where the unit has them. -/
structure PortSlot where
  w : BitVec 32
  v : Bool := false
  u : Bool := false
  c : Bool := false
  active : Bool := true
  z : Bool := false
  deriving DecidableEq, Repr


/-- An edge of a reference: its media time in units of 2^-16 ns, and whether the frame pulse on VREF_F comes with it (video). -/
structure RefEdge where
  t : Nat
  vref : Bool := false
  deriving DecidableEq, Repr

/-- A write of the PCIe command register: Bus Master Enable, and the codes of the payload and read request sizes programmed by
then (R46). -/
structure BusMaster where
  bme : Bool
  mps : Fin 6
  mrrs : Fin 6
  deriving DecidableEq, Repr

/-- The fields of a Spelt instruction word other than OP (Table 9.1); `z` is bits [36:32]. -/
structure InsnFields where
  d : BitVec 5 := 0
  a : BitVec 5 := 0
  b : BitVec 5 := 0
  m : BitVec 4 := 0
  z : BitVec 5 := 0
  imm : BitVec 32 := 0
  deriving DecidableEq, Repr


/-- A heartbeat as it arrives (Table 15.3). -/
structure TwinHb where
  magic : Nat
  pairId : Nat
  seq : Nat
  state : Nat
  flags : Nat
  health : Nat
  push : Nat
  index : Nat
  uid : Nat
  deriving DecidableEq, Repr


/-- The commands: what a host, a bus, a pin, a clock or a timer makes happen, one constructor per row of the table. -/
inductive Instr where
  -- media time and the engine frame (chapters 0 and 3)
  | sampleTick
  | engineFrameBoundary
  -- the Stalk link (chapter 1): `eye` is the worst lane's eye margin in 1/256 UI, `w` the word written to PWR.STALK_CTRL
  | stalkFlitRx (die : Die) (flit : BitVec 256)
  | stalkHeartbeatSend (die : Die)
  | stalkHeartbeatRx (die : Die)
  | stalkMarginRetrain (eye : BitVec 8)
  | stalkCrcBurstRetrain
  | stalkRetrainDone
  | stalkSilenceTimeout (die : Die)
  | stalkTrainAttemptFail (die : Die)
  | stalkMclkAbsent
  | stalkRetrain (w : BitVec 32)
  | stalkResume (w : BitVec 32)
  | stalkTrainDone
  -- islands and domains (chapter 1): temperatures are the highest valid readings in millidegrees Celsius
  | tdiffCompare (dHigh aHigh : Option Int)
  | islandEdgeStretch (n : Fin 24)
  | islTargetChange (lane : Fin 16) (dl : Bool) (w : BitVec 32)
  | islandSettleDone (n : Fin 24)
  | domainReqWrite (w : BitVec 32)
  | domainWakeDone (d : Fin 16)
  | domainSleepDone (d : Fin 16)
  | domainReset (w : BitVec 32)
  | domainResetDone (d : Fin 16)
  -- host ports (chapter 2)
  | d3hotEnter
  | d0Return
  | dmaCompletionError (ch : Fin 8)
  | qspiReadSingle (addr : BitVec 24)
  | qspiWriteSingle (addr : BitVec 24)
  | qspiReadQuad (addr : BitVec 24)
  | qspiWriteQuad (addr : BitVec 24)
  | qspiReadStatus
  | qspiUnknownOpcode (op : BitVec 8)
  | qspiReadNextWord
  | qspiWriteWord (w : BitVec 32)
  | qspiCsRise
  | registerWrite (p : HostPort) (addr : BitVec 24) (size : AccessSize) (split : Bool) (w : BitVec 32)
  | unassignedRead (p : HostPort) (addr : BitVec 24)
  | rolRead (p : HostPort) (addr : BitVec 24)
  | rcFieldRead (p : HostPort) (addr : BitVec 24) (size : AccessSize)
  | guardedFirstWrite (p : HostPort) (addr : BitVec 24) (w : BitVec 32)
  | guardTwinWrite (p : HostPort) (addr : BitVec 24) (w : BitVec 32)
  | guardTimeout (p : HostPort)
  | bitAliasWrite (p : HostPort) (addr : BitVec 24) (w : BitVec 32)
  | anaPostedWriteEffect (p : HostPort)
  | irqAck (w : BitVec 32)
  | msixUnmask (v : Option (Fin 64))
  -- aborts (R72): `all` is SYS.ABORT.ALL, `idx` its INDEX
  | abortLane (all : Bool) (idx : BitVec 8)
  | abortRxFlow (all : Bool) (idx : BitVec 8)
  | abortTxFlow (all : Bool) (idx : BitVec 8)
  | abortSilo (all : Bool) (idx : BitVec 8)
  | abortSerialPort (all : Bool) (idx : BitVec 8)
  | abortMcv (all : Bool) (idx : BitVec 8)
  | abortDmaChannel (all : Bool) (idx : BitVec 8)
  | abortDramQueue (all : Bool) (idx : BitVec 8)
  | abortPsChannel (all : Bool) (idx : BitVec 8)
  | abortBadClass (cls : Fin 16) (all : Bool) (idx : BitVec 8)
  | abortComplete (us : Nat)
  | coreRateWrite (w : BitVec 32)
  | coreRateEffect
  -- resets (chapter 17)
  | powerOnReset
  | rstNReset (hostSel twinPref : Bool) (bootSrc : BitVec 2)
  | deviceReset
  | warmReset
  | hostReset (linkDown : Bool)
  | aDieResetRelease
  -- Vetiver (chapter 3): `freqs` the eight slots' frequencies in units of 2^-40
  | refSlotConfigWrite (slot : Fin 8) (word : Fin 3) (w : BitVec 32)
  | refEdgeEvent (slot : Fin 8) (edge : RefEdge)
  | refLoss (slot : Fin 8)
  | refRateError (slot : Fin 8)
  | refRateRecover (slot : Fin 8) (rate : Fin 4)
  | refGlitchRecover (slot : Fin 8)
  | refQualify (slot : Fin 8) (freq : Int)
  | formerWindowExpire
  | voteTick (freqs : List Int)
  | voteRequalify (slot : Fin 8) (freqs : List Int)
  | switchStart (slot : Fin 8)
  | switchMeasureEnd
  | switchCommit
  | wtrExpire (slot : Fin 8)
  | vetLock
  | gearStep
  | holdoverExpire
  | freeWordWrite (w : BitVec 32)
  | vetCtrlWrite (w : BitVec 32)
  | loopModeAuto (w : BitVec 32)
  | loopModeForced (w : BitVec 32)
  | loopModeOpen (w : BitVec 32)
  | hostWordWrite (w : BitVec 32)
  | realignStepRef (w : BitVec 32)
  | realignSlewRef (w : BitVec 32)
  | realignStepValue (w : BitVec 32)
  | realignTimedDue
  | realignStepApply
  | realignComplete
  | snap
  -- clock synthesis (chapter 4): `n` numbers an ADPLL or a clock output, `xo` picks XO_IN rather than OSC_HOLD
  | adpllLock (n : Fin 3)
  | adpllPhaseErrorCoast (n : Fin 3) (errPs : Int)
  | oscLoss (xo : Bool)
  | oscRestored (xo : Bool)
  | oscFreqCompare (ppb : Nat)
  | fwApply
  | adpll1Enable (w : BitVec 32)
  | adpll1Disable (w : BitVec 32)
  | adpll1Apply (w : BitVec 32)
  | oscCfgWrite (w : BitVec 32)
  | ckoutEnable (n : Fin 12) (w : BitVec 32)
  | ckoutDisable (n : Fin 12) (w : BitVec 32)
  | ckoutDivWrite (n : Fin 12) (w : BitVec 32)
  | ckoutDelayWrite (n : Fin 12) (w : BitVec 32)
  | ckoutStart (n : Fin 12)
  | syncArm (w : BitVec 32)
  | syncDisarm (w : BitVec 32)
  | syncInEdge (highCycles : Nat) (misaligned : List (Fin 12))
  -- network ports (chapter 5): `x` is 0 for port A, 1 for port B; times are media times in 2^-16 ns
  | netCtrlWrite (x : Fin 2) (w : BitVec 32)
  | anComplete (x : Fin 2) (mbps : Nat)
  | linkUp (x : Fin 2) (los : Bool)
  | linkDown (x : Fin 2) (cause : LinkCause)
  | mdioCommand (w : BitVec 32)
  | mdioDone (rdata : BitVec 16)
  | frameReceive (x : Fin 2) (fcsOk : Bool) (bytes : List (BitVec 8)) (t : Nat)
  | ptpSyncRx (x : Fin 2) (m : PtpMsg) (t : Nat)
  | ptpFollowUpRx (x : Fin 2) (m : PtpMsg)
  | ptpDelayReqRx (x : Fin 2) (m : PtpMsg) (t : Nat)
  | ptpDelayRespRx (x : Fin 2) (m : PtpMsg)
  | ptpAnnounceRx (x : Fin 2) (m : PtpMsg) (t : Nat)
  | followUpTimeout (x : Fin 2)
  | announceReceiptTimeout (x : Fin 2) (source : Nat)
  | delayReqSend (x : Fin 2)
  | announceSend (x : Fin 2)
  | syncSend (x : Fin 2)
  | ptpRoleWrite (x : Fin 2) (w : BitVec 32)
  | ptpRatesWrite (x : Fin 2) (w : BitVec 32)
  | hostFrameTx
  | hostFrameLaunch
  | txTimestampCapture (x : Fin 2)
  | txtsRead (p : HostPort) (x : Fin 2)
  | portTxFrameEnd (x : Fin 2)
  | igmpJoin (w : BitVec 32)
  | igmpLeave (w : BitVec 32)
  | igmpReportAll (w : BitVec 32)
  | igmpRepeat (job : Nat)
  | igmpQueryRx (x : Fin 2) (q : IgmpQuery)
  | igmpQueryResponse (x : Fin 2)
  | igmpV2Timeout (x : Fin 2)
  -- audio flows (chapter 6): `n` numbers the flow; `rx` picks the direction where both have the row
  | flowRxStart (n : Fin 256) (w : BitVec 32)
  | flowRxStop (n : Fin 256) (w : BitVec 32)
  | flowTxStart (n : Fin 256) (w : BitVec 32)
  | flowTxStop (n : Fin 256) (w : BitVec 32)
  | flowClearCounters (rx : Bool) (n : Fin 256) (w : BitVec 32)
  | flowArmed (rx : Bool) (n : Fin 256)
  | flowStartIndex (rx : Bool) (n : Fin 256)
  | flowStopIndex (rx : Bool) (n : Fin 256)
  | flowIdle (rx : Bool) (n : Fin 256)
  | flowPacketRx (x : Fin 2) (p : RtpPacket) (t : Nat)
  | flowRxPortSilent (n : Fin 256) (x : Fin 2)
  | flowMonitorTick (n : Fin 256)
  | flowTxLaunch (n : Fin 256)
  | flowCsCaptureArm (w : BitVec 32)
  -- route fabric (chapter 7): `n` numbers a sink or an SRC channel, `ratio` is the measured unit rate ÷ core rate in 2^-24
  | routeCommitGo (w : BitVec 32)
  | routeRevert (w : BitVec 32)
  | routeCancel (w : BitVec 32)
  | routeCommitApply
  | xfadeEnd (n : Fin 4096)
  | muteSet (n : Fin 4096)
  | muteClr (n : Fin 4096)
  | toneWrite (w : BitVec 32)
  | srcLock (n : Fin 128) (ratio : BitVec 32)
  | srcRateChange (n : Fin 128) (ratio : BitVec 32)
  | directPathApply
  -- Spelt engine and DRAM (chapter 8): `n` numbers a lane, `w` is the word written; a write's commands are those of its row
  | laneStart (n : Fin 16) (w : BitVec 32)
  | laneStop (n : Fin 16) (w : BitVec 32)
  | laneSwap (n : Fin 16) (w : BitVec 32)
  | laneCancelSwap (n : Fin 16) (w : BitVec 32)
  | laneVerifyDone (n : Fin 16)
  | crosspointWrite (e : Fin 16384) (w : BitVec 32)
  | dqStart (q : Fin 32) (w : BitVec 32)
  | dqStop (q : Fin 32) (w : BitVec 32)
  | dqTapWrite (q : Fin 32) (l : Fin 64) (w : BitVec 32)
  | dqPopDataArrive (n : Fin 16) (cycles : Nat)
  | memEnable (w : BitVec 32)
  | memDisable (w : BitVec 32)
  | memRetrain (w : BitVec 32)
  | memTrainDone
  | memTrainFail
  | memRetrainDone
  | dramBurstComplete (cls : Fin 4) (late : Bool)
  | laneHalt (n : Fin 16) (w : BitVec 32)
  | laneResume (n : Fin 16) (w : BitVec 32)
  | laneStep (n : Fin 16) (w : BitVec 32)
  | laneRegsWrite (n : Fin 16) (off : BitVec 11) (w : BitVec 32)
  -- Spelt instructions (chapter 9): lane `n` issues the instruction with the fields `f`
  | iNop (n : Fin 16) (f : InsnFields)
  | iLdv (n : Fin 16) (f : InsnFields)
  | iStv (n : Fin 16) (f : InsnFields)
  | iLds (n : Fin 16) (f : InsnFields)
  | iSts (n : Fin 16) (f : InsnFields)
  | iLdvx (n : Fin 16) (f : InsnFields)
  | iIns (n : Fin 16) (f : InsnFields)
  | iOuts (n : Fin 16) (f : InsnFields)
  | iMova (n : Fin 16) (f : InsnFields)
  | iAdda (n : Fin 16) (f : InsnFields)
  | iMovas (n : Fin 16) (f : InsnFields)
  | iMovsa (n : Fin 16) (f : InsnFields)
  | iMovs (n : Fin 16) (f : InsnFields)
  | iMovfs (n : Fin 16) (f : InsnFields)
  | iClrf (n : Fin 16) (f : InsnFields)
  | iMovls (n : Fin 16) (f : InsnFields)
  | iVadd (n : Fin 16) (f : InsnFields)
  | iVsub (n : Fin 16) (f : InsnFields)
  | iVmul (n : Fin 16) (f : InsnFields)
  | iVmac (n : Fin 16) (f : InsnFields)
  | iVmuls (n : Fin 16) (f : InsnFields)
  | iVmacs (n : Fin 16) (f : InsnFields)
  | iVabs (n : Fin 16) (f : InsnFields)
  | iVmax (n : Fin 16) (f : InsnFields)
  | iVmin (n : Fin 16) (f : InsnFields)
  | iVclip (n : Fin 16) (f : InsnFields)
  | iVmov (n : Fin 16) (f : InsnFields)
  | iVbcst (n : Fin 16) (f : InsnFields)
  | iVext (n : Fin 16) (f : InsnFields)
  | iVins (n : Fin 16) (f : InsnFields)
  | iVsum (n : Fin 16) (f : InsnFields)
  | iVpeak (n : Fin 16) (f : InsnFields)
  | iSadd (n : Fin 16) (f : InsnFields)
  | iSsub (n : Fin 16) (f : InsnFields)
  | iSmul (n : Fin 16) (f : InsnFields)
  | iSmac (n : Fin 16) (f : InsnFields)
  | iSmax (n : Fin 16) (f : InsnFields)
  | iSmin (n : Fin 16) (f : InsnFields)
  | iScmp (n : Fin 16) (f : InsnFields)
  | iSiadd (n : Fin 16) (f : InsnFields)
  | iSand (n : Fin 16) (f : InsnFields)
  | iSor (n : Fin 16) (f : InsnFields)
  | iSxor (n : Fin 16) (f : InsnFields)
  | iSshf (n : Fin 16) (f : InsnFields)
  | iSicmp (n : Fin 16) (f : InsnFields)
  | iScvtf (n : Fin 16) (f : InsnFields)
  | iScvti (n : Fin 16) (f : InsnFields)
  | iGwamp (n : Fin 16) (f : InsnFields)
  | iMix (n : Fin 16) (f : InsnFields)
  | iMixv (n : Fin 16) (f : InsnFields)
  | iBiq (n : Fin 16) (f : InsnFields)
  | iEnv (n : Fin 16) (f : InsnFields)
  | iVlog2 (n : Fin 16) (f : InsnFields)
  | iVexp2 (n : Fin 16) (f : InsnFields)
  | iGainc (n : Fin 16) (f : InsnFields)
  | iRamp (n : Fin 16) (f : InsnFields)
  | iDqpush (n : Fin 16) (f : InsnFields)
  | iDqpop (n : Fin 16) (f : InsnFields)
  | iSpush (n : Fin 16) (f : InsnFields)
  | iSpushs (n : Fin 16) (f : InsnFields)
  | iSpktOpen (n : Fin 16) (f : InsnFields)
  | iSpktClose (n : Fin 16) (f : InsnFields)
  | iBr (n : Fin 16) (f : InsnFields)
  | iLoop (n : Fin 16) (f : InsnFields)
  | iFend (n : Fin 16) (f : InsnFields)
  | iTrap (n : Fin 16) (f : InsnFields)
  | illegalInstruction (n : Fin 16) (op : BitVec 8) (f : InsnFields)
  -- silos and DMA (chapter 10): `off` is the offset in the silo's window, `bytes` what host memory returns
  | siloOpen (n : Fin 64) (w : BitVec 32)
  | siloClose (n : Fin 64) (w : BitVec 32)
  | siloFlush (n : Fin 64) (w : BitVec 32)
  | siloPktOpen (n : Fin 64) (w : BitVec 32)
  | siloPktClose (n : Fin 64) (w : BitVec 32)
  | siloWindowWrite (n : Fin 64) (off : BitVec 12) (w : BitVec 32)
  | siloWindowPop (p : HostPort) (n : Fin 64) (off : BitVec 12)
  | siloMiddleTransfer (n : Fin 64) (inB outB : Nat)
  | dmaDescSubmit (c : Fin 8) (w : BitVec 32)
  | dmaDoneRead (p : HostPort) (c : Fin 8)
  | dmaDrainBurst (c : Fin 8) (words : Nat)
  | dmaDrainTimeout (c : Fin 8)
  | dmaFillBurst (c : Fin 8) (bytes : List (BitVec 8))
  -- serial ports (chapter 11): `n` is the unit's abort index (Table 11.1), `u` a unit-rate index, `rate` is in 1/16 Hz
  | portStart (n : Fin 26) (w : BitVec 32)
  | portStop (n : Fin 26) (w : BitVec 32)
  | portClearCounters (n : Fin 26) (w : BitVec 32)
  | portStartIndex (n : Fin 26)
  | portStopIndex (n : Fin 26)
  | portFrameRx (n : Fin 26) (u : Nat) (slots : List PortSlot) (glitch f96 : Bool)
  | portFrameTx (n : Fin 26) (u : Nat)
  | portWindowEmpty (n : Fin 26) (rx : Bool)
  | madiCsCaptureArm (m : Fin 2) (w : BitVec 32)
  | monAcquireOk (n : Fin 26) (rate : Nat)
  | monLoss (n : Fin 26)
  | monRate (n : Fin 26) (rate : Nat)
  | monClockReturn (n : Fin 26) (rate : Nat)
  | commonStartGo (w : BitVec 32)
  | commonStartCancel (w : BitVec 32)
  | commonStartFire
  -- analogue inputs and outputs (chapter 12): `h` and `l` are modulator samples in 2^-23 of the combined full scale, `mv` volts × 1000;
  -- output `n` is line output n, or 16 + h for headphone h; `k` numbers a relay driver
  | ainCfgWrite (i : Fin 16) (w : BitVec 32)
  | ainSettleDone (i : Fin 16)
  | combinerSample (i : Fin 16) (h l : Int) (ovl : Bool)
  | combinerSwitchDown (i : Fin 16) (h l : Int)
  | matchOk (i : Fin 16) (gain : BitVec 16)
  | phantomWrite (w : BitVec 32)
  | phantomRefresh
  | phantomSettleDone (i : Fin 16)
  | phantomMonitorSample (i : Fin 16) (mv : Nat)
  | outputStart (n : Fin 18) (w : BitVec 32)
  | outputStop (n : Fin 18) (w : BitVec 32)
  | outputOff (n : Fin 18) (w : BitVec 32)
  | outputCmRampDone (n : Fin 18)
  | outputFadeDone (n : Fin 18)
  | relayTExpire (k : Fin 4)
  | relayDriverWrite (k : Fin 4) (w : BitVec 32)
  | hpShortShutdown (h : Fin 2)
  | hpdetEdge (h : Fin 2) (level : Bool)
  | hpdetDebounceDone (h : Fin 2)
  -- the loudspeaker power stage (chapter 13): `va`, `vb` in millivolts, `ma` the peak current of a switching period in milliamperes,
  -- `v` PVDD in units of 10 mV, `ta` and `td` the dies' temperatures in millidegrees Celsius; `j` an AM register, none for PS_CFG
  | psEnableWrite (w : BitVec 32)
  | psClear (w : BitVec 32)
  | psStart (p : Fin 4) (w : BitVec 32)
  | psStop (p : Fin 4) (w : BitVec 32)
  | psOff (p : Fin 4) (w : BitVec 32)
  | psCmRampDone (p : Fin 4) (va vb : Nat)
  | psFadeDone (p : Fin 4)
  | psSwitchingPeriod (p : Fin 4) (ma : Nat)
  | psClassifyDone (p : Fin 4)
  | psRetryDue (p : Fin 4)
  | psLoopFault (p : Fin 4)
  | psKConfigWrite (j : Option (Fin 8)) (w : BitVec 32)
  | psKRelockDone
  | psKPendingApply
  | pvddFault (v : BitVec 12)
  | pvddOkChange (v : BitVec 12)
  | pilotCycleStart (p : Fin 4)
  | pilotSettleDone (p : Fin 4)
  | pilotMeasureDone (p : Fin 4)
  | dieTempSample (ta : Int) (td : Option Int)
  -- the measurement converters (chapter 14): `code` is the input in units of 2^-22 of full scale
  | mcvGo (c : Fin 4) (w : BitVec 32)
  | mcvRunWrite (c : Fin 4) (w : BitVec 32)
  | mcvCal (c : Fin 4) (w : BitVec 32)
  | mcvTimerTrigger (c : Fin 4)
  | mcvPwmTrigger (c : Fin 4)
  | mtrigEdge (m : Fin 2) (level : Bool)
  | mtrigAccept (m : Fin 2)
  | mcvDelayDone (c : Fin 4)
  | mcvSettleDone (c : Fin 4)
  | mcvIntegrateDone (c : Fin 4)
  | mcvRundownDone (c : Fin 4) (code : Int)
  | mcvScanStart
  | plausTick (k : Fin 2)
  | plausReserveTimeout (k : Fin 2)
  | refBufEnable (w : BitVec 32)
  | refBufReady
  | fallbackSettled (c : Fin 4)
  | owRampDone (i : Fin 16)
  -- twin operation (chapter 15): channel 0 is the twin link, 1 and 2 ports A and B; `ofs` is the partner's sample index minus this
  -- unit's, corrected for the link delay, in 2^-8 core sample; `words` are a page's 256 words; `t` is in units of 10 µs
  | twinModeTwin (w : BitVec 32)
  | twinModeSolo (w : BitVec 32)
  | twinSwap (w : BitVec 32)
  | twinCancel (w : BitVec 32)
  | twinLinkTrained
  | twinLinkDown
  | twinHeartbeatRx (c : Fin 3) (hb : TwinHb) (ofs : Int)
  | twinPageRx (crcOk : Bool) (words : List (BitVec 32))
  | twinCommitRx (push : BitVec 16) (pages total : BitVec 16)
  | twinAckRx (push : BitVec 16)
  | handoverRequestRx
  | handoverReadyRx (h : Nat)
  | handoverCancelRx
  | handoverSwapReqRx
  | heartbeatSend
  | heartbeatMiss (c : Fin 3)
  | ownInRise
  | ownInFall
  | ownGuardExpire
  | pairingTimeout
  | takeoverYieldTimeout
  | takeoverRegionRestore
  | takeoverArmStart (t : BitVec 16)
  | checkingEnd
  | prepareTimeout
  | handoverIndexH
  | revertHoldExpire
  | netYieldExpire
  | imagePush
  | warmTwinSilenceEnd
  | warmPairingResume
  -- management (chapter 16): `ok` says whether the flash took an erase or a programming, `bad` names fuse bits that do not
  -- read back set, `t` is media time in whole nanoseconds when the interrupt handler is entered
  | mpHalt (w : BitVec 32)
  | mpRestart (w : BitVec 32)
  | mpWatchdogExpire (pc : BitVec 32)
  | mpBootDone (bad : BitVec 32)
  | mbGetInfo (p : HostPort) (w : BitVec 32)
  | mbLogRead (p : HostPort) (w : BitVec 32)
  | mbLogMark (p : HostPort) (w : BitVec 32)
  | mbFwBegin (p : HostPort) (w : BitVec 32)
  | mbFwWrite (p : HostPort) (w : BitVec 32)
  | mbFwVerify (p : HostPort) (w : BitVec 32)
  | mbFwActivate (p : HostPort) (w : BitVec 32)
  | mbFwConfirm (p : HostPort) (w : BitVec 32)
  | mbUnknownOp (p : HostPort) (w : BitVec 32)
  | mbCommandDone (ok : Bool) (bad : BitVec 32)
  | sensorPoll (temps supplies : List (BitVec 16))
  | logFlashCopy
  | gpioEdge (n : Fin 16) (level : Bool) (t : Nat)
  | gpioDebounceAccept (n : Fin 16) (t : Nat)
  | gpioEvtRead (p : HostPort)
  | fuseProg (p : HostPort) (w : BitVec 32)
  | fuseProgDone (bad : BitVec 32)
  | fuseLock (w : BitVec 32)
  -- further rows: `n` is the unit's abort INDEX, `rate` in Hz, `ch` the channels of a MADI frame; `split` is a PCIe read whose
  -- byte enables are not contiguous
  | receiverLockAcquired (n : Fin 26) (rate ch : Nat) (f96 : Bool)
  | pcieLinkUp (speed width : BitVec 2)
  | busMasterEnableChange (cmd : BusMaster)
  | powerOnResetRelease (hostSel twinPref : Bool) (bootSrc : BitVec 2)
  | anaRead (p : HostPort) (addr : BitVec 24) (size : AccessSize)
  | misalignedRead (p : HostPort) (addr : BitVec 24) (size : AccessSize) (split : Bool)
  deriving DecidableEq, Repr

end Sys2Proof
end

