-- ==== Sys2Proof/Decode.lean ====
section
/-!
DEFINITION. Command words. spec/opcode_table.json gives none of its rows any bits, so no word spells a command. The encodings the
spec does give, of flits, frames, pages and Spelt instruction words, are read by the meanings that receive them.
-/
namespace Sys2Proof

/-- The command that a word of the table spells: none. -/
def decodeTableWord (_nbits _w : Nat) : Option Instr := none

end Sys2Proof
end

