-- ==== Sys2Proof/Config.lean ====
section
/-!
DEFINITION. What an implementation fixes and the free values: values that the spec says exist and does not state.
None of them has a body, so nothing can be proved about what they are; a claim holds whatever they are.
-/
namespace Sys2Proof.Config

/-- A word the spec leaves open, one for each draw (log entry 1). -/
opaque freeWord : Nat → BitVec 32

/-- A signed quantity the spec leaves open, one for each draw (log entry 1). -/
opaque freeInt : Nat → Int

/-- A number the spec leaves open, one for each draw (log entry 1). -/
opaque freeNat : Nat → Nat

/-- The natural frequency of Vetiver's loop over its bandwidth, in 10^-9, the same at every bandwidth code. The spec gives the loop's
order, its damping and its bandwidths, and not which frequency of the loop a bandwidth names (R93; log entry 20). -/
opaque loopRatio : Nat

/-- The amplitude the route fabric gives a gain in hundredths of a decibel, within ±0.0005 dB (R192; log entry 33). -/
opaque freeAmp : Int → BitVec 32

/-- A coefficient of the integer-ratio filter from one rate to another, by its distance from the middle (R202; log entry 35). -/
opaque filterTap : Nat → Nat → Nat → BitVec 32

/-- A coefficient of an SRC channel's filter from one rate to another, by its distance in 2^-16 core samples from the middle, which is the
channel's delay (R204; log entry 35). -/
opaque srcTap : Nat → Nat → Nat → BitVec 32

/-- What an SRC channel's delay has above 32 core samples, in 2^-16 of one (R209; log entry 35). -/
opaque srcDelay : BitVec 16

/-- A coefficient of a decimation or interpolation filter of Table 12.3, by its code and place (R328; log entry 35). -/
opaque convTap : Nat → Nat → BitVec 32

/-- The pole of an input's first-order high-pass for a corner in mHz at a core rate (R328; log entry 35). -/
opaque hpPole : Nat → Nat → BitVec 32

/-- The trim of G stored at test, for an input and its range, in 0.0001 dB about the 30 dB between the taps (R321, R324; log entry 42). -/
opaque matchTrim : Nat → Nat → BitVec 16

/-- O of R322 in 2^-23 of the H modulator's full scale, from the input and its range: a trim stored at test (R324; log entry 42). -/
opaque matchOffset : Nat → Nat → Int

/-- The derived excursion section (R359) where the transform gives none: a parameter is not positive, or the resonance is at or above half
the core rate. B0, B1, B2, A1, A2 from R_e, BL, MMS, CMS, RMS and the core rate (log entry 45). -/
opaque xlimSection : List (BitVec 32) → Nat → List (BitVec 32)

/-- The factors stored at test, which a converter loads at MEAS power-up (R383): OFS and GAIN of converter and class (log entry 46). -/
opaque factoryOfs : Nat → Nat → BitVec 24

opaque factoryGain : Nat → Nat → BitVec 32

/-- The gain factor a calibration forms from a class's zero point and gain point (R383; log entry 46). -/
opaque calGain : Nat → Int → Int → BitVec 32

/-- The calibrated value of a THERM pin's excitation in amperes, at 10 µA or 100 µA (R386; log entry 46). -/
opaque excitation : Nat → Bool → BitVec 32

/-- The code by which a register flit gives an access of so many bytes (Table 1.1 names the field and gives no code; log entry 107). -/
opaque flitSize : Nat → Nat

/-- The A-die stepping that SYS.ID shows once the Stalk link has come UP (R445; log entry 1). -/
opaque aStep : BitVec 4

end Sys2Proof.Config
end

