-- ==== Sys2Proof/Machine/Table.lean ====
section
/-!
DEFINITION. Small sorted tables of plain data, keyed by a number, for per-unit state that is sparse;
and small list and number helpers.
-/
namespace Sys2Proof.Machine

/-- The entry for key `k`, or `d` where the table lists none. -/
def look {α : Type} (d : α) : List (Nat × α) → Nat → α
  | [], _ => d
  | (j, x) :: t, k => if k = j then x else look d t k

/-- Whether the table lists key `k`. -/
def has {α : Type} (l : List (Nat × α)) (k : Nat) : Bool := l.any (fun e => e.1 == k)

/-- Set the entry for key `k`, keeping the keys in rising order. -/
def upd {α : Type} : List (Nat × α) → Nat → α → List (Nat × α)
  | [], k, x => [(k, x)]
  | (j, y) :: t, k, x =>
    if k < j then (k, x) :: (j, y) :: t
    else if k = j then (k, x) :: t
    else (j, y) :: upd t k x

/-- Remove the entry for key `k`. -/
def del {α : Type} (l : List (Nat × α)) (k : Nat) : List (Nat × α) := l.filter (fun e => e.1 != k)

/-- Add a number to a set kept as a list with no repeats. -/
def addTo (l : List Nat) (k : Nat) : List Nat := if l.contains k then l else l ++ [k]

/-- Remove a number from a set kept as a list. -/
def dropFrom (l : List Nat) (k : Nat) : List Nat := l.filter (fun e => e != k)

/-- Bit `b` of a number. -/
def bitOf (w b : Nat) : Bool := w.testBit b

/-- The bits of a number from `lo` up to `hi`. -/
def bitsOf (w hi lo : Nat) : Nat := (w >>> lo) % 2 ^ (hi + 1 - lo)

/-- The signed value of a two's complement field of `n` bits. -/
def sgn (n w : Nat) : Int :=
  let v := w % 2 ^ n
  if v < 2 ^ (n - 1) then (v : Int) else (v : Int) - (2 ^ n : Nat)

/-- A signed value as a two's complement field of `n` bits. -/
def unsgn (n : Nat) (i : Int) : Nat := (i % ((2 ^ n : Nat) : Int)).toNat

/-- A signed value held within `[-lim, lim]`. -/
def clampI (lim i : Int) : Int := if i > lim then lim else if i < -lim then -lim else i

/-- Fold a function over 0, 1, …, n - 1. -/
def forN {σ : Type} : Nat → (Nat → σ → σ) → σ → σ
  | 0, _, s => s
  | k + 1, f, s => f k (forN k f s)

/-- The numbers 0, 1, …, n - 1 that satisfy `p`, in order. -/
def sel (n : Nat) (p : Nat → Bool) : List Nat := (List.range n).filter p

/-- Replace the element at a place of a list. -/
def setAt {α : Type} : List α → Nat → α → List α
  | [], _, _ => []
  | _ :: t, 0, x => x :: t
  | h :: t, k + 1, x => h :: setAt t k x

end Sys2Proof.Machine
end

