-- ==== Sys2Proof/Machine/Float.lean ====
section
/-!
DEFINITION. Binary32 as the device computes with it (R12, R252 to R256): exact results rounded once to nearest, ties to even,
with an unbounded exponent, then saturated or flushed; conversions, logarithm, exponential and the amplitude of a gain word (R192).
-/
namespace Sys2Proof.Machine

/-- A binary32 word. -/
abbrev F32 := BitVec 32

/-- A result with the sticky events it raised: NV, OV and UN (Table 9.5). -/
structure FRes where
  v : F32
  nv : Bool := false
  ov : Bool := false
  un : Bool := false
  deriving DecidableEq, Repr

/-- The NaN every instruction produces (R252). -/
def nan32 : F32 := 0x7FC00000

/-- A canonical operand (R252): NaN, or a sign and a value of `m × 2^e`. -/
structure FOp where
  nan : Bool := false
  neg : Bool := false
  m : Nat := 0
  e : Int := 0
  deriving DecidableEq, Repr

def isNaN32 (w : F32) : Bool := (w.extractLsb' 23 8) == 0xFF && (w.extractLsb' 0 23) != 0

/-- A word as an operand: denormals are zeros, infinities are the largest magnitude, every NaN is one NaN (R252). -/
def fop (w : F32) : FOp :=
  let neg := w.getLsbD 31
  let x := (w.extractLsb' 23 8).toNat
  let f := (w.extractLsb' 0 23).toNat
  if x = 255 then (if f = 0 then { neg, m := 2 ^ 24 - 1, e := 104 } else { nan := true })
  else if x = 0 then { neg }
  else { neg, m := 2 ^ 23 + f, e := (x : Int) - 150 }

/-- The canonical word of an operand (R252). -/
def canon32 (w : F32) : F32 :=
  let x := (w.extractLsb' 23 8).toNat
  let f := (w.extractLsb' 0 23).toNat
  if x = 255 then (if f = 0 then (w &&& 0x80000000) ||| 0x7F7FFFFF else nan32)
  else if x = 0 then w &&& 0x80000000
  else w

/-- A zero of a sign. -/
def fzero (neg : Bool) : F32 := if neg then 0x80000000 else 0

/-- The number of bits of a number. -/
def bitLen (n : Nat) : Nat := if n = 0 then 0 else Nat.log2 n + 1

/-- Shift a number right by `k` bits and round to nearest, ties to even. -/
def rneShift (m k : Nat) : Nat :=
  if k = 0 then m
  else
    let q := m >>> k
    let r := m % 2 ^ k
    let h := 2 ^ (k - 1)
    if r > h ∨ (r = h ∧ q % 2 = 1) then q + 1 else q

/-- `± m × 2^e`, exact, as a result (R253). -/
def fround (neg : Bool) (m : Nat) (e : Int) : FRes :=
  if m = 0 then { v := fzero neg }
  else
    let l := bitLen m
    let k := l - 24
    let m1 := if l < 24 then m <<< (24 - l) else rneShift m k
    let e1 : Int := if l < 24 then e - (24 - l : Nat) else e + k
    let (m2, e2) := if m1 = 2 ^ 24 then (2 ^ 23, e1 + 1) else (m1, e1)
    let bx := e2 + 150
    let sg : Nat := if neg then 2 ^ 31 else 0
    if bx ≥ 255 then { v := BitVec.ofNat 32 (sg + 0x7F7FFFFF), ov := true }
    else if bx ≤ 0 then { v := fzero neg, un := true }
    else { v := BitVec.ofNat 32 (sg + bx.toNat * 2 ^ 23 + (m2 - 2 ^ 23)) }

/-- The result of an operation with a NaN operand (R253). -/
def fnan : FRes := { v := nan32, nv := true }

/-- An exact signed sum of two dyadics, rounded; an exact zero takes `zneg` (R253). -/
def fsumOf (aneg : Bool) (am : Nat) (ae : Int) (bneg : Bool) (bm : Nat) (be : Int) (zneg : Bool) : FRes :=
  let e := if ae < be then ae else be
  let x : Int := (am <<< (ae - e).toNat : Nat)
  let y : Int := (bm <<< (be - e).toNat : Nat)
  let t := (if aneg then -x else x) + (if bneg then -y else y)
  if t = 0 then { v := fzero zneg } else fround (t < 0) t.natAbs e

/-- a + b. -/
def fadd (a b : F32) : FRes :=
  let x := fop a
  let y := fop b
  if x.nan || y.nan then fnan
  else if x.m = 0 then (if y.m = 0 then { v := fzero (x.neg && y.neg) } else fround y.neg y.m y.e)
  else if y.m = 0 then fround x.neg x.m x.e
  else fsumOf x.neg x.m x.e y.neg y.m y.e false

/-- Change the sign of a word. -/
def fneg (a : F32) : F32 := a ^^^ 0x80000000

/-- Whether a word is an infinity. -/
def isInf32 (w : F32) : Bool := w &&& 0x7FFFFFFF == 0x7F800000

/-- A result as plain binary32 gives it: a magnitude too large is an infinity (R196). -/
def FRes.plain (r : FRes) : F32 := if r.ov then (r.v &&& 0x80000000) ||| 0x7F800000 else r.v

/-- a + b in the route fabric, which keeps infinities (R196). -/
def fabAdd (a b : F32) : F32 :=
  if isNaN32 a || isNaN32 b then nan32
  else if isInf32 a then (if isInf32 b && a != b then nan32 else a)
  else if isInf32 b then b
  else (fadd a b).plain

/-- a − b. -/
def fsub (a b : F32) : FRes := fadd a (fneg b)

/-- a × b. -/
def fmul (a b : F32) : FRes :=
  let x := fop a
  let y := fop b
  if x.nan || y.nan then fnan else fround (x.neg != y.neg) (x.m * y.m) (x.e + y.e)

/-- a × b in the route fabric, which keeps infinities (R196). -/
def fabMul (a b : F32) : F32 :=
  if isNaN32 a || isNaN32 b then nan32
  else if isInf32 a || isInf32 b then
    (if (fop a).m = 0 ∨ (fop b).m = 0 then nan32 else ((a ^^^ b) &&& 0x80000000) ||| 0x7F800000)
  else (fmul a b).plain

/-- A word with a denormal flushed, every NaN one NaN, and an infinity kept (R12). -/
def flush32 (w : F32) : F32 := if isInf32 w then w else canon32 w

/-- a × b + c, rounded once. -/
def ffma (a b c : F32) : FRes :=
  let x := fop a
  let y := fop b
  let z := fop c
  if x.nan || y.nan || z.nan then fnan
  else
    let pneg := x.neg != y.neg
    let pm := x.m * y.m
    if pm = 0 then (if z.m = 0 then { v := fzero (pneg && z.neg) } else fround z.neg z.m z.e)
    else if z.m = 0 then fround pneg pm (x.e + y.e)
    else fsumOf pneg pm (x.e + y.e) z.neg z.m z.e false

/-- The quotient of two numbers, rounded once; the divisor is not 0. -/
def fratio (n d : Nat) : F32 :=
  let k := 30 + bitLen d
  let q := (n <<< k) / d
  let r := (n <<< k) % d
  (fround false (2 * q + (if r = 0 then 0 else 1)) (-(k : Int) - 1)).v

/-- a ÷ b, rounded once as R253 rounds; the divisor is not 0. -/
def fdiv (a b : F32) : FRes :=
  if isNaN32 a || isNaN32 b then fnan
  else
    let x := fop a
    let y := fop b
    let q := (x.m <<< 60) / y.m
    let r := (x.m <<< 60) % y.m
    fround (x.neg != y.neg) (2 * q + (if r = 0 then 0 else 1)) (x.e - y.e - 61)

/-- The order of two operands that are not NaN: whether a < b, with +0 equal to −0. -/
def flt (a b : F32) : Bool :=
  let x := fop a
  let y := fop b
  let v (o : FOp) : Int := let w : Int := (o.m <<< (o.e + 150).toNat : Nat); if o.neg then -w else w
  decide (v x < v y)

/-- |a|. -/
def fabs (a : F32) : FRes := if isNaN32 a then fnan else { v := canon32 a &&& 0x7FFFFFFF }

/-- The larger operand; +0 over −0 (R253). -/
def fmax (a b : F32) : FRes :=
  if isNaN32 a || isNaN32 b then fnan
  else
    let x := canon32 a
    let y := canon32 b
    if flt x y then { v := y } else if flt y x then { v := x } else if x = 0x80000000 then { v := y } else { v := x }

/-- The smaller operand; −0 under +0 (R253). -/
def fmin (a b : F32) : FRes :=
  if isNaN32 a || isNaN32 b then fnan
  else
    let x := canon32 a
    let y := canon32 b
    if flt x y then { v := x } else if flt y x then { v := y } else if x = 0 then { v := y } else { v := x }

/-- The binary32 nearest a signed integer (R254). -/
def fofInt (i : Int) : F32 := (fround (i < 0) i.natAbs 0).v

/-- A signed integer times 2^-s, as a binary32: exact where the integer has at most 24 bits (R160). -/
def fofScaled (i : Int) (s : Nat) : F32 := (fround (i < 0) i.natAbs (-(s : Int))).v

/-- round(x × 2^s), ties to even, of a word that is not NaN; beyond ±2^63 the magnitude stays at 2^63. -/
def fscaled (a : F32) (s : Nat) : Int :=
  let x := fop a
  let e := x.e + s
  let r := if e ≥ 40 then 2 ^ 63 else if e ≥ 0 then x.m <<< e.toNat else rneShift x.m (-e).toNat
  if x.neg then -(r : Int) else r

/-- An integer held within [lo, hi]; the flag says it was out of range. -/
def satI (lo hi i : Int) : Int × Bool := if i < lo then (lo, true) else if hi < i then (hi, true) else (i, false)

/-- The integer nearest a value, saturating (R254). -/
def ftoInt (a : F32) : BitVec 32 × Bool × Bool :=
  if isNaN32 a then (0, true, false)
  else
    let (i, ov) := satI (-(2 ^ 31)) (2 ^ 31 - 1) (fscaled a 0)
    (BitVec.ofInt 32 i, false, ov)

/-- One bit of a logarithm: square a fixed-point number in [1, 2) with 320 fraction bits; a result of 2 or more gives a 1 bit. -/
def logBit (y : Nat) : Bool × Nat :=
  let z := (y * y) >>> 320
  if 2 ^ 321 ≤ z then (true, z / 2) else (false, z)

/-- The first `n` fraction bits of log2 of a fixed-point number in [1, 2) with 320 fraction bits. -/
def logBits : Nat → Nat → Nat → Nat
  | 0, _, acc => acc
  | n + 1, y, acc => let (b, z) := logBit y; logBits n z (2 * acc + (if b then 1 else 0))

/-- log2 of a positive number `m × 2^e` in units of 2^-128, rounded down, with a last bit set where it is not exact. -/
def log2Fixed (m : Nat) (e : Int) : Int :=
  let l := bitLen m
  let y := if l ≤ 321 then m <<< (321 - l) else m >>> (l - 321)
  let f := logBits 128 y 0
  let exact := y = 2 ^ 320
  2 * ((e + l - 1) * 2 ^ 128 + f) + (if exact then 0 else 1)

/-- The binary32 nearest log2|x|; −128 for a zero (R255). -/
def flog2 (a : F32) : FRes :=
  let x := fop a
  if x.nan then fnan
  else if x.m = 0 then { v := 0xC3000000 }
  else
    let v := log2Fixed x.m x.e
    fround (v < 0) v.natAbs (-129)

/-- An integer square root by Newton's steps from above. -/
def isqrtStep : Nat → Nat → Nat → Nat
  | 0, _, x => x
  | n + 1, v, x => let y := (x + v / x) / 2; if y < x then isqrtStep n v y else x

/-- The integer square root of a number below 2^800. -/
def isqrt (v : Nat) : Nat := if v = 0 then 0 else isqrtStep 900 v (2 ^ (bitLen v / 2 + 1))

/-- 2^(i × 2^-k) for the top `n` bits of a k-bit fraction, in fixed point with 256 fraction bits; `root` is 2^(2^-j). -/
def exp2Bits : Nat → Nat → Nat → Nat → Nat
  | 0, _, _, acc => acc
  | n + 1, f, root, acc =>
    let acc := if f.testBit n then (acc * root) >>> 256 else acc
    exp2Bits n f (isqrt (root <<< 256)) acc

/-- 2^f for a fraction f of 128 bits, with 256 fraction bits. -/
def exp2Frac (f : Nat) : Nat := exp2Bits 128 f (isqrt (2 ^ 513)) (2 ^ 256)

/-- The binary32 nearest 2^t for t in units of 2^-128. -/
def fexp2Fixed (t : Int) : FRes :=
  let n := t / (2 ^ 128 : Nat)
  let f := (t % (2 ^ 128 : Nat)).toNat
  if n > 200 then fround false 1 200
  else if n < -200 then fround false 1 (-200)
  else if f = 0 then fround false 1 n
  else fround false (2 * exp2Frac f + 1) (n - 257)

/-- The binary32 nearest 2^x (R255). -/
def fexp2 (a : F32) : FRes :=
  let x := fop a
  if x.nan then fnan
  else
    let e := x.e + 128
    let t : Nat := if x.m = 0 then 0 else if e ≥ 0 then (if e > 200 then 2 ^ 200 else x.m <<< e.toNat) else x.m >>> (-e).toNat
    let t : Nat := if t = 0 ∧ x.m ≠ 0 then 1 else t
    fexp2Fixed (if x.neg then -(t : Int) else t)

/-- log2(10) in units of 2^-128. -/
def log2Ten : Int := log2Fixed 10 0 / 2

/-- A gain word in hundredths of a decibel as it acts: clamped; none for off (R192). -/
def gainWord (g : Nat) : Option Int :=
  if g % 65536 = 0x8000 then none
  else
    let v := sgn 16 g
    some (if v < -12000 then -12000 else if v > 4000 then 4000 else v)

/-- The binary32 nearest 10^(h / 200,000), for `h` in 10^-5 of 2 dB steps: hundredths of a decibel times 100. -/
def ampOf (h : Int) : F32 := (fexp2Fixed (h * log2Ten / 200000)).v

/-- GWAMP (R254): the binary32 nearest the gain word's amplitude. -/
def gwamp (g : Nat) : F32 :=
  match gainWord g with
  | none => 0
  | some v => if v = 0 then 0x3F800000 else ampOf (v * 100)

/-- The amplitude of a gain word where the spec gives only its accuracy of ±0.0005 dB (R192): a free value within that bound,
exactly 1 at 0x0000 and 0 at 0x8000 (log entry 33). -/
def gainAmp (g : Nat) : F32 :=
  match gainWord g with
  | none => 0
  | some v =>
    if v = 0 then 0x3F800000
    else
      let x := Config.freeAmp v
      if (ampOf (v * 100 - 5)).ule x && x.ule (ampOf (v * 100 + 5)) then x else ampOf (v * 100)

/-- The samples of a ramp code at a core rate (R193, Table 7.4); code 15 is the default code, where 15 acts as 3. -/
def rampSamples (rate code dflt : Nat) : Nat :=
  let c := if code = 15 then (if dflt = 15 then 3 else dflt) else code
  look 0 [(1, 24), (2, 48), (3, 96), (4, 240), (5, 480), (6, 960), (7, 2400), (8, 4800), (9, 9600), (10, 24000), (11, 48000),
    (12, 96000), (13, 240000), (14, 480000)] c * (rate / 48000)

/-- A ramp's amplitude at count `k` (R191, R259). -/
def rampAt (aS aT : F32) (k n : Nat) : F32 :=
  if n = 0 ∨ n ≤ k then aT else (ffma (fsub aT aS).v (fratio (k + 1) n) aS).v

/-- The weight (k + 1)/64 of a fade-in, and 1 − (k + 1)/64 of a fade-out (R198). -/
def fadeIn64 (k : Nat) : F32 := if 64 ≤ k + 1 then 0x3F800000 else fratio (k + 1) 64

def fadeOut64 (k : Nat) : F32 := if 64 ≤ k + 1 then 0 else fratio (63 - k) 64

end Sys2Proof.Machine
end

