-- ==== Sys2Proof/Machine/Filter.lean ====
section
/-!
DEFINITION. Sines, and the filters between rates: the integer-ratio filters, the SRC channels, decimation and interpolation
(R190, R200 to R204, R328). The spec gives a filter's kind and its delay, and leaves its coefficients open (log entry 35).
-/
namespace Sys2Proof.Machine

/-! Sines, to 96 bits below the point, rounded once to binary32 (log entry 34) -/

/-- π/2 × 2^96. -/
def halfPi : Nat := 124451306656115542615260972311

/-- The alternating series of the sine from its term `t` of order 2k + 1 on; `t2` is the square of the angle. -/
def sinSeries (t2 : Nat) : Nat → Nat → Nat → Int
  | 0, _, _ => 0
  | f + 1, k, t => (t : Int) - sinSeries t2 f (k + 1) (t * t2 / 2 ^ 96 / ((2 * k + 2) * (2 * k + 3)))

/-- The sine of an angle of the first quadrant, both × 2^96. -/
def sinOf (a : Nat) : Int := sinSeries (a * a / 2 ^ 96) 18 0 a

/-- sin(π/2 × p/q) × 2^96 for p up to q. -/
def sinFix (p q : Nat) : Int := sinOf (halfPi * p / q)

/-- sin(π/2 × p/q) for p up to q. -/
def sinQuarter (p q : Nat) : F32 := fofScaled (sinFix p q) 96

/-- sin(2π × p/q) for p below q. -/
def sinTurn (p q : Nat) : F32 :=
  let r := 4 * p % q
  match 4 * p / q with
  | 0 => sinQuarter r q
  | 1 => sinQuarter (q - r) q
  | 2 => fofScaled (-(sinFix r q)) 96
  | _ => fofScaled (-(sinFix (q - r) q)) 96

/-- The equal-power weights cos(π/2 × k/n) and sin(π/2 × k/n) (R190). -/
def cosWeight (k n : Nat) : F32 := sinQuarter (n - k) n
def sinWeight (k n : Nat) : F32 := sinQuarter k n

/-! Filters -/

/-- A coefficient: a number from −1 up to 1. -/
def coef (w : BitVec 32) : F32 := fofScaled w.toInt 31

/-- The sum of products of coefficients with samples, from the first place on. -/
def firSum (tap : Nat → F32) (xs : List F32) : F32 :=
  ((List.range xs.length).zip xs).foldl (fun a e => (ffma (tap e.1) e.2 a).v) 0

/-- A linear-phase filter that delays by `h` places of its stream: coefficients symmetric about place `h`. `v i` is the sample `i`
places back. -/
def linearPhase (tap : Nat → F32) (h : Nat) (v : Nat → F32) : F32 :=
  firSum (fun i => tap (if i ≤ h then h - i else i - h)) ((List.range (2 * h + 1)).map v)

/-- The delay of the integer-ratio filter between two rates, in samples of the higher: 8 or 16 core samples for a ratio of 2, 6 core
samples for a ratio of 4 (Table 7.7). -/
def filterDelay (a b : Nat) : Nat := if max a b = 4 * min a b then 24 else 16

/-- The sample at index `y` of rate `b` of a signal given at rate `a`, which is the signal at that index's time less the filter's delay
(R201, R202). Between the samples of a lower rate the higher has zeros. -/
def resample (a b : Nat) (x : Nat → F32) (y : Nat) : F32 :=
  let hi := max a b
  let p := y * (hi / b)
  let up := hi / a
  linearPhase (fun i => coef (Config.filterTap a b i)) (filterDelay a b)
    (fun i => if i ≤ p ∧ (p - i) % up = 0 then x ((p - i) / up) else 0)

/-- The delay of a filter of Table 12.3 in core samples. -/
def convDelay (f : Nat) : Nat := look 18 [(1, 10), (2, 5)] f

/-- A coefficient of the filter of code `f` at place `i` of a stream at 8 times the core rate (R328): codes 0 and 1 are linear phase with
their middle at place `h`, code 2 is minimum phase. `h` is the delay of Table 12.3. -/
def convAt (f h i : Nat) : F32 :=
  if f = 2 then coef (Config.convTap 2 i) else coef (Config.convTap f (if i ≤ h then h - i else i - h))

/-- The places the filter covers: those up to twice its delay. -/
def convSpan (h : Nat) : Nat := 2 * h + 1

/-- A filter code as it acts: 3 acts as 0. -/
def convCode (f : Nat) : Nat := if f = 3 then 0 else f

/-- Decimation: a core sample from the samples at 8 times the core rate, newest first. The combiner's delay of one core sample is part
of the filter's delay in Table 12.3. -/
def decimate (f : Nat) (xs : List F32) : F32 :=
  let h := 8 * (convDelay f - 1)
  firSum (convAt f h) (xs.take (convSpan h))

/-- Interpolation: sample `m` of 8 within a core sample, from core samples, newest first. -/
def interpolate (f m : Nat) (xs : List F32) : F32 :=
  let h := 8 * convDelay f
  firSum (fun t => convAt f h (m + 8 * t)) (xs.take ((convSpan h - m + 7) / 8))

/-- The samples of a unit that an SRC channel's filter covers: those of 56 core samples and one more (R204, R209). -/
def srcSpan (unit core : Nat) : Nat := 56 * unit / core + 1

/-- The delay of an SRC channel in 2^-16 core samples: 32 to 33 of them (R209). -/
def srcDelay : Nat := 32 * 65536 + Config.srcDelay.toNat

/-- A converted sample of an SRC channel from rate `a` to rate `b` (R204): a sum over the samples within 21 core samples of its delay, each
with its age in 2^-16 core samples, newest first, with coefficients symmetric about the delay. -/
def srcSample (a b : Nat) (xs : List (Nat × F32)) : F32 :=
  xs.foldl (fun y e =>
    let d := max e.1 srcDelay - min e.1 srcDelay
    if d ≤ 21 * 65536 then (ffma (coef (Config.srcTap a b d)) e.2 y).v else y) 0

end Sys2Proof.Machine
end

