-- ==== Sys2Proof/Machine/RegsAna.lean ====
section
/-!
DEFINITION. The registers and fields of the ANA block, by the manual's names: byte addresses in BAR0 and bit ranges,
from the register tables of spec/ chapters 12, 13, 14 (R4, R5). An array register takes its index as an argument.
-/
namespace Sys2Proof.Machine.R

/-- Base of the registers of analogue output `n`: 0 to 15 are the line outputs, 16 and 17 are HP_0 and HP_1 (Table 12.11). -/
def outBase (n : Nat) : Nat :=
  if n < 16 then 0x72400 + 0x20 * n else 0x72800 + 0x20 * (n - 16)

/-- Table 12.8. -/
def ANA_IN_SUM : Nat := 0x70000
def ANA_IN_SUM_SUM : Field := ⟨ANA_IN_SUM, 15, 0⟩

/-- Table 12.8. -/
def ANA_PHANTOM : Nat := 0x70100
def ANA_PHANTOM_ON : Field := ⟨ANA_PHANTOM, 15, 0⟩

/-- Table 12.8. -/
def ANA_PH_CFG : Nat := 0x70104
def ANA_PH_CFG_INV : Field := ⟨ANA_PH_CFG, 0, 0⟩
def ANA_PH_CFG_REFRESH : Field := ⟨ANA_PH_CFG, 1, 1⟩
def ANA_PH_CFG_SETTLE : Field := ⟨ANA_PH_CFG, 4, 2⟩
def ANA_PH_CFG_NOLOAD : Field := ⟨ANA_PH_CFG, 15, 8⟩

/-- Table 12.9. -/
def ANA_IN_CFG (n : Nat) : Nat := 0x70400 + 0x20 * n
def ANA_IN_CFG_EN (n : Nat) : Field := ⟨ANA_IN_CFG n, 0, 0⟩
def ANA_IN_CFG_RANGE (n : Nat) : Field := ⟨ANA_IN_CFG n, 1, 1⟩
def ANA_IN_CFG_FORCE (n : Nat) : Field := ⟨ANA_IN_CFG n, 3, 2⟩
def ANA_IN_CFG_XO_DN (n : Nat) : Field := ⟨ANA_IN_CFG n, 5, 4⟩
def ANA_IN_CFG_HOLD (n : Nat) : Field := ⟨ANA_IN_CFG n, 7, 6⟩
def ANA_IN_CFG_DFILT (n : Nat) : Field := ⟨ANA_IN_CFG n, 9, 8⟩
def ANA_IN_CFG_HPF (n : Nat) : Field := ⟨ANA_IN_CFG n, 11, 10⟩
def ANA_IN_CFG_INV (n : Nat) : Field := ⟨ANA_IN_CFG n, 12, 12⟩

/-- Table 12.9. -/
def ANA_IN_STATUS (n : Nat) : Nat := 0x70404 + 0x20 * n
def ANA_IN_STATUS_STATE (n : Nat) : Field := ⟨ANA_IN_STATUS n, 1, 0⟩
def ANA_IN_STATUS_PATH (n : Nat) : Field := ⟨ANA_IN_STATUS n, 2, 2⟩
def ANA_IN_STATUS_CLIP (n : Nat) : Field := ⟨ANA_IN_STATUS n, 3, 3⟩
def ANA_IN_STATUS_PH (n : Nat) : Field := ⟨ANA_IN_STATUS n, 6, 4⟩
def ANA_IN_STATUS_PRESENCE (n : Nat) : Field := ⟨ANA_IN_STATUS n, 8, 7⟩
def ANA_IN_STATUS_MATCH_OK (n : Nat) : Field := ⟨ANA_IN_STATUS n, 9, 9⟩

/-- Table 12.9. -/
def ANA_IN_EVENT (n : Nat) : Nat := 0x70408 + 0x20 * n
def ANA_IN_EVENT_CLIP (n : Nat) : Field := ⟨ANA_IN_EVENT n, 0, 0⟩
def ANA_IN_EVENT_XO (n : Nat) : Field := ⟨ANA_IN_EVENT n, 1, 1⟩
def ANA_IN_EVENT_PH (n : Nat) : Field := ⟨ANA_IN_EVENT n, 2, 2⟩
def ANA_IN_EVENT_PRESENCE (n : Nat) : Field := ⟨ANA_IN_EVENT n, 3, 3⟩
def ANA_IN_EVENT_STATE (n : Nat) : Field := ⟨ANA_IN_EVENT n, 4, 4⟩

/-- Table 12.9. -/
def ANA_IN_EVENT_EN (n : Nat) : Nat := 0x7040C + 0x20 * n
def ANA_IN_EVENT_EN_EN (n : Nat) : Field := ⟨ANA_IN_EVENT_EN n, 4, 0⟩

/-- Table 12.9. -/
def ANA_IN_CLIP_CNT (n : Nat) : Nat := 0x70410 + 0x20 * n
def ANA_IN_CLIP_CNT_COUNT (n : Nat) : Field := ⟨ANA_IN_CLIP_CNT n, 31, 0⟩

/-- Table 12.9. -/
def ANA_IN_XO_CNT (n : Nat) : Nat := 0x70414 + 0x20 * n
def ANA_IN_XO_CNT_COUNT (n : Nat) : Field := ⟨ANA_IN_XO_CNT n, 31, 0⟩

/-- Table 12.9. -/
def ANA_IN_MATCH (n : Nat) : Nat := 0x70418 + 0x20 * n
def ANA_IN_MATCH_GAIN (n : Nat) : Field := ⟨ANA_IN_MATCH n, 15, 0⟩

/-- Table 12.9. -/
def ANA_IN_PEAK (n : Nat) : Nat := 0x7041C + 0x20 * n
def ANA_IN_PEAK_PEAK (n : Nat) : Field := ⟨ANA_IN_PEAK n, 31, 0⟩

/-- Table 12.10. -/
def ANA_OUT_CFG : Nat := 0x72000
def ANA_OUT_CFG_CM_RAMP : Field := ⟨ANA_OUT_CFG, 1, 0⟩
def ANA_OUT_CFG_RELAY_T : Field := ⟨ANA_OUT_CFG, 7, 4⟩

/-- Table 12.10. -/
def ANA_OUT_SUM : Nat := 0x72004
def ANA_OUT_SUM_SUM : Field := ⟨ANA_OUT_SUM, 17, 0⟩

/-- Table 12.10. -/
def ANA_MUTE (n : Nat) : Nat := 0x72100 + 0x4 * n
def ANA_MUTE_GROUP (n : Nat) : Field := ⟨ANA_MUTE n, 2, 0⟩
def ANA_MUTE_HOST_MUTE (n : Nat) : Field := ⟨ANA_MUTE n, 3, 3⟩
def ANA_MUTE_ASSERTED (n : Nat) : Field := ⟨ANA_MUTE n, 4, 4⟩

/-- Table 12.11. -/
def ANA_O_CTRL (n : Nat) : Nat := outBase n
def ANA_O_CTRL_CMD (n : Nat) : Field := ⟨ANA_O_CTRL n, 1, 0⟩

/-- Table 12.11. -/
def ANA_O_CFG (n : Nat) : Nat := outBase n + 0x4
def ANA_O_CFG_IFILT (n : Nat) : Field := ⟨ANA_O_CFG n, 1, 0⟩
def ANA_O_CFG_LEVEL (n : Nat) : Field := ⟨ANA_O_CFG n, 2, 2⟩
def ANA_O_CFG_AUTO (n : Nat) : Field := ⟨ANA_O_CFG n, 2, 2⟩
def ANA_O_CFG_INV (n : Nat) : Field := ⟨ANA_O_CFG n, 3, 3⟩
def ANA_O_CFG_DET_POL (n : Nat) : Field := ⟨ANA_O_CFG n, 3, 3⟩
def ANA_O_CFG_DEBOUNCE (n : Nat) : Field := ⟨ANA_O_CFG n, 7, 4⟩

/-- Table 12.11. -/
def ANA_O_STATUS (n : Nat) : Nat := outBase n + 0x8
def ANA_O_STATUS_STATE (n : Nat) : Field := ⟨ANA_O_STATUS n, 2, 0⟩
def ANA_O_STATUS_CLIP (n : Nat) : Field := ⟨ANA_O_STATUS n, 3, 3⟩
def ANA_O_STATUS_JACK (n : Nat) : Field := ⟨ANA_O_STATUS n, 4, 4⟩
def ANA_O_STATUS_JACK_MUTED (n : Nat) : Field := ⟨ANA_O_STATUS n, 5, 5⟩
def ANA_O_STATUS_SC (n : Nat) : Field := ⟨ANA_O_STATUS n, 6, 6⟩

/-- Table 12.11. -/
def ANA_O_EVENT (n : Nat) : Nat := outBase n + 0xC
def ANA_O_EVENT_STATE (n : Nat) : Field := ⟨ANA_O_EVENT n, 0, 0⟩
def ANA_O_EVENT_CLIP (n : Nat) : Field := ⟨ANA_O_EVENT n, 1, 1⟩
def ANA_O_EVENT_GROUP_MUTE (n : Nat) : Field := ⟨ANA_O_EVENT n, 2, 2⟩
def ANA_O_EVENT_JACK_IN (n : Nat) : Field := ⟨ANA_O_EVENT n, 3, 3⟩
def ANA_O_EVENT_JACK_OUT (n : Nat) : Field := ⟨ANA_O_EVENT n, 4, 4⟩
def ANA_O_EVENT_SC (n : Nat) : Field := ⟨ANA_O_EVENT n, 5, 5⟩

/-- Table 12.11. -/
def ANA_O_EVENT_EN (n : Nat) : Nat := outBase n + 0x10
def ANA_O_EVENT_EN_EN (n : Nat) : Field := ⟨ANA_O_EVENT_EN n, 5, 0⟩

/-- Table 12.11. -/
def ANA_O_CLIP_CNT (n : Nat) : Nat := outBase n + 0x14
def ANA_O_CLIP_CNT_COUNT (n : Nat) : Field := ⟨ANA_O_CLIP_CNT n, 31, 0⟩

/-- Table 12.11. -/
def ANA_O_CNT (n : Nat) : Nat := outBase n + 0x18
def ANA_O_CNT_DET_OVF (n : Nat) : Field := ⟨ANA_O_CNT n, 15, 0⟩
def ANA_O_CNT_SC_CNT (n : Nat) : Field := ⟨ANA_O_CNT n, 31, 16⟩

/-- Table 13.8. -/
def PS_CTRL : Nat := 0x74000
def PS_CTRL_EN : Field := ⟨PS_CTRL, 3, 0⟩

/-- Table 13.8. -/
def PS_CLEAR : Nat := 0x74004
def PS_CLEAR_CLEAR : Field := ⟨PS_CLEAR, 3, 0⟩

/-- Table 13.8. -/
def PS_CFG : Nat := 0x74008
def PS_CFG_K : Field := ⟨PS_CFG, 4, 0⟩
def PS_CFG_K_AUTO : Field := ⟨PS_CFG, 5, 5⟩
def PS_CFG_MCV : Field := ⟨PS_CFG, 7, 6⟩
def PS_CFG_AM_GUARD : Field := ⟨PS_CFG, 15, 8⟩
def PS_CFG_CM_RAMP : Field := ⟨PS_CFG, 17, 16⟩

/-- Table 13.8. -/
def PS_STATUS : Nat := 0x7400C
def PS_STATUS_K_NOW : Field := ⟨PS_STATUS, 4, 0⟩
def PS_STATUS_K_NEXT : Field := ⟨PS_STATUS, 9, 5⟩
def PS_STATUS_K_PENDING : Field := ⟨PS_STATUS, 10, 10⟩
def PS_STATUS_AM_CONFLICT : Field := ⟨PS_STATUS, 11, 11⟩
def PS_STATUS_CLEAR : Field := ⟨PS_STATUS, 19, 12⟩
def PS_STATUS_PVDD_OK : Field := ⟨PS_STATUS, 20, 20⟩
def PS_STATUS_DERATING : Field := ⟨PS_STATUS, 21, 21⟩
def PS_STATUS_DIE_HOT : Field := ⟨PS_STATUS, 22, 22⟩

/-- Table 13.8. -/
def PS_PVDD : Nat := 0x74010
def PS_PVDD_V : Field := ⟨PS_PVDD, 11, 0⟩
def PS_PVDD_GR_DIE : Field := ⟨PS_PVDD, 23, 16⟩

/-- Table 13.8. -/
def PS_SUM : Nat := 0x74014
def PS_SUM_SUM : Field := ⟨PS_SUM, 4, 0⟩

/-- Table 13.8. -/
def PS_EVENT : Nat := 0x74018
def PS_EVENT_EVENT : Field := ⟨PS_EVENT, 6, 0⟩

/-- Table 13.8. -/
def PS_EVENT_EN : Nat := 0x7401C
def PS_EVENT_EN_EN : Field := ⟨PS_EVENT_EN, 6, 0⟩

/-- Table 13.8. -/
def PS_AM (n : Nat) : Nat := 0x74020 + 0x4 * n
def PS_AM_FREQ (n : Nat) : Field := ⟨PS_AM n, 11, 0⟩

/-- Table 13.9. -/
def PSC_CTRL (n : Nat) : Nat := 0x74400 + 0x100 * n
def PSC_CTRL_CMD (n : Nat) : Field := ⟨PSC_CTRL n, 1, 0⟩

/-- Table 13.9. -/
def PSC_CFG (n : Nat) : Nat := 0x74404 + 0x100 * n
def PSC_CFG_VFS (n : Nat) : Field := ⟨PSC_CFG n, 11, 0⟩
def PSC_CFG_PHASE (n : Nat) : Field := ⟨PSC_CFG n, 14, 12⟩
def PSC_CFG_INV (n : Nat) : Field := ⟨PSC_CFG n, 15, 15⟩
def PSC_CFG_PILOT_EN (n : Nat) : Field := ⟨PSC_CFG n, 16, 16⟩
def PSC_CFG_XLIM_EN (n : Nat) : Field := ⟨PSC_CFG n, 17, 17⟩
def PSC_CFG_TLIM_EN (n : Nat) : Field := ⟨PSC_CFG n, 18, 18⟩
def PSC_CFG_MODEL (n : Nat) : Field := ⟨PSC_CFG n, 19, 19⟩

/-- Table 13.9. -/
def PSC_LC (n : Nat) : Nat := 0x74408 + 0x100 * n
def PSC_LC_L_DIFF (n : Nat) : Field := ⟨PSC_LC n, 15, 0⟩
def PSC_LC_C_DIFF (n : Nat) : Field := ⟨PSC_LC n, 31, 16⟩

/-- Table 13.9. -/
def PSC_ILIM (n : Nat) : Nat := 0x7440C + 0x100 * n
def PSC_ILIM_LIMIT (n : Nat) : Field := ⟨PSC_ILIM n, 6, 0⟩
def PSC_ILIM_RSHORT (n : Nat) : Field := ⟨PSC_ILIM n, 15, 8⟩

/-- Table 13.9. -/
def PSC_STATUS (n : Nat) : Nat := 0x74410 + 0x100 * n
def PSC_STATUS_STATE (n : Nat) : Field := ⟨PSC_STATUS n, 3, 0⟩
def PSC_STATUS_FAULT (n : Nat) : Field := ⟨PSC_STATUS n, 6, 4⟩
def PSC_STATUS_XLIM (n : Nat) : Field := ⟨PSC_STATUS n, 7, 7⟩
def PSC_STATUS_TLIM (n : Nat) : Field := ⟨PSC_STATUS n, 8, 8⟩
def PSC_STATUS_CLIP (n : Nat) : Field := ⟨PSC_STATUS n, 9, 9⟩
def PSC_STATUS_RE_VALID (n : Nat) : Field := ⟨PSC_STATUS n, 10, 10⟩
def PSC_STATUS_RETRIES (n : Nat) : Field := ⟨PSC_STATUS n, 14, 11⟩
def PSC_STATUS_RESULT (n : Nat) : Field := ⟨PSC_STATUS n, 18, 16⟩

/-- Table 13.9. -/
def PSC_EVENT (n : Nat) : Nat := 0x74414 + 0x100 * n
def PSC_EVENT_EVENT (n : Nat) : Field := ⟨PSC_EVENT n, 13, 0⟩

/-- Table 13.9. -/
def PSC_EVENT_EN (n : Nat) : Nat := 0x74418 + 0x100 * n
def PSC_EVENT_EN_EN (n : Nat) : Field := ⟨PSC_EVENT_EN n, 13, 0⟩

/-- Table 13.9. -/
def PSC_SHUT_CNT (n : Nat) : Nat := 0x7441C + 0x100 * n
def PSC_SHUT_CNT_COUNT (n : Nat) : Field := ⟨PSC_SHUT_CNT n, 31, 0⟩

/-- Table 13.9. -/
def PSC_ILIM_CNT (n : Nat) : Nat := 0x74420 + 0x100 * n
def PSC_ILIM_CNT_COUNT (n : Nat) : Field := ⟨PSC_ILIM_CNT n, 31, 0⟩

/-- Table 13.9. -/
def PSC_CLIP_CNT (n : Nat) : Nat := 0x74424 + 0x100 * n
def PSC_CLIP_CNT_COUNT (n : Nat) : Field := ⟨PSC_CLIP_CNT n, 31, 0⟩

/-- Table 13.9. -/
def PSC_GR (n : Nat) : Nat := 0x74428 + 0x100 * n
def PSC_GR_XLIM (n : Nat) : Field := ⟨PSC_GR n, 7, 0⟩
def PSC_GR_TLIM (n : Nat) : Field := ⟨PSC_GR n, 15, 8⟩

/-- Table 13.10. -/
def PSC_RE_NOM (n : Nat) : Nat := 0x74440 + 0x100 * n
def PSC_RE_NOM_RE_NOM (n : Nat) : Field := ⟨PSC_RE_NOM n, 31, 0⟩

/-- Table 13.10. -/
def PSC_BL (n : Nat) : Nat := 0x74444 + 0x100 * n
def PSC_BL_BL (n : Nat) : Field := ⟨PSC_BL n, 31, 0⟩

/-- Table 13.10. -/
def PSC_MMS (n : Nat) : Nat := 0x74448 + 0x100 * n
def PSC_MMS_MMS (n : Nat) : Field := ⟨PSC_MMS n, 31, 0⟩

/-- Table 13.10. -/
def PSC_CMS (n : Nat) : Nat := 0x7444C + 0x100 * n
def PSC_CMS_CMS (n : Nat) : Field := ⟨PSC_CMS n, 31, 0⟩

/-- Table 13.10. -/
def PSC_RMS (n : Nat) : Nat := 0x74450 + 0x100 * n
def PSC_RMS_RMS (n : Nat) : Field := ⟨PSC_RMS n, 31, 0⟩

/-- Table 13.10. -/
def PSC_XMAX (n : Nat) : Nat := 0x74454 + 0x100 * n
def PSC_XMAX_XMAX (n : Nat) : Field := ⟨PSC_XMAX n, 31, 0⟩

/-- Table 13.10. -/
def PSC_XLIM_CFG (n : Nat) : Nat := 0x74458 + 0x100 * n
def PSC_XLIM_CFG_XPCT (n : Nat) : Field := ⟨PSC_XLIM_CFG n, 7, 0⟩
def PSC_XLIM_CFG_XREL (n : Nat) : Field := ⟨PSC_XLIM_CFG n, 15, 8⟩

/-- Table 13.10. -/
def PSC_THERM_CFG (n : Nat) : Nat := 0x7445C + 0x100 * n
def PSC_THERM_CFG_T_REF (n : Nat) : Field := ⟨PSC_THERM_CFG n, 7, 0⟩
def PSC_THERM_CFG_T_LIM (n : Nat) : Field := ⟨PSC_THERM_CFG n, 15, 8⟩
def PSC_THERM_CFG_MATERIAL (n : Nat) : Field := ⟨PSC_THERM_CFG n, 16, 16⟩
def PSC_THERM_CFG_T_AMB (n : Nat) : Field := ⟨PSC_THERM_CFG n, 31, 24⟩

/-- Table 13.10. -/
def PSC_RTV (n : Nat) : Nat := 0x74460 + 0x100 * n
def PSC_RTV_RTV (n : Nat) : Field := ⟨PSC_RTV n, 31, 0⟩

/-- Table 13.10. -/
def PSC_TAUV (n : Nat) : Nat := 0x74464 + 0x100 * n
def PSC_TAUV_TAUV (n : Nat) : Field := ⟨PSC_TAUV n, 31, 0⟩

/-- Table 13.10. -/
def PSC_RTM (n : Nat) : Nat := 0x74468 + 0x100 * n
def PSC_RTM_RTM (n : Nat) : Field := ⟨PSC_RTM n, 31, 0⟩

/-- Table 13.10. -/
def PSC_TAUM (n : Nat) : Nat := 0x7446C + 0x100 * n
def PSC_TAUM_TAUM (n : Nat) : Field := ⟨PSC_TAUM n, 31, 0⟩

/-- Table 13.10. -/
def PSC_PILOT (n : Nat) : Nat := 0x74470 + 0x100 * n
def PSC_PILOT_AMP (n : Nat) : Field := ⟨PSC_PILOT n, 9, 0⟩
def PSC_PILOT_INTERVAL (n : Nat) : Field := ⟨PSC_PILOT n, 15, 10⟩

/-- Table 13.10. -/
def PSC_RE_MEAS (n : Nat) : Nat := 0x74480 + 0x100 * n
def PSC_RE_MEAS_RE_MEAS (n : Nat) : Field := ⟨PSC_RE_MEAS n, 31, 0⟩

/-- Table 13.10. -/
def PSC_T_COIL (n : Nat) : Nat := 0x74484 + 0x100 * n
def PSC_T_COIL_T_COIL (n : Nat) : Field := ⟨PSC_T_COIL n, 31, 0⟩

/-- Table 13.10. -/
def PSC_X_PEAK (n : Nat) : Nat := 0x74488 + 0x100 * n
def PSC_X_PEAK_X_PEAK (n : Nat) : Field := ⟨PSC_X_PEAK n, 31, 0⟩

/-- Table 13.10. -/
def PSC_BQ (n : Nat) (k : Nat) : Nat := 0x74490 + 0x100 * n + 0x4 * k
def PSC_BQ_COEF (n : Nat) (k : Nat) : Field := ⟨PSC_BQ n k, 31, 0⟩

/-- Table 14.7. -/
def MCV_SUM : Nat := 0x76000
def MCV_SUM_SUM : Field := ⟨MCV_SUM, 4, 0⟩

/-- Table 14.7. -/
def MCV_MAINS : Nat := 0x76004
def MCV_MAINS_FREQ : Field := ⟨MCV_MAINS, 12, 0⟩

/-- Table 14.7. -/
def MCV_REF_CTRL : Nat := 0x76008
def MCV_REF_CTRL_BUF_EN : Field := ⟨MCV_REF_CTRL, 0, 0⟩

/-- Table 14.7. -/
def MCV_REF_STATUS : Nat := 0x7600C
def MCV_REF_STATUS_BUF_READY : Field := ⟨MCV_REF_STATUS, 0, 0⟩
def MCV_REF_STATUS_BUF_FAULT : Field := ⟨MCV_REF_STATUS, 1, 1⟩
def MCV_REF_STATUS_FB_SETTLED : Field := ⟨MCV_REF_STATUS, 5, 2⟩

/-- Table 14.7. -/
def MCV_EVENT : Nat := 0x76010
def MCV_EVENT_EVENT : Field := ⟨MCV_EVENT, 2, 0⟩

/-- Table 14.7. -/
def MCV_EVENT_EN : Nat := 0x76014
def MCV_EVENT_EN_EN : Field := ⟨MCV_EVENT_EN, 2, 0⟩

/-- Table 14.7. -/
def MCV_OW_CTRL : Nat := 0x76020
def MCV_OW_CTRL_IN_EN : Field := ⟨MCV_OW_CTRL, 15, 0⟩
def MCV_OW_CTRL_THERM_EN : Field := ⟨MCV_OW_CTRL, 19, 16⟩

/-- Table 14.7. -/
def MCV_OW_CFG : Nat := 0x76024
def MCV_OW_CFG_IN_I : Field := ⟨MCV_OW_CFG, 1, 0⟩
def MCV_OW_CFG_THERM_I : Field := ⟨MCV_OW_CFG, 2, 2⟩
def MCV_OW_CFG_SCAN_MCV : Field := ⟨MCV_OW_CFG, 5, 4⟩
def MCV_OW_CFG_SCAN_EN : Field := ⟨MCV_OW_CFG, 6, 6⟩

/-- Table 14.7. -/
def MCV_OW_STATUS : Nat := 0x76028
def MCV_OW_STATUS_ON : Field := ⟨MCV_OW_STATUS, 15, 0⟩
def MCV_OW_STATUS_THERM_ON : Field := ⟨MCV_OW_STATUS, 19, 16⟩
def MCV_OW_STATUS_THERM_OPEN : Field := ⟨MCV_OW_STATUS, 23, 20⟩
def MCV_OW_STATUS_THERM_SHORT : Field := ⟨MCV_OW_STATUS, 27, 24⟩

/-- Table 14.7. -/
def MCV_MTRIG_CFG : Nat := 0x76030
def MCV_MTRIG_CFG_DEB0 : Field := ⟨MCV_MTRIG_CFG, 7, 0⟩
def MCV_MTRIG_CFG_DEB1 : Field := ⟨MCV_MTRIG_CFG, 23, 16⟩

/-- Table 14.7. -/
def MCV_MTRIG_CNT : Nat := 0x76034
def MCV_MTRIG_CNT_OVF0 : Field := ⟨MCV_MTRIG_CNT, 15, 0⟩
def MCV_MTRIG_CNT_OVF1 : Field := ⟨MCV_MTRIG_CNT, 31, 16⟩

/-- Table 14.7. -/
def MCV_PLAUS_CFG (n : Nat) : Nat := 0x76040 + 0x8 * n
def MCV_PLAUS_CFG_A (n : Nat) : Field := ⟨MCV_PLAUS_CFG n, 1, 0⟩
def MCV_PLAUS_CFG_B (n : Nat) : Field := ⟨MCV_PLAUS_CFG n, 3, 2⟩
def MCV_PLAUS_CFG_CH (n : Nat) : Field := ⟨MCV_PLAUS_CFG n, 8, 4⟩
def MCV_PLAUS_CFG_EN (n : Nat) : Field := ⟨MCV_PLAUS_CFG n, 9, 9⟩
def MCV_PLAUS_CFG_TOL (n : Nat) : Field := ⟨MCV_PLAUS_CFG n, 23, 16⟩
def MCV_PLAUS_CFG_PERIOD (n : Nat) : Field := ⟨MCV_PLAUS_CFG n, 31, 24⟩

/-- Table 14.7. -/
def MCV_PLAUS_STATUS (n : Nat) : Nat := 0x76044 + 0x8 * n
def MCV_PLAUS_STATUS_FAIL (n : Nat) : Field := ⟨MCV_PLAUS_STATUS n, 0, 0⟩
def MCV_PLAUS_STATUS_FAIL_CNT (n : Nat) : Field := ⟨MCV_PLAUS_STATUS n, 15, 8⟩
def MCV_PLAUS_STATUS_SKIP_CNT (n : Nat) : Field := ⟨MCV_PLAUS_STATUS n, 31, 16⟩

/-- Table 14.8. -/
def MCVC_CTRL (n : Nat) : Nat := 0x76100 + 0x80 * n
def MCVC_CTRL_GO (n : Nat) : Field := ⟨MCVC_CTRL n, 0, 0⟩
def MCVC_CTRL_RUN (n : Nat) : Field := ⟨MCVC_CTRL n, 1, 1⟩
def MCVC_CTRL_CAL (n : Nat) : Field := ⟨MCVC_CTRL n, 2, 2⟩

/-- Table 14.8. -/
def MCVC_CFG (n : Nat) : Nat := 0x76104 + 0x80 * n
def MCVC_CFG_CH (n : Nat) : Field := ⟨MCVC_CFG n, 4, 0⟩
def MCVC_CFG_TRIG (n : Nat) : Field := ⟨MCVC_CFG n, 7, 5⟩
def MCVC_CFG_TINT (n : Nat) : Field := ⟨MCVC_CFG n, 10, 8⟩
def MCVC_CFG_SETTLE (n : Nat) : Field := ⟨MCVC_CFG n, 12, 11⟩
def MCVC_CFG_AVG (n : Nat) : Field := ⟨MCVC_CFG n, 16, 13⟩
def MCVC_CFG_SHIFT (n : Nat) : Field := ⟨MCVC_CFG n, 20, 17⟩
def MCVC_CFG_PSEL (n : Nat) : Field := ⟨MCVC_CFG n, 22, 21⟩

/-- Table 14.8. -/
def MCVC_TIMING (n : Nat) : Nat := 0x76108 + 0x80 * n
def MCVC_TIMING_PERIOD (n : Nat) : Field := ⟨MCVC_TIMING n, 15, 0⟩
def MCVC_TIMING_DELAY (n : Nat) : Field := ⟨MCVC_TIMING n, 31, 16⟩

/-- Table 14.8. -/
def MCVC_STATUS (n : Nat) : Nat := 0x7610C + 0x80 * n
def MCVC_STATUS_STATE (n : Nat) : Field := ⟨MCVC_STATUS n, 2, 0⟩
def MCVC_STATUS_SERVING (n : Nat) : Field := ⟨MCVC_STATUS n, 5, 3⟩
def MCVC_STATUS_TRIG_ERR (n : Nat) : Field := ⟨MCVC_STATUS n, 6, 6⟩
def MCVC_STATUS_CAL_VALID (n : Nat) : Field := ⟨MCVC_STATUS n, 7, 7⟩
def MCVC_STATUS_CAL_STALE (n : Nat) : Field := ⟨MCVC_STATUS n, 8, 8⟩
def MCVC_STATUS_REF_FB (n : Nat) : Field := ⟨MCVC_STATUS n, 9, 9⟩

/-- Table 14.8. -/
def MCVC_EVENT (n : Nat) : Nat := 0x76110 + 0x80 * n
def MCVC_EVENT_EVENT (n : Nat) : Field := ⟨MCVC_EVENT n, 8, 0⟩

/-- Table 14.8. -/
def MCVC_EVENT_EN (n : Nat) : Nat := 0x76114 + 0x80 * n
def MCVC_EVENT_EN_EN (n : Nat) : Field := ⟨MCVC_EVENT_EN n, 8, 0⟩

/-- Table 14.8. -/
def MCVC_RES_LO (n : Nat) : Nat := 0x76118 + 0x80 * n
def MCVC_RES_LO_VALUE (n : Nat) : Field := ⟨MCVC_RES_LO n, 31, 0⟩

/-- Table 14.8. -/
def MCVC_RES_HI (n : Nat) : Nat := 0x7611C + 0x80 * n
def MCVC_RES_HI_CH (n : Nat) : Field := ⟨MCVC_RES_HI n, 4, 0⟩
def MCVC_RES_HI_VALID (n : Nat) : Field := ⟨MCVC_RES_HI n, 5, 5⟩
def MCVC_RES_HI_OVR (n : Nat) : Field := ⟨MCVC_RES_HI n, 6, 6⟩
def MCVC_RES_HI_REF_FB (n : Nat) : Field := ⟨MCVC_RES_HI n, 7, 7⟩
def MCVC_RES_HI_RESTARTED (n : Nat) : Field := ⟨MCVC_RES_HI n, 8, 8⟩
def MCVC_RES_HI_PL (n : Nat) : Field := ⟨MCVC_RES_HI n, 9, 9⟩
def MCVC_RES_HI_SEQ (n : Nat) : Field := ⟨MCVC_RES_HI n, 23, 16⟩
def MCVC_RES_HI_AVG (n : Nat) : Field := ⟨MCVC_RES_HI n, 27, 24⟩

/-- Table 14.8. -/
def MCVC_RAW_HI (n : Nat) : Nat := 0x76124 + 0x80 * n
def MCVC_RAW_HI_CH (n : Nat) : Field := ⟨MCVC_RAW_HI n, 4, 0⟩
def MCVC_RAW_HI_VALID (n : Nat) : Field := ⟨MCVC_RAW_HI n, 5, 5⟩
def MCVC_RAW_HI_OVR (n : Nat) : Field := ⟨MCVC_RAW_HI n, 6, 6⟩
def MCVC_RAW_HI_REF_FB (n : Nat) : Field := ⟨MCVC_RAW_HI n, 7, 7⟩
def MCVC_RAW_HI_RESTARTED (n : Nat) : Field := ⟨MCVC_RAW_HI n, 8, 8⟩
def MCVC_RAW_HI_PL (n : Nat) : Field := ⟨MCVC_RAW_HI n, 9, 9⟩
def MCVC_RAW_HI_SEQ (n : Nat) : Field := ⟨MCVC_RAW_HI n, 23, 16⟩
def MCVC_RAW_HI_AVG (n : Nat) : Field := ⟨MCVC_RAW_HI n, 27, 24⟩

/-- Table 14.8. -/
def MCVC_RAW_LO (n : Nat) : Nat := 0x76120 + 0x80 * n
def MCVC_RAW_LO_RAW (n : Nat) : Field := ⟨MCVC_RAW_LO n, 31, 0⟩

/-- Table 14.8. -/
def MCVC_TS_LO (n : Nat) : Nat := 0x76128 + 0x80 * n
def MCVC_TS_LO_TS (n : Nat) : Field := ⟨MCVC_TS_LO n, 31, 0⟩

/-- Table 14.8. -/
def MCVC_TS_HI (n : Nat) : Nat := 0x7612C + 0x80 * n
def MCVC_TS_HI_TS (n : Nat) : Field := ⟨MCVC_TS_HI n, 31, 0⟩

/-- Table 14.8. -/
def MCVC_CNT (n : Nat) : Nat := 0x76130 + 0x80 * n
def MCVC_CNT_MISS_CNT (n : Nat) : Field := ⟨MCVC_CNT n, 15, 0⟩
def MCVC_CNT_RESTART_CNT (n : Nat) : Field := ⟨MCVC_CNT n, 31, 16⟩

/-- Table 14.8. -/
def MCVC_DONE_CNT (n : Nat) : Nat := 0x76134 + 0x80 * n
def MCVC_DONE_CNT_COUNT (n : Nat) : Field := ⟨MCVC_DONE_CNT n, 31, 0⟩

/-- Table 14.8. -/
def MCVC_CALF_OFS (n : Nat) (k : Nat) : Nat := 0x76140 + 0x80 * n + 0x8 * k
def MCVC_CALF_OFS_OFS (n : Nat) (k : Nat) : Field := ⟨MCVC_CALF_OFS n k, 23, 0⟩

/-- Table 14.8. -/
def MCVC_CALF_GAIN (n : Nat) (k : Nat) : Nat := 0x76144 + 0x80 * n + 0x8 * k
def MCVC_CALF_GAIN_GAIN (n : Nat) (k : Nat) : Field := ⟨MCVC_CALF_GAIN n k, 31, 0⟩

end Sys2Proof.Machine.R
end

