-- ==== Sys2Proof/Machine/RegsClk.lean ====
section
/-!
DEFINITION. The registers and fields of VET and SYN, by the manual's names: byte addresses in BAR0 and bit ranges,
from the register tables of spec/ chapters 3, 4 (R4, R5). An array register takes its index as an argument.
-/
namespace Sys2Proof.Machine.R

/-- Table 3.10. -/
def VET_CTRL : Nat := 0x2000
def VET_CTRL_BW : Field := ⟨VET_CTRL, 4, 0⟩
def VET_CTRL_ACQ_BW : Field := ⟨VET_CTRL, 12, 8⟩
def VET_CTRL_VOTE_TOL : Field := ⟨VET_CTRL, 23, 16⟩
def VET_CTRL_WTR : Field := ⟨VET_CTRL, 31, 24⟩

/-- Table 3.11. -/
def VET_LOOP_CTRL : Nat := 0x2004
def VET_LOOP_CTRL_MODE : Field := ⟨VET_LOOP_CTRL, 1, 0⟩
def VET_LOOP_CTRL_FORCE_SLOT : Field := ⟨VET_LOOP_CTRL, 4, 2⟩

/-- Table 3.11. -/
def VET_REALIGN : Nat := 0x2008
def VET_REALIGN_OP : Field := ⟨VET_REALIGN, 1, 0⟩
def VET_REALIGN_TIMED : Field := ⟨VET_REALIGN, 2, 2⟩
def VET_REALIGN_SLEW_RATE : Field := ⟨VET_REALIGN, 15, 8⟩

/-- Table 3.12. -/
def VET_REALIGN_STATUS : Nat := 0x200C
def VET_REALIGN_STATUS_BUSY : Field := ⟨VET_REALIGN_STATUS, 0, 0⟩
def VET_REALIGN_STATUS_RESULT : Field := ⟨VET_REALIGN_STATUS, 3, 1⟩
def VET_REALIGN_STATUS_LATE : Field := ⟨VET_REALIGN_STATUS, 4, 4⟩

/-- Table 3.12. -/
def VET_REALIGN_SEC_LO : Nat := 0x2010
def VET_REALIGN_SEC_LO_SEC_LO : Field := ⟨VET_REALIGN_SEC_LO, 31, 0⟩

/-- Table 3.12. -/
def VET_REALIGN_SEC_HI : Nat := 0x2014
def VET_REALIGN_SEC_HI_SEC_HI : Field := ⟨VET_REALIGN_SEC_HI, 15, 0⟩

/-- Table 3.12. -/
def VET_REALIGN_NS : Nat := 0x2018
def VET_REALIGN_NS_NS : Field := ⟨VET_REALIGN_NS, 29, 0⟩

/-- Table 3.12. -/
def VET_REALIGN_AT_LO : Nat := 0x2020
def VET_REALIGN_AT_LO_AT_LO : Field := ⟨VET_REALIGN_AT_LO, 31, 0⟩

/-- Table 3.12. -/
def VET_REALIGN_AT_HI : Nat := 0x2024
def VET_REALIGN_AT_HI_AT_HI : Field := ⟨VET_REALIGN_AT_HI, 31, 0⟩

/-- Table 3.13. -/
def VET_HOLD : Nat := 0x2030
def VET_HOLD_HOLD_TIME : Field := ⟨VET_HOLD, 15, 0⟩
def VET_HOLD_FSLEW : Field := ⟨VET_HOLD, 23, 16⟩

/-- Table 3.13. -/
def VET_FREE_WORD : Nat := 0x2034
def VET_FREE_WORD_WORD : Field := ⟨VET_FREE_WORD, 31, 0⟩

/-- Table 3.13. -/
def VET_HOST_WORD : Nat := 0x2038
def VET_HOST_WORD_WORD : Field := ⟨VET_HOST_WORD, 31, 0⟩

/-- Table 3.13. -/
def VET_FREQ_WORD : Nat := 0x203C
def VET_FREQ_WORD_WORD : Field := ⟨VET_FREQ_WORD, 31, 0⟩

/-- Table 3.13. -/
def VET_PHASE_ERR : Nat := 0x204C
def VET_PHASE_ERR_ERR : Field := ⟨VET_PHASE_ERR, 31, 0⟩

/-- Table 3.13. -/
def VET_HOLD_REMAIN : Nat := 0x2050
def VET_HOLD_REMAIN_REMAIN : Field := ⟨VET_HOLD_REMAIN, 15, 0⟩
def VET_HOLD_REMAIN_HIST : Field := ⟨VET_HOLD_REMAIN, 31, 16⟩

/-- Table 3.13. -/
def VET_OFFSET_LO : Nat := 0x2058
def VET_OFFSET_LO_OFS : Field := ⟨VET_OFFSET_LO, 31, 0⟩

/-- Table 3.13. -/
def VET_OFFSET_HI : Nat := 0x205C
def VET_OFFSET_HI_OFS : Field := ⟨VET_OFFSET_HI, 31, 0⟩

/-- Table 3.14. -/
def VET_STATUS : Nat := 0x2040
def VET_STATUS_STATE : Field := ⟨VET_STATUS, 2, 0⟩
def VET_STATUS_ACTIVE_VALID : Field := ⟨VET_STATUS, 3, 3⟩
def VET_STATUS_ACTIVE : Field := ⟨VET_STATUS, 6, 4⟩
def VET_STATUS_SWITCHING : Field := ⟨VET_STATUS, 7, 7⟩
def VET_STATUS_TARGET : Field := ⟨VET_STATUS, 10, 8⟩
def VET_STATUS_GEARING : Field := ⟨VET_STATUS, 11, 11⟩
def VET_STATUS_OPEN : Field := ⟨VET_STATUS, 12, 12⟩
def VET_STATUS_DISAGREE : Field := ⟨VET_STATUS, 13, 13⟩
def VET_STATUS_FORCED : Field := ⟨VET_STATUS, 14, 14⟩
def VET_STATUS_FSLEWING : Field := ⟨VET_STATUS, 15, 15⟩
def VET_STATUS_EFF_BW : Field := ⟨VET_STATUS, 20, 16⟩
def VET_STATUS_BW_CAPPED : Field := ⟨VET_STATUS, 21, 21⟩
def VET_STATUS_QUALIFIED : Field := ⟨VET_STATUS, 31, 24⟩

/-- Table 3.14. -/
def VET_EVENT : Nat := 0x2044
def VET_EVENT_STATE : Field := ⟨VET_EVENT, 0, 0⟩
def VET_EVENT_COMMIT : Field := ⟨VET_EVENT, 1, 1⟩
def VET_EVENT_CANCEL : Field := ⟨VET_EVENT, 2, 2⟩
def VET_EVENT_DISQUAL : Field := ⟨VET_EVENT, 3, 3⟩
def VET_EVENT_VOTED_OUT : Field := ⟨VET_EVENT, 4, 4⟩
def VET_EVENT_DISAGREE : Field := ⟨VET_EVENT, 5, 5⟩
def VET_EVENT_HOLDOVER : Field := ⟨VET_EVENT, 6, 6⟩
def VET_EVENT_LOST : Field := ⟨VET_EVENT, 7, 7⟩
def VET_EVENT_REALIGN_DONE : Field := ⟨VET_EVENT, 8, 8⟩
def VET_EVENT_FREQ_CAP : Field := ⟨VET_EVENT, 9, 9⟩
def VET_EVENT_GLITCH : Field := ⟨VET_EVENT, 10, 10⟩

/-- Table 3.14. -/
def VET_EVENT_EN : Nat := 0x2048
def VET_EVENT_EN_EN : Field := ⟨VET_EVENT_EN, 10, 0⟩

/-- Table 3.15. -/
def VET_SNAP : Nat := 0x2060
def VET_SNAP_SNAP : Field := ⟨VET_SNAP, 0, 0⟩

/-- Table 3.15. -/
def VET_SNAP_IDX_LO : Nat := 0x2068
def VET_SNAP_IDX_LO_IDX : Field := ⟨VET_SNAP_IDX_LO, 31, 0⟩

/-- Table 3.15. -/
def VET_SNAP_IDX_HI : Nat := 0x206C
def VET_SNAP_IDX_HI_IDX : Field := ⟨VET_SNAP_IDX_HI, 31, 0⟩

/-- Table 3.15. -/
def VET_SNAP_SEC_LO : Nat := 0x2070
def VET_SNAP_SEC_LO_SEC : Field := ⟨VET_SNAP_SEC_LO, 31, 0⟩

/-- Table 3.15. -/
def VET_SNAP_SEC_HI : Nat := 0x2074
def VET_SNAP_SEC_HI_SEC : Field := ⟨VET_SNAP_SEC_HI, 15, 0⟩

/-- Table 3.15. -/
def VET_SNAP_NS : Nat := 0x2078
def VET_SNAP_NS_NS : Field := ⟨VET_SNAP_NS, 29, 0⟩

/-- Table 3.15. -/
def VET_PULSE_CFG : Nat := 0x2080
def VET_PULSE_CFG_PPS_EN : Field := ⟨VET_PULSE_CFG, 0, 0⟩
def VET_PULSE_CFG_FRAME_EN : Field := ⟨VET_PULSE_CFG, 1, 1⟩
def VET_PULSE_CFG_WCLK_EN : Field := ⟨VET_PULSE_CFG, 2, 2⟩
def VET_PULSE_CFG_WCLK_HALF : Field := ⟨VET_PULSE_CFG, 3, 3⟩
def VET_PULSE_CFG_PPS_WIDTH : Field := ⟨VET_PULSE_CFG, 11, 4⟩
def VET_PULSE_CFG_FRAME_DIV : Field := ⟨VET_PULSE_CFG, 31, 16⟩

/-- Table 3.16. -/
def REF_CFG (n : Nat) : Nat := 0x2100 + 0x20 * n
def REF_CFG_SRC (n : Nat) : Field := ⟨REF_CFG n, 4, 0⟩
def REF_CFG_QL (n : Nat) : Field := ⟨REF_CFG n, 11, 8⟩
def REF_CFG_QL_MODE (n : Nat) : Field := ⟨REF_CFG n, 12, 12⟩
def REF_CFG_PRIO (n : Nat) : Field := ⟨REF_CFG n, 19, 16⟩
def REF_CFG_QUAL_TIME (n : Nat) : Field := ⟨REF_CFG n, 23, 20⟩
def REF_CFG_ENABLE (n : Nat) : Field := ⟨REF_CFG n, 24, 24⟩

/-- Table 3.16. -/
def REF_RATE (n : Nat) : Nat := 0x2104 + 0x20 * n
def REF_RATE_RATE (n : Nat) : Field := ⟨REF_RATE n, 2, 0⟩
def REF_RATE_LINES (n : Nat) : Field := ⟨REF_RATE n, 27, 16⟩

/-- Table 3.16. -/
def REF_PERIOD (n : Nat) : Nat := 0x2108 + 0x20 * n
def REF_PERIOD_NUM (n : Nat) : Field := ⟨REF_PERIOD n, 15, 0⟩
def REF_PERIOD_DEN (n : Nat) : Field := ⟨REF_PERIOD n, 31, 16⟩

/-- Table 3.16. -/
def REF_STATUS (n : Nat) : Nat := 0x210C + 0x20 * n
def REF_STATUS_QSTATE (n : Nat) : Field := ⟨REF_STATUS n, 2, 0⟩
def REF_STATUS_FORMER (n : Nat) : Field := ⟨REF_STATUS n, 3, 3⟩
def REF_STATUS_QL_EFF (n : Nat) : Field := ⟨REF_STATUS n, 7, 4⟩
def REF_STATUS_CLASS (n : Nat) : Field := ⟨REF_STATUS n, 15, 8⟩
def REF_STATUS_WTR_RUN (n : Nat) : Field := ⟨REF_STATUS n, 16, 16⟩

/-- Table 3.16. -/
def REF_FREQ (n : Nat) : Nat := 0x2110 + 0x20 * n
def REF_FREQ_FREQ (n : Nat) : Field := ⟨REF_FREQ n, 31, 0⟩

/-- Table 3.16. -/
def REF_CNT (n : Nat) : Nat := 0x2114 + 0x20 * n
def REF_CNT_GLITCH_CNT (n : Nat) : Field := ⟨REF_CNT n, 15, 0⟩
def REF_CNT_LOSS_CNT (n : Nat) : Field := ⟨REF_CNT n, 31, 16⟩

/-- Table 4.8. -/
def SYN_OSC_CFG : Nat := 0x3000
def SYN_OSC_CFG_OSC_SEL : Field := ⟨SYN_OSC_CFG, 1, 0⟩
def SYN_OSC_CFG_OSC_TYPE : Field := ⟨SYN_OSC_CFG, 2, 2⟩

/-- Table 4.8. -/
def SYN_STATUS : Nat := 0x3004
def SYN_STATUS_ADPLL0 : Field := ⟨SYN_STATUS, 1, 0⟩
def SYN_STATUS_ADPLL1 : Field := ⟨SYN_STATUS, 3, 2⟩
def SYN_STATUS_ADPLL2 : Field := ⟨SYN_STATUS, 5, 4⟩
def SYN_STATUS_XO_OK : Field := ⟨SYN_STATUS, 8, 8⟩
def SYN_STATUS_OSC_OK : Field := ⟨SYN_STATUS, 9, 9⟩
def SYN_STATUS_OSC_REFUSED : Field := ⟨SYN_STATUS, 10, 10⟩
def SYN_STATUS_ADPLL1_REFUSED : Field := ⟨SYN_STATUS, 11, 11⟩

/-- Table 4.8. -/
def SYN_EVENT : Nat := 0x3008
def SYN_EVENT_LOCK : Field := ⟨SYN_EVENT, 2, 0⟩
def SYN_EVENT_COAST : Field := ⟨SYN_EVENT, 5, 3⟩
def SYN_EVENT_XO_LOSS : Field := ⟨SYN_EVENT, 6, 6⟩
def SYN_EVENT_OSC_LOSS : Field := ⟨SYN_EVENT, 7, 7⟩
def SYN_EVENT_OSC_FREQ : Field := ⟨SYN_EVENT, 8, 8⟩
def SYN_EVENT_SYNC_DONE : Field := ⟨SYN_EVENT, 9, 9⟩
def SYN_EVENT_SYNC_MISS : Field := ⟨SYN_EVENT, 10, 10⟩

/-- Table 4.8. -/
def SYN_EVENT_EN : Nat := 0x300C
def SYN_EVENT_EN_EN : Field := ⟨SYN_EVENT_EN, 10, 0⟩

/-- Table 4.9. -/
def SYN_ADPLL0_CFG : Nat := 0x3010
def SYN_ADPLL0_CFG_DITHER : Field := ⟨SYN_ADPLL0_CFG, 0, 0⟩

/-- Table 4.9. -/
def SYN_ADPLL0_SEED : Nat := 0x3014
def SYN_ADPLL0_SEED_SEED : Field := ⟨SYN_ADPLL0_SEED, 31, 0⟩

/-- Table 4.9. -/
def SYN_ADPLL0_ERR : Nat := 0x3018
def SYN_ADPLL0_ERR_ERR : Field := ⟨SYN_ADPLL0_ERR, 15, 0⟩

/-- Table 4.9. -/
def SYN_COAST_CNT : Nat := 0x301C
def SYN_COAST_CNT_CNT0 : Field := ⟨SYN_COAST_CNT, 7, 0⟩
def SYN_COAST_CNT_CNT1 : Field := ⟨SYN_COAST_CNT, 15, 8⟩
def SYN_COAST_CNT_CNT2 : Field := ⟨SYN_COAST_CNT, 23, 16⟩

/-- Table 4.9. -/
def SYN_ADPLL1_CTRL : Nat := 0x3020
def SYN_ADPLL1_CTRL_EN : Field := ⟨SYN_ADPLL1_CTRL, 0, 0⟩
def SYN_ADPLL1_CTRL_DITHER : Field := ⟨SYN_ADPLL1_CTRL, 1, 1⟩
def SYN_ADPLL1_CTRL_APPLY : Field := ⟨SYN_ADPLL1_CTRL, 2, 2⟩

/-- Table 4.9. -/
def SYN_ADPLL1_INT : Nat := 0x3024
def SYN_ADPLL1_INT_INT : Field := ⟨SYN_ADPLL1_INT, 7, 0⟩

/-- Table 4.9. -/
def SYN_ADPLL1_NUM : Nat := 0x3028
def SYN_ADPLL1_NUM_NUM : Field := ⟨SYN_ADPLL1_NUM, 23, 0⟩

/-- Table 4.9. -/
def SYN_ADPLL1_DEN : Nat := 0x302C
def SYN_ADPLL1_DEN_DEN : Field := ⟨SYN_ADPLL1_DEN, 23, 0⟩

/-- Table 4.9. -/
def SYN_ADPLL1_SEED : Nat := 0x3030
def SYN_ADPLL1_SEED_SEED : Field := ⟨SYN_ADPLL1_SEED, 31, 0⟩

/-- Table 4.10. -/
def SYN_SYNC_CTRL : Nat := 0x3040
def SYN_SYNC_CTRL_ARM : Field := ⟨SYN_SYNC_CTRL, 0, 0⟩
def SYN_SYNC_CTRL_MODE : Field := ⟨SYN_SYNC_CTRL, 1, 1⟩
def SYN_SYNC_CTRL_SRC : Field := ⟨SYN_SYNC_CTRL, 2, 2⟩

/-- Table 4.10. -/
def SYN_SYNC_STATUS : Nat := 0x3044
def SYN_SYNC_STATUS_MISMATCH : Field := ⟨SYN_SYNC_STATUS, 11, 0⟩
def SYN_SYNC_STATUS_EDGE_CNT : Field := ⟨SYN_SYNC_STATUS, 31, 16⟩

/-- Table 4.11. -/
def CKOUT_CFG (n : Nat) : Nat := 0x3100 + 0x10 * n
def CKOUT_CFG_EN (n : Nat) : Field := ⟨CKOUT_CFG n, 0, 0⟩
def CKOUT_CFG_SRC (n : Nat) : Field := ⟨CKOUT_CFG n, 2, 1⟩
def CKOUT_CFG_TYPE (n : Nat) : Field := ⟨CKOUT_CFG n, 4, 4⟩
def CKOUT_CFG_STOP (n : Nat) : Field := ⟨CKOUT_CFG n, 5, 5⟩
def CKOUT_CFG_SYNC_EN (n : Nat) : Field := ⟨CKOUT_CFG n, 6, 6⟩
def CKOUT_CFG_INV (n : Nat) : Field := ⟨CKOUT_CFG n, 7, 7⟩

/-- Table 4.11. -/
def CKOUT_DIV (n : Nat) : Nat := 0x3104 + 0x10 * n
def CKOUT_DIV_DIV (n : Nat) : Field := ⟨CKOUT_DIV n, 23, 0⟩

/-- Table 4.11. -/
def CKOUT_DELAY (n : Nat) : Nat := 0x3108 + 0x10 * n
def CKOUT_DELAY_COARSE (n : Nat) : Field := ⟨CKOUT_DELAY n, 9, 0⟩
def CKOUT_DELAY_FINE (n : Nat) : Field := ⟨CKOUT_DELAY n, 21, 16⟩

/-- Table 4.11. -/
def CKOUT_STATUS (n : Nat) : Nat := 0x310C + 0x10 * n
def CKOUT_STATUS_RUNNING (n : Nat) : Field := ⟨CKOUT_STATUS n, 0, 0⟩
def CKOUT_STATUS_PENDING (n : Nat) : Field := ⟨CKOUT_STATUS n, 1, 1⟩
def CKOUT_STATUS_CLAMPED (n : Nat) : Field := ⟨CKOUT_STATUS n, 2, 2⟩
def CKOUT_STATUS_SRC_ERR (n : Nat) : Field := ⟨CKOUT_STATUS n, 3, 3⟩
def CKOUT_STATUS_ALIGNED (n : Nat) : Field := ⟨CKOUT_STATUS n, 4, 4⟩

end Sys2Proof.Machine.R
end

