-- ==== Sys2Proof/Machine/RegsFlow.lean ====
section
/-!
DEFINITION. The registers and fields of FLOW and ROUTE, by the manual's names: byte addresses in BAR0 and bit ranges,
from the register tables of spec/ chapters 6, 7 (R4, R5). An array register takes its index as an argument.
-/
namespace Sys2Proof.Machine.R

/-- Table 6.9. -/
def FLOW_RX_CFG (n : Nat) : Nat := 0x20000 + 0x40 * n
def FLOW_RX_CFG_FORMAT (n : Nat) : Field := ⟨FLOW_RX_CFG n, 1, 0⟩
def FLOW_RX_CFG_RATE (n : Nat) : Field := ⟨FLOW_RX_CFG n, 2, 2⟩
def FLOW_RX_CFG_PTIME (n : Nat) : Field := ⟨FLOW_RX_CFG n, 5, 3⟩
def FLOW_RX_CFG_CHANNELS (n : Nat) : Field := ⟨FLOW_RX_CFG n, 12, 6⟩
def FLOW_RX_CFG_PORTS (n : Nat) : Field := ⟨FLOW_RX_CFG n, 14, 13⟩
def FLOW_RX_CFG_SSRC_EN (n : Nat) : Field := ⟨FLOW_RX_CFG n, 15, 15⟩
def FLOW_RX_CFG_PT (n : Nat) : Field := ⟨FLOW_RX_CFG n, 22, 16⟩
def FLOW_RX_CFG_MISS (n : Nat) : Field := ⟨FLOW_RX_CFG n, 24, 24⟩
def FLOW_RX_CFG_NOFADE (n : Nat) : Field := ⟨FLOW_RX_CFG n, 25, 25⟩
def FLOW_RX_CFG_BUF_MODE (n : Nat) : Field := ⟨FLOW_RX_CFG n, 27, 26⟩

/-- Table 6.9. -/
def FLOW_RX_CH (n : Nat) : Nat := 0x20004 + 0x40 * n
def FLOW_RX_CH_CH_BASE (n : Nat) : Field := ⟨FLOW_RX_CH n, 9, 0⟩

/-- Table 6.9. -/
def FLOW_RX_DST_A (n : Nat) : Nat := 0x20008 + 0x40 * n
def FLOW_RX_DST_A_DST (n : Nat) : Field := ⟨FLOW_RX_DST_A n, 31, 0⟩

/-- Table 6.9. -/
def FLOW_RX_DST_B (n : Nat) : Nat := 0x2000C + 0x40 * n
def FLOW_RX_DST_B_DST (n : Nat) : Field := ⟨FLOW_RX_DST_B n, 31, 0⟩

/-- Table 6.9. -/
def FLOW_RX_SRC_A (n : Nat) : Nat := 0x20010 + 0x40 * n
def FLOW_RX_SRC_A_SRC (n : Nat) : Field := ⟨FLOW_RX_SRC_A n, 31, 0⟩

/-- Table 6.9. -/
def FLOW_RX_SRC_B (n : Nat) : Nat := 0x20014 + 0x40 * n
def FLOW_RX_SRC_B_SRC (n : Nat) : Field := ⟨FLOW_RX_SRC_B n, 31, 0⟩

/-- Table 6.9. -/
def FLOW_RX_UDP_A (n : Nat) : Nat := 0x20018 + 0x40 * n
def FLOW_RX_UDP_A_DPORT (n : Nat) : Field := ⟨FLOW_RX_UDP_A n, 15, 0⟩
def FLOW_RX_UDP_A_SPORT (n : Nat) : Field := ⟨FLOW_RX_UDP_A n, 31, 16⟩

/-- Table 6.9. -/
def FLOW_RX_UDP_B (n : Nat) : Nat := 0x2001C + 0x40 * n
def FLOW_RX_UDP_B_DPORT (n : Nat) : Field := ⟨FLOW_RX_UDP_B n, 15, 0⟩
def FLOW_RX_UDP_B_SPORT (n : Nat) : Field := ⟨FLOW_RX_UDP_B n, 31, 16⟩

/-- Table 6.9. -/
def FLOW_RX_SSRC (n : Nat) : Nat := 0x20020 + 0x40 * n
def FLOW_RX_SSRC_SSRC (n : Nat) : Field := ⟨FLOW_RX_SSRC n, 31, 0⟩

/-- Table 6.9. -/
def FLOW_RX_TS_OFS (n : Nat) : Nat := 0x20024 + 0x40 * n
def FLOW_RX_TS_OFS_TS_OFS (n : Nat) : Field := ⟨FLOW_RX_TS_OFS n, 31, 0⟩

/-- Table 6.9. -/
def FLOW_RX_OFFSET (n : Nat) : Nat := 0x20028 + 0x40 * n
def FLOW_RX_OFFSET_OFFSET (n : Nat) : Field := ⟨FLOW_RX_OFFSET n, 16, 0⟩

/-- Table 6.9. -/
def FLOW_RX_CTRL (n : Nat) : Nat := 0x2002C + 0x40 * n
def FLOW_RX_CTRL_CMD (n : Nat) : Field := ⟨FLOW_RX_CTRL n, 1, 0⟩
def FLOW_RX_CTRL_TIMED (n : Nat) : Field := ⟨FLOW_RX_CTRL n, 2, 2⟩
def FLOW_RX_CTRL_COMMON (n : Nat) : Field := ⟨FLOW_RX_CTRL n, 3, 3⟩
def FLOW_RX_CTRL_CLR_CNT (n : Nat) : Field := ⟨FLOW_RX_CTRL n, 4, 4⟩

/-- Table 6.9. -/
def FLOW_RX_AT_LO (n : Nat) : Nat := 0x20030 + 0x40 * n
def FLOW_RX_AT_LO_AT (n : Nat) : Field := ⟨FLOW_RX_AT_LO n, 31, 0⟩

/-- Table 6.9. -/
def FLOW_RX_AT_HI (n : Nat) : Nat := 0x20034 + 0x40 * n
def FLOW_RX_AT_HI_AT (n : Nat) : Field := ⟨FLOW_RX_AT_HI n, 31, 0⟩

/-- Table 6.9. -/
def FLOW_RX_STATUS (n : Nat) : Nat := 0x20038 + 0x40 * n
def FLOW_RX_STATUS_STATE (n : Nat) : Field := ⟨FLOW_RX_STATUS n, 1, 0⟩
def FLOW_RX_STATUS_LATE (n : Nat) : Field := ⟨FLOW_RX_STATUS n, 2, 2⟩
def FLOW_RX_STATUS_SPILLED (n : Nat) : Field := ⟨FLOW_RX_STATUS n, 3, 3⟩
def FLOW_RX_STATUS_RESULT (n : Nat) : Field := ⟨FLOW_RX_STATUS n, 6, 4⟩
def FLOW_RX_STATUS_SYNC_ERR (n : Nat) : Field := ⟨FLOW_RX_STATUS n, 7, 7⟩
def FLOW_RX_STATUS_RX_A (n : Nat) : Field := ⟨FLOW_RX_STATUS n, 8, 8⟩
def FLOW_RX_STATUS_RX_B (n : Nat) : Field := ⟨FLOW_RX_STATUS n, 9, 9⟩

/-- Table 6.9. -/
def FLOW_RX_BUF (n : Nat) : Nat := 0x2003C + 0x40 * n
def FLOW_RX_BUF_ONCHIP (n : Nat) : Field := ⟨FLOW_RX_BUF n, 15, 0⟩
def FLOW_RX_BUF_DRAM (n : Nat) : Field := ⟨FLOW_RX_BUF n, 31, 16⟩

/-- Table 6.10. -/
def FLOW_TX_CFG (n : Nat) : Nat := 0x24000 + 0x40 * n
def FLOW_TX_CFG_FORMAT (n : Nat) : Field := ⟨FLOW_TX_CFG n, 1, 0⟩
def FLOW_TX_CFG_RATE (n : Nat) : Field := ⟨FLOW_TX_CFG n, 2, 2⟩
def FLOW_TX_CFG_PTIME (n : Nat) : Field := ⟨FLOW_TX_CFG n, 5, 3⟩
def FLOW_TX_CFG_CHANNELS (n : Nat) : Field := ⟨FLOW_TX_CFG n, 12, 6⟩
def FLOW_TX_CFG_PORTS (n : Nat) : Field := ⟨FLOW_TX_CFG n, 14, 13⟩
def FLOW_TX_CFG_DITHER (n : Nat) : Field := ⟨FLOW_TX_CFG n, 15, 15⟩
def FLOW_TX_CFG_PT (n : Nat) : Field := ⟨FLOW_TX_CFG n, 22, 16⟩
def FLOW_TX_CFG_CS_TPL (n : Nat) : Field := ⟨FLOW_TX_CFG n, 25, 24⟩
def FLOW_TX_CFG_NOFADE (n : Nat) : Field := ⟨FLOW_TX_CFG n, 26, 26⟩

/-- Table 6.10. -/
def FLOW_TX_CH (n : Nat) : Nat := 0x24004 + 0x40 * n
def FLOW_TX_CH_CH_BASE (n : Nat) : Field := ⟨FLOW_TX_CH n, 9, 0⟩
def FLOW_TX_CH_DSCP (n : Nat) : Field := ⟨FLOW_TX_CH n, 21, 16⟩
def FLOW_TX_CH_TTL (n : Nat) : Field := ⟨FLOW_TX_CH n, 31, 24⟩

/-- Table 6.10. -/
def FLOW_TX_DST_A (n : Nat) : Nat := 0x24008 + 0x40 * n
def FLOW_TX_DST_A_DST (n : Nat) : Field := ⟨FLOW_TX_DST_A n, 31, 0⟩

/-- Table 6.10. -/
def FLOW_TX_DST_B (n : Nat) : Nat := 0x2400C + 0x40 * n
def FLOW_TX_DST_B_DST (n : Nat) : Field := ⟨FLOW_TX_DST_B n, 31, 0⟩

/-- Table 6.10. -/
def FLOW_TX_UDP_A (n : Nat) : Nat := 0x24010 + 0x40 * n
def FLOW_TX_UDP_A_DPORT (n : Nat) : Field := ⟨FLOW_TX_UDP_A n, 15, 0⟩
def FLOW_TX_UDP_A_SPORT (n : Nat) : Field := ⟨FLOW_TX_UDP_A n, 31, 16⟩

/-- Table 6.10. -/
def FLOW_TX_UDP_B (n : Nat) : Nat := 0x24014 + 0x40 * n
def FLOW_TX_UDP_B_DPORT (n : Nat) : Field := ⟨FLOW_TX_UDP_B n, 15, 0⟩
def FLOW_TX_UDP_B_SPORT (n : Nat) : Field := ⟨FLOW_TX_UDP_B n, 31, 16⟩

/-- Table 6.10. -/
def FLOW_TX_DMAC_A_LO (n : Nat) : Nat := 0x24018 + 0x40 * n
def FLOW_TX_DMAC_A_LO_DMAC_LO (n : Nat) : Field := ⟨FLOW_TX_DMAC_A_LO n, 31, 0⟩

/-- Table 6.10. -/
def FLOW_TX_DMAC_B_LO (n : Nat) : Nat := 0x2401C + 0x40 * n
def FLOW_TX_DMAC_B_LO_DMAC_LO (n : Nat) : Field := ⟨FLOW_TX_DMAC_B_LO n, 31, 0⟩

/-- Table 6.10. -/
def FLOW_TX_DMAC_HI (n : Nat) : Nat := 0x24020 + 0x40 * n
def FLOW_TX_DMAC_HI_DMAC_A_HI (n : Nat) : Field := ⟨FLOW_TX_DMAC_HI n, 15, 0⟩
def FLOW_TX_DMAC_HI_DMAC_B_HI (n : Nat) : Field := ⟨FLOW_TX_DMAC_HI n, 31, 16⟩

/-- Table 6.10. -/
def FLOW_TX_SSRC (n : Nat) : Nat := 0x24024 + 0x40 * n
def FLOW_TX_SSRC_SSRC (n : Nat) : Field := ⟨FLOW_TX_SSRC n, 31, 0⟩

/-- Table 6.10. -/
def FLOW_TX_SEQ (n : Nat) : Nat := 0x24028 + 0x40 * n
def FLOW_TX_SEQ_SEQ_INIT (n : Nat) : Field := ⟨FLOW_TX_SEQ n, 15, 0⟩
def FLOW_TX_SEQ_LAUNCH_DLY (n : Nat) : Field := ⟨FLOW_TX_SEQ n, 31, 16⟩

/-- Table 6.10. -/
def FLOW_TX_STATUS (n : Nat) : Nat := 0x24038 + 0x40 * n
def FLOW_TX_STATUS_STATE (n : Nat) : Field := ⟨FLOW_TX_STATUS n, 1, 0⟩
def FLOW_TX_STATUS_LATE (n : Nat) : Field := ⟨FLOW_TX_STATUS n, 2, 2⟩
def FLOW_TX_STATUS_RESULT (n : Nat) : Field := ⟨FLOW_TX_STATUS n, 6, 4⟩
def FLOW_TX_STATUS_COST (n : Nat) : Field := ⟨FLOW_TX_STATUS n, 31, 16⟩

/-- Table 6.10. -/
def FLOW_TX_SEQ_NOW (n : Nat) : Nat := 0x2403C + 0x40 * n
def FLOW_TX_SEQ_NOW_NEXT (n : Nat) : Field := ⟨FLOW_TX_SEQ_NOW n, 15, 0⟩

/-- Table 6.11. -/
def FLOW_RXC_CNT (n : Nat) (k : Nat) : Nat := 0x28000 + 0x40 * n + 0x4 * k
def FLOW_RXC_CNT_COUNT (n : Nat) (k : Nat) : Field := ⟨FLOW_RXC_CNT n k, 31, 0⟩

/-- Table 6.11. -/
def FLOW_RXC_MON (n : Nat) : Nat := 0x28038 + 0x40 * n
def FLOW_RXC_MON_SKEW (n : Nat) : Field := ⟨FLOW_RXC_MON n, 15, 0⟩
def FLOW_RXC_MON_MARGIN (n : Nat) : Field := ⟨FLOW_RXC_MON n, 31, 16⟩

/-- Table 6.11. -/
def FLOW_RXC_WRAP (n : Nat) : Nat := 0x2803C + 0x40 * n
def FLOW_RXC_WRAP_WRAP (n : Nat) : Field := ⟨FLOW_RXC_WRAP n, 13, 0⟩

/-- Table 6.12. -/
def FLOW_TXC_PKT (n : Nat) : Nat := 0x2C000 + 0x10 * n
def FLOW_TXC_PKT_PKT (n : Nat) : Field := ⟨FLOW_TXC_PKT n, 31, 0⟩

/-- Table 6.12. -/
def FLOW_TXC_LATE (n : Nat) : Nat := 0x2C004 + 0x10 * n
def FLOW_TXC_LATE_LATE (n : Nat) : Field := ⟨FLOW_TXC_LATE n, 31, 0⟩

/-- Table 6.12. -/
def FLOW_TXC_SAT (n : Nat) : Nat := 0x2C008 + 0x10 * n
def FLOW_TXC_SAT_SAT (n : Nat) : Field := ⟨FLOW_TXC_SAT n, 31, 0⟩

/-- Table 6.12. -/
def FLOW_TXC_WRAP (n : Nat) : Nat := 0x2C00C + 0x10 * n
def FLOW_TXC_WRAP_WRAP (n : Nat) : Field := ⟨FLOW_TXC_WRAP n, 2, 0⟩

/-- Table 6.13. -/
def FLOW_EVENT : Nat := 0x2E000
def FLOW_EVENT_RX : Field := ⟨FLOW_EVENT, 7, 0⟩
def FLOW_EVENT_TX : Field := ⟨FLOW_EVENT, 14, 8⟩

/-- Table 6.13. -/
def FLOW_EVENT_EN : Nat := 0x2E004
def FLOW_EVENT_EN_EN : Field := ⟨FLOW_EVENT_EN, 14, 0⟩

/-- Table 6.13. -/
def FLOW_RX_FREE : Nat := 0x2E008
def FLOW_RX_FREE_LOWEST : Field := ⟨FLOW_RX_FREE, 8, 0⟩
def FLOW_RX_FREE_ACTIVE : Field := ⟨FLOW_RX_FREE, 24, 16⟩

/-- Table 6.13. -/
def FLOW_POOL : Nat := 0x2E010
def FLOW_POOL_FREE : Field := ⟨FLOW_POOL, 11, 0⟩

/-- Table 6.13. -/
def FLOW_RXDRAM_BASE : Nat := 0x2E014
def FLOW_RXDRAM_BASE_BASE : Field := ⟨FLOW_RXDRAM_BASE, 16, 0⟩

/-- Table 6.13. -/
def FLOW_RXDRAM_SIZE : Nat := 0x2E018
def FLOW_RXDRAM_SIZE_SIZE : Field := ⟨FLOW_RXDRAM_SIZE, 17, 0⟩

/-- Table 6.13. -/
def FLOW_RXDRAM_FREE : Nat := 0x2E01C
def FLOW_RXDRAM_FREE_FREE : Field := ⟨FLOW_RXDRAM_FREE, 17, 0⟩

/-- Table 6.13. -/
def FLOW_DITHER_SEED : Nat := 0x2E020
def FLOW_DITHER_SEED_SEED : Field := ⟨FLOW_DITHER_SEED, 31, 0⟩

/-- Table 6.13. -/
def FLOW_CS_CAP : Nat := 0x2E030
def FLOW_CS_CAP_FLOW : Field := ⟨FLOW_CS_CAP, 7, 0⟩
def FLOW_CS_CAP_CHANNEL : Field := ⟨FLOW_CS_CAP, 13, 8⟩
def FLOW_CS_CAP_ARM : Field := ⟨FLOW_CS_CAP, 16, 16⟩
def FLOW_CS_CAP_VALID : Field := ⟨FLOW_CS_CAP, 17, 17⟩

/-- Table 6.13. -/
def FLOW_CS (n : Nat) : Nat := 0x2E040 + 0x4 * n
def FLOW_CS_BYTES (n : Nat) : Field := ⟨FLOW_CS n, 31, 0⟩

/-- Table 6.13. -/
def FLOW_CS_TPL (n : Nat) (k : Nat) : Nat := 0x2E100 + 0x20 * n + 0x4 * k
def FLOW_CS_TPL_BYTES (n : Nat) (k : Nat) : Field := ⟨FLOW_CS_TPL n k, 31, 0⟩

/-- Table 7.11. -/
def ROUTE_SINK (n : Nat) : Nat := 0x30000 + 0x4 * n
def ROUTE_SINK_SOURCE (n : Nat) : Field := ⟨ROUTE_SINK n, 11, 0⟩
def ROUTE_SINK_RAMP (n : Nat) : Field := ⟨ROUTE_SINK n, 15, 12⟩
def ROUTE_SINK_GAIN (n : Nat) : Field := ⟨ROUTE_SINK n, 31, 16⟩

/-- Table 7.11. -/
def ROUTE_SHADOW (n : Nat) : Nat := 0x34000 + 0x4 * n
def ROUTE_SHADOW_SOURCE (n : Nat) : Field := ⟨ROUTE_SHADOW n, 11, 0⟩
def ROUTE_SHADOW_RAMP (n : Nat) : Field := ⟨ROUTE_SHADOW n, 15, 12⟩
def ROUTE_SHADOW_GAIN (n : Nat) : Field := ⟨ROUTE_SHADOW n, 31, 16⟩

/-- Table 7.12. -/
def ROUTE_CFG : Nat := 0x38000
def ROUTE_CFG_XFADE_LEN : Field := ⟨ROUTE_CFG, 12, 0⟩
def ROUTE_CFG_SHAPE : Field := ⟨ROUTE_CFG, 13, 13⟩
def ROUTE_CFG_DEF_RAMP : Field := ⟨ROUTE_CFG, 19, 16⟩

/-- Table 7.12. -/
def ROUTE_COMMIT : Nat := 0x38004
def ROUTE_COMMIT_GO : Field := ⟨ROUTE_COMMIT, 0, 0⟩
def ROUTE_COMMIT_REVERT : Field := ⟨ROUTE_COMMIT, 1, 1⟩
def ROUTE_COMMIT_TIMED : Field := ⟨ROUTE_COMMIT, 2, 2⟩
def ROUTE_COMMIT_CANCEL : Field := ⟨ROUTE_COMMIT, 3, 3⟩
def ROUTE_COMMIT_SWAP : Field := ⟨ROUTE_COMMIT, 31, 16⟩

/-- Table 7.12. -/
def ROUTE_COMMIT_STATUS : Nat := 0x38008
def ROUTE_COMMIT_STATUS_BUSY : Field := ⟨ROUTE_COMMIT_STATUS, 0, 0⟩
def ROUTE_COMMIT_STATUS_RESULT : Field := ⟨ROUTE_COMMIT_STATUS, 2, 1⟩
def ROUTE_COMMIT_STATUS_LATE : Field := ⟨ROUTE_COMMIT_STATUS, 3, 3⟩
def ROUTE_COMMIT_STATUS_CHANGED : Field := ⟨ROUTE_COMMIT_STATUS, 28, 16⟩

/-- Table 7.12. -/
def ROUTE_COMMIT_AT_LO : Nat := 0x38010
def ROUTE_COMMIT_AT_LO_AT : Field := ⟨ROUTE_COMMIT_AT_LO, 31, 0⟩

/-- Table 7.12. -/
def ROUTE_COMMIT_AT_HI : Nat := 0x38014
def ROUTE_COMMIT_AT_HI_AT : Field := ⟨ROUTE_COMMIT_AT_HI, 31, 0⟩

/-- Table 7.12. -/
def ROUTE_EVENT : Nat := 0x38020
def ROUTE_EVENT_COMMIT_DONE : Field := ⟨ROUTE_EVENT, 0, 0⟩
def ROUTE_EVENT_COMMIT_LATE : Field := ⟨ROUTE_EVENT, 1, 1⟩
def ROUTE_EVENT_DEFER : Field := ⟨ROUTE_EVENT, 2, 2⟩
def ROUTE_EVENT_NAN : Field := ⟨ROUTE_EVENT, 3, 3⟩
def ROUTE_EVENT_SRC_ACQ : Field := ⟨ROUTE_EVENT, 4, 4⟩
def ROUTE_EVENT_SRC_FULL : Field := ⟨ROUTE_EVENT, 5, 5⟩

/-- Table 7.12. -/
def ROUTE_EVENT_EN : Nat := 0x38024
def ROUTE_EVENT_EN_EN : Field := ⟨ROUTE_EVENT_EN, 5, 0⟩

/-- Table 7.12. -/
def ROUTE_NAN_CNT : Nat := 0x38030
def ROUTE_NAN_CNT_COUNT : Field := ⟨ROUTE_NAN_CNT, 31, 0⟩

/-- Table 7.12. -/
def ROUTE_NAN_LAST : Nat := 0x38034
def ROUTE_NAN_LAST_SINK : Field := ⟨ROUTE_NAN_LAST, 11, 0⟩

/-- Table 7.12. -/
def ROUTE_DEFER_CNT : Nat := 0x38038
def ROUTE_DEFER_CNT_COUNT : Field := ⟨ROUTE_DEFER_CNT, 15, 0⟩

/-- Table 7.12. -/
def ROUTE_MUTE_SET : Nat := 0x38040
def ROUTE_MUTE_SET_SINK : Field := ⟨ROUTE_MUTE_SET, 11, 0⟩

/-- Table 7.12. -/
def ROUTE_MUTE_CLR : Nat := 0x38044
def ROUTE_MUTE_CLR_SINK : Field := ⟨ROUTE_MUTE_CLR, 11, 0⟩

/-- Table 7.12. -/
def ROUTE_TONE : Nat := 0x38050
def ROUTE_TONE_FREQ : Field := ⟨ROUTE_TONE, 14, 0⟩
def ROUTE_TONE_LEVEL : Field := ⟨ROUTE_TONE, 31, 16⟩

/-- Table 7.12. -/
def ROUTE_CUT (n : Nat) : Nat := 0x38400 + 0x4 * n
def ROUTE_CUT_CUT (n : Nat) : Field := ⟨ROUTE_CUT n, 31, 0⟩

/-- Table 7.12. -/
def ROUTE_MUTE (n : Nat) : Nat := 0x38600 + 0x4 * n
def ROUTE_MUTE_MUTE (n : Nat) : Field := ⟨ROUTE_MUTE n, 31, 0⟩

/-- Table 7.13. -/
def ROUTE_SRC_STATUS (n : Nat) : Nat := 0x3A000 + 0x8 * n
def ROUTE_SRC_STATUS_STATE (n : Nat) : Field := ⟨ROUTE_SRC_STATUS n, 1, 0⟩
def ROUTE_SRC_STATUS_DIR (n : Nat) : Field := ⟨ROUTE_SRC_STATUS n, 2, 2⟩
def ROUTE_SRC_STATUS_ID (n : Nat) : Field := ⟨ROUTE_SRC_STATUS n, 15, 4⟩

/-- Table 7.13. -/
def ROUTE_SRC_RATIO (n : Nat) : Nat := 0x3A004 + 0x8 * n
def ROUTE_SRC_RATIO_RATIO (n : Nat) : Field := ⟨ROUTE_SRC_RATIO n, 31, 0⟩

/-- Table 7.13. -/
def ROUTE_SRC_POOL : Nat := 0x3A800
def ROUTE_SRC_POOL_FREE : Field := ⟨ROUTE_SRC_POOL, 7, 0⟩

/-- Table 7.14. -/
def ROUTE_DP_CFG (n : Nat) : Nat := 0x3C000 + 0x10 * n
def ROUTE_DP_CFG_IN (n : Nat) : Field := ⟨ROUTE_DP_CFG n, 3, 0⟩
def ROUTE_DP_CFG_OUT (n : Nat) : Field := ⟨ROUTE_DP_CFG n, 8, 4⟩
def ROUTE_DP_CFG_EN (n : Nat) : Field := ⟨ROUTE_DP_CFG n, 11, 11⟩
def ROUTE_DP_CFG_RAMP (n : Nat) : Field := ⟨ROUTE_DP_CFG n, 15, 12⟩
def ROUTE_DP_CFG_GAIN (n : Nat) : Field := ⟨ROUTE_DP_CFG n, 31, 16⟩

/-- Table 7.14. -/
def ROUTE_DP_ACT (n : Nat) : Nat := 0x3C004 + 0x10 * n

/-- Table 7.14. -/
def ROUTE_DP_STATUS (n : Nat) : Nat := 0x3C008 + 0x10 * n
def ROUTE_DP_STATUS_STATE (n : Nat) : Field := ⟨ROUTE_DP_STATUS n, 1, 0⟩
def ROUTE_DP_STATUS_HELD (n : Nat) : Field := ⟨ROUTE_DP_STATUS n, 2, 2⟩

/-- Table 6.10. -/
def FLOW_TX_CTRL (n : Nat) : Nat := 0x2402C + 0x40 * n
def FLOW_TX_CTRL_CMD (n : Nat) : Field := ⟨FLOW_TX_CTRL n, 1, 0⟩
def FLOW_TX_CTRL_TIMED (n : Nat) : Field := ⟨FLOW_TX_CTRL n, 2, 2⟩
def FLOW_TX_CTRL_COMMON (n : Nat) : Field := ⟨FLOW_TX_CTRL n, 3, 3⟩
def FLOW_TX_CTRL_CLR_CNT (n : Nat) : Field := ⟨FLOW_TX_CTRL n, 4, 4⟩

/-- Table 6.10. -/
def FLOW_TX_AT_LO (n : Nat) : Nat := 0x24030 + 0x40 * n
def FLOW_TX_AT_LO_AT (n : Nat) : Field := ⟨FLOW_TX_AT_LO n, 31, 0⟩

/-- Table 6.10. -/
def FLOW_TX_AT_HI (n : Nat) : Nat := 0x24034 + 0x40 * n
def FLOW_TX_AT_HI_AT (n : Nat) : Field := ⟨FLOW_TX_AT_HI n, 31, 0⟩

/-- Table 6.13. -/
def FLOW_TX_FREE : Nat := 0x2E00C
def FLOW_TX_FREE_LOWEST : Field := ⟨FLOW_TX_FREE, 8, 0⟩
def FLOW_TX_FREE_ACTIVE : Field := ⟨FLOW_TX_FREE, 24, 16⟩

end Sys2Proof.Machine.R
end

