-- ==== Sys2Proof/Machine/RegsMgmt.lean ====
section
/-!
DEFINITION. The registers and fields of TWIN, MP and FUSE, by the manual's names: byte addresses in BAR0 and bit ranges,
from the register tables of spec/ chapters 15, 16 (R4, R5). An array register takes its index as an argument.
-/
namespace Sys2Proof.Machine.R

/-- Table 15.9. -/
def TWIN_CTRL : Nat := 0x4000
def TWIN_CTRL_MODE : Field := ⟨TWIN_CTRL, 1, 0⟩
def TWIN_CTRL_SWAP : Field := ⟨TWIN_CTRL, 2, 2⟩
def TWIN_CTRL_INHIBIT : Field := ⟨TWIN_CTRL, 3, 3⟩
def TWIN_CTRL_CANCEL : Field := ⟨TWIN_CTRL, 4, 4⟩

/-- Table 15.9. -/
def TWIN_CFG : Nat := 0x4004
def TWIN_CFG_HB_PERIOD : Field := ⟨TWIN_CFG, 4, 0⟩
def TWIN_CFG_HB_MISS : Field := ⟨TWIN_CFG, 7, 5⟩
def TWIN_CFG_NET_YIELD : Field := ⟨TWIN_CFG, 15, 8⟩
def TWIN_CFG_REVERT_HOLD : Field := ⟨TWIN_CFG, 23, 16⟩
def TWIN_CFG_HB_A_EN : Field := ⟨TWIN_CFG, 24, 24⟩
def TWIN_CFG_HB_B_EN : Field := ⟨TWIN_CFG, 25, 25⟩

/-- Table 15.9. -/
def TWIN_IMG_CFG : Nat := 0x4008
def TWIN_IMG_CFG_PUSH_MS : Field := ⟨TWIN_IMG_CFG, 7, 0⟩
def TWIN_IMG_CFG_SEQ_SKIP : Field := ⟨TWIN_IMG_CFG, 31, 16⟩

/-- Table 15.9. -/
def TWIN_PAIR_ID : Nat := 0x400C
def TWIN_PAIR_ID_ID : Field := ⟨TWIN_PAIR_ID, 31, 0⟩

/-- Table 15.9. -/
def TWIN_PEER_IP_A : Nat := 0x4010
def TWIN_PEER_IP_A_ADDR : Field := ⟨TWIN_PEER_IP_A, 31, 0⟩

/-- Table 15.9. -/
def TWIN_PEER_IP_B : Nat := 0x4014
def TWIN_PEER_IP_B_ADDR : Field := ⟨TWIN_PEER_IP_B, 31, 0⟩

/-- Table 15.9. -/
def TWIN_PEER_MAC_A_LO : Nat := 0x4018
def TWIN_PEER_MAC_A_LO_MAC_LO : Field := ⟨TWIN_PEER_MAC_A_LO, 31, 0⟩

/-- Table 15.9. -/
def TWIN_PEER_MAC_B_LO : Nat := 0x401C
def TWIN_PEER_MAC_B_LO_MAC_LO : Field := ⟨TWIN_PEER_MAC_B_LO, 31, 0⟩

/-- Table 15.9. -/
def TWIN_PEER_MAC_HI : Nat := 0x4020
def TWIN_PEER_MAC_HI_A_HI : Field := ⟨TWIN_PEER_MAC_HI, 15, 0⟩
def TWIN_PEER_MAC_HI_B_HI : Field := ⟨TWIN_PEER_MAC_HI, 31, 16⟩

/-- Table 15.9. -/
def TWIN_HB_UDP : Nat := 0x4024
def TWIN_HB_UDP_PORT : Field := ⟨TWIN_HB_UDP, 15, 0⟩
def TWIN_HB_UDP_DSCP : Field := ⟨TWIN_HB_UDP, 21, 16⟩

/-- Table 15.9. -/
def TWIN_HEALTH_MASK : Nat := 0x4028
def TWIN_HEALTH_MASK_MASK : Field := ⟨TWIN_HEALTH_MASK, 11, 0⟩

/-- Table 15.10. -/
def TWIN_STATUS : Nat := 0x4040
def TWIN_STATUS_STATE : Field := ⟨TWIN_STATUS, 2, 0⟩
def TWIN_STATUS_OWN : Field := ⟨TWIN_STATUS, 3, 3⟩
def TWIN_STATUS_OWN_IN : Field := ⟨TWIN_STATUS, 4, 4⟩
def TWIN_STATUS_PREF : Field := ⟨TWIN_STATUS, 5, 5⟩
def TWIN_STATUS_PEER_ALIVE : Field := ⟨TWIN_STATUS, 6, 6⟩
def TWIN_STATUS_PEER_HEALTHY : Field := ⟨TWIN_STATUS, 7, 7⟩
def TWIN_STATUS_ALIVE : Field := ⟨TWIN_STATUS, 10, 8⟩
def TWIN_STATUS_DEGRADED : Field := ⟨TWIN_STATUS, 11, 11⟩
def TWIN_STATUS_TIME_OK : Field := ⟨TWIN_STATUS, 12, 12⟩
def TWIN_STATUS_IMG_VALID : Field := ⟨TWIN_STATUS, 13, 13⟩
def TWIN_STATUS_OWN_BLOCKED : Field := ⟨TWIN_STATUS, 14, 14⟩
def TWIN_STATUS_PREF_CONFLICT : Field := ⟨TWIN_STATUS, 15, 15⟩
def TWIN_STATUS_TLINK_UP : Field := ⟨TWIN_STATUS, 16, 16⟩

/-- Table 15.10. -/
def TWIN_EVENT : Nat := 0x4044
def TWIN_EVENT_EVENT : Field := ⟨TWIN_EVENT, 12, 0⟩

/-- Table 15.10. -/
def TWIN_EVENT_EN : Nat := 0x4048
def TWIN_EVENT_EN_EN : Field := ⟨TWIN_EVENT_EN, 12, 0⟩

/-- Table 15.10. -/
def TWIN_HEALTH : Nat := 0x404C
def TWIN_HEALTH_OWN : Field := ⟨TWIN_HEALTH, 11, 0⟩
def TWIN_HEALTH_PEER : Field := ⟨TWIN_HEALTH, 27, 16⟩

/-- Table 15.10. -/
def TWIN_IMG_STATUS : Nat := 0x4050
def TWIN_IMG_STATUS_PAGES : Field := ⟨TWIN_IMG_STATUS, 10, 0⟩
def TWIN_IMG_STATUS_RESULT : Field := ⟨TWIN_IMG_STATUS, 14, 12⟩
def TWIN_IMG_STATUS_AGE : Field := ⟨TWIN_IMG_STATUS, 31, 16⟩

/-- Table 15.10. -/
def TWIN_IMG_SEQ : Nat := 0x4054
def TWIN_IMG_SEQ_PUSH : Field := ⟨TWIN_IMG_SEQ, 15, 0⟩
def TWIN_IMG_SEQ_ACKED : Field := ⟨TWIN_IMG_SEQ, 31, 16⟩

/-- Table 15.10. -/
def TWIN_PEER_OFS : Nat := 0x4058
def TWIN_PEER_OFS_OFS : Field := ⟨TWIN_PEER_OFS, 31, 0⟩

/-- Table 15.10. -/
def TWIN_LAST_TAKE : Nat := 0x405C
def TWIN_LAST_TAKE_TIME : Field := ⟨TWIN_LAST_TAKE, 15, 0⟩

/-- Table 15.10. -/
def TWIN_HB_CNT (n : Nat) : Nat := 0x4060 + 0x4 * n
def TWIN_HB_CNT_RX (n : Nat) : Field := ⟨TWIN_HB_CNT n, 15, 0⟩
def TWIN_HB_CNT_MISS (n : Nat) : Field := ⟨TWIN_HB_CNT n, 31, 16⟩

/-- Table 15.10. -/
def TWIN_CNT : Nat := 0x406C
def TWIN_CNT_TAKEOVERS : Field := ⟨TWIN_CNT, 15, 0⟩
def TWIN_CNT_HANDOVERS : Field := ⟨TWIN_CNT, 31, 16⟩

/-- Table 15.11. -/
def REGION_BASE (n : Nat) : Nat := 0x4100 + 0x8 * n
def REGION_BASE_BASE (n : Nat) : Field := ⟨REGION_BASE n, 23, 0⟩
def REGION_BASE_EN (n : Nat) : Field := ⟨REGION_BASE n, 24, 24⟩
def REGION_BASE_CYCLIC (n : Nat) : Field := ⟨REGION_BASE n, 25, 25⟩

/-- Table 15.11. -/
def REGION_WORDS (n : Nat) : Nat := 0x4104 + 0x8 * n
def REGION_WORDS_WORDS (n : Nat) : Field := ⟨REGION_WORDS n, 18, 0⟩

/-- Table 16.12. -/
def MP_CTRL : Nat := 0x5000
def MP_CTRL_HALT : Field := ⟨MP_CTRL, 0, 0⟩
def MP_CTRL_RESTART : Field := ⟨MP_CTRL, 1, 1⟩

/-- Table 16.12. -/
def MP_STATUS : Nat := 0x5004
def MP_STATUS_STATE : Field := ⟨MP_STATUS, 1, 0⟩
def MP_STATUS_SLOT : Field := ⟨MP_STATUS, 2, 2⟩
def MP_STATUS_TRIAL : Field := ⟨MP_STATUS, 3, 3⟩
def MP_STATUS_FALLBACK : Field := ⟨MP_STATUS, 4, 4⟩

/-- Table 16.12. -/
def MP_FW_VER : Nat := 0x5008
def MP_FW_VER_VER : Field := ⟨MP_FW_VER, 31, 0⟩

/-- Table 16.12. -/
def MP_FW_SVN : Nat := 0x500C
def MP_FW_SVN_IMG : Field := ⟨MP_FW_SVN, 7, 0⟩
def MP_FW_SVN_FUSE : Field := ⟨MP_FW_SVN, 15, 8⟩

/-- Table 16.12. -/
def MP_EVENT : Nat := 0x5010
def MP_EVENT_EVENT : Field := ⟨MP_EVENT, 18, 0⟩

/-- Table 16.12. -/
def MP_EVENT_EN : Nat := 0x5014
def MP_EVENT_EN_EN : Field := ⟨MP_EVENT_EN, 18, 0⟩

/-- Table 16.12. -/
def MP_MB_CMD : Nat := 0x5020
def MP_MB_CMD_OP : Field := ⟨MP_MB_CMD, 7, 0⟩
def MP_MB_CMD_LEN : Field := ⟨MP_MB_CMD, 12, 8⟩
def MP_MB_CMD_TAG : Field := ⟨MP_MB_CMD, 23, 16⟩

/-- Table 16.12. -/
def MP_MB_STATUS : Nat := 0x5024
def MP_MB_STATUS_BUSY : Field := ⟨MP_MB_STATUS, 0, 0⟩
def MP_MB_STATUS_REFUSED : Field := ⟨MP_MB_STATUS, 1, 1⟩
def MP_MB_STATUS_STATUS : Field := ⟨MP_MB_STATUS, 15, 8⟩
def MP_MB_STATUS_TAG : Field := ⟨MP_MB_STATUS, 23, 16⟩
def MP_MB_STATUS_RLEN : Field := ⟨MP_MB_STATUS, 28, 24⟩
def MP_MB_STATUS_PORT : Field := ⟨MP_MB_STATUS, 30, 29⟩

/-- Table 16.12. -/
def MP_MB_ARG (n : Nat) : Nat := 0x5040 + 0x4 * n
def MP_MB_ARG_ARG (n : Nat) : Field := ⟨MP_MB_ARG n, 31, 0⟩

/-- Table 16.12. -/
def MP_MB_RSP (n : Nat) : Nat := 0x5080 + 0x4 * n
def MP_MB_RSP_RSP (n : Nat) : Field := ⟨MP_MB_RSP n, 31, 0⟩

/-- Table 16.12. -/
def MP_TEMP (n : Nat) : Nat := 0x5100 + 0x4 * n
def MP_TEMP_T (n : Nat) : Field := ⟨MP_TEMP n, 15, 0⟩
def MP_TEMP_VALID (n : Nat) : Field := ⟨MP_TEMP n, 16, 16⟩

/-- Table 16.12. -/
def MP_SUPPLY (n : Nat) : Nat := 0x5120 + 0x4 * n
def MP_SUPPLY_V (n : Nat) : Field := ⟨MP_SUPPLY n, 15, 0⟩
def MP_SUPPLY_VALID (n : Nat) : Field := ⟨MP_SUPPLY n, 16, 16⟩

/-- Table 16.12. -/
def MP_TEMP_THR (n : Nat) : Nat := 0x5140 + 0x4 * n
def MP_TEMP_THR_WARN (n : Nat) : Field := ⟨MP_TEMP_THR n, 7, 0⟩
def MP_TEMP_THR_ALARM (n : Nat) : Field := ⟨MP_TEMP_THR n, 15, 8⟩

/-- Table 16.12. -/
def MP_SUPPLY_THR (n : Nat) : Nat := 0x5160 + 0x4 * n
def MP_SUPPLY_THR_WARN (n : Nat) : Field := ⟨MP_SUPPLY_THR n, 7, 0⟩
def MP_SUPPLY_THR_ALARM (n : Nat) : Field := ⟨MP_SUPPLY_THR n, 15, 8⟩

/-- Table 16.12. -/
def MP_ALARM_STATUS : Nat := 0x5180

/-- Table 16.12. -/
def MP_LOG_HEAD : Nat := 0x51C0
def MP_LOG_HEAD_SEQ : Field := ⟨MP_LOG_HEAD, 31, 0⟩

/-- Table 16.12. -/
def MP_LOG_SEL : Nat := 0x51C4
def MP_LOG_SEL_SEQ : Field := ⟨MP_LOG_SEL, 31, 0⟩

/-- Table 16.12. -/
def MP_LOG_OLDEST : Nat := 0x51C8
def MP_LOG_OLDEST_SEQ : Field := ⟨MP_LOG_OLDEST, 31, 0⟩

/-- Table 16.12. -/
def MP_LOG_DATA (n : Nat) : Nat := 0x51E0 + 0x4 * n
def MP_LOG_DATA_DATA (n : Nat) : Field := ⟨MP_LOG_DATA n, 31, 0⟩

/-- Table 16.12. -/
def MP_XFER (n : Nat) : Nat := 0x5800 + 0x4 * n
def MP_XFER_DATA (n : Nat) : Field := ⟨MP_XFER n, 31, 0⟩

/-- Table 16.13. -/
def MP_GPIO_CFG (n : Nat) : Nat := 0x5200 + 0x8 * n
def MP_GPIO_CFG_DIR (n : Nat) : Field := ⟨MP_GPIO_CFG n, 1, 0⟩
def MP_GPIO_CFG_POL (n : Nat) : Field := ⟨MP_GPIO_CFG n, 2, 2⟩
def MP_GPIO_CFG_OD (n : Nat) : Field := ⟨MP_GPIO_CFG n, 3, 3⟩
def MP_GPIO_CFG_DEB (n : Nat) : Field := ⟨MP_GPIO_CFG n, 11, 4⟩
def MP_GPIO_CFG_ACTION (n : Nat) : Field := ⟨MP_GPIO_CFG n, 15, 12⟩
def MP_GPIO_CFG_REC (n : Nat) : Field := ⟨MP_GPIO_CFG n, 17, 16⟩
def MP_GPIO_CFG_OSRC (n : Nat) : Field := ⟨MP_GPIO_CFG n, 21, 18⟩

/-- Table 16.13. -/
def MP_GPIO_ARG (n : Nat) : Nat := 0x5204 + 0x8 * n
def MP_GPIO_ARG_SINK (n : Nat) : Field := ⟨MP_GPIO_ARG n, 11, 0⟩
def MP_GPIO_ARG_COUNT (n : Nat) : Field := ⟨MP_GPIO_ARG n, 19, 12⟩

/-- Table 16.13. -/
def MP_GPIO_IN : Nat := 0x5280
def MP_GPIO_IN_IN : Field := ⟨MP_GPIO_IN, 31, 0⟩

/-- Table 16.13. -/
def MP_GPIO_OUT : Nat := 0x5284
def MP_GPIO_OUT_OUT : Field := ⟨MP_GPIO_OUT, 15, 0⟩

/-- Table 16.13. -/
def MP_EVT_NS : Nat := 0x5290
def MP_EVT_NS_NS : Field := ⟨MP_EVT_NS, 29, 0⟩

/-- Table 16.13. -/
def MP_EVT_INFO : Nat := 0x5294
def MP_EVT_INFO_SEC : Field := ⟨MP_EVT_INFO, 15, 0⟩
def MP_EVT_INFO_PIN : Field := ⟨MP_EVT_INFO, 19, 16⟩
def MP_EVT_INFO_EDGE : Field := ⟨MP_EVT_INFO, 20, 20⟩
def MP_EVT_INFO_VALID : Field := ⟨MP_EVT_INFO, 21, 21⟩
def MP_EVT_INFO_LOST : Field := ⟨MP_EVT_INFO, 22, 22⟩

/-- Table 16.13. -/
def MP_OVF (n : Nat) : Nat := 0x52A0 + 0x4 * n
def MP_OVF_OVF (n : Nat) : Field := ⟨MP_OVF n, 31, 0⟩

/-- Table 16.14. -/
def FUSE_PROG : Nat := 0x6010
def FUSE_PROG_WORD : Field := ⟨FUSE_PROG, 5, 0⟩

/-- Table 16.14. -/
def FUSE_LOCK : Nat := 0x6014
def FUSE_LOCK_CLOSE : Field := ⟨FUSE_LOCK, 2, 0⟩
def FUSE_LOCK_LOCK : Field := ⟨FUSE_LOCK, 6, 3⟩

/-- Table 16.14. -/
def FUSE_STATUS : Nat := 0x6018
def FUSE_STATUS_BUSY : Field := ⟨FUSE_STATUS, 0, 0⟩
def FUSE_STATUS_RESULT : Field := ⟨FUSE_STATUS, 3, 1⟩
def FUSE_STATUS_OPEN : Field := ⟨FUSE_STATUS, 4, 4⟩

/-- Table 16.14. -/
def FUSE_EVENT : Nat := 0x601C
def FUSE_EVENT_EVENT : Field := ⟨FUSE_EVENT, 1, 0⟩

/-- Table 16.14. -/
def FUSE_EVENT_EN : Nat := 0x6020
def FUSE_EVENT_EN_EN : Field := ⟨FUSE_EVENT_EN, 1, 0⟩

/-- Table 16.14. -/
def FUSE_DATA : Nat := 0x6024
def FUSE_DATA_DATA : Field := ⟨FUSE_DATA, 31, 0⟩

/-- Table 16.14. -/
def FUSE_WORD (n : Nat) : Nat := 0x6100 + 0x4 * n
def FUSE_WORD_FUSE (n : Nat) : Field := ⟨FUSE_WORD n, 31, 0⟩

end Sys2Proof.Machine.R
end

