-- ==== Sys2Proof/Machine/RegsNet.lean ====
section
/-!
DEFINITION. The registers and fields of NET_A, NET_B and NET_C, by the manual's names: byte addresses in BAR0 and bit ranges,
from the register tables of spec/ chapters 5 (R4, R5). An array register takes its index as an argument.
-/
namespace Sys2Proof.Machine.R

/-- Table 5.11. -/
def NET_CTRL (n : Nat) : Nat := 0x10000 + 0x4000 * n
def NET_CTRL_EN (n : Nat) : Field := ⟨NET_CTRL n, 0, 0⟩
def NET_CTRL_MODE (n : Nat) : Field := ⟨NET_CTRL n, 2, 1⟩
def NET_CTRL_AN_EN (n : Nat) : Field := ⟨NET_CTRL n, 3, 3⟩
def NET_CTRL_LOS_EN (n : Nat) : Field := ⟨NET_CTRL n, 4, 4⟩
def NET_CTRL_LOS_POL (n : Nat) : Field := ⟨NET_CTRL n, 5, 5⟩
def NET_CTRL_LOOPBACK (n : Nat) : Field := ⟨NET_CTRL n, 6, 6⟩

/-- Table 5.11. -/
def NET_STATUS (n : Nat) : Nat := 0x10004 + 0x4000 * n
def NET_STATUS_LINK (n : Nat) : Field := ⟨NET_STATUS n, 0, 0⟩
def NET_STATUS_PCS_LOCK (n : Nat) : Field := ⟨NET_STATUS n, 1, 1⟩
def NET_STATUS_LOS (n : Nat) : Field := ⟨NET_STATUS n, 2, 2⟩
def NET_STATUS_AN_DONE (n : Nat) : Field := ⟨NET_STATUS n, 3, 3⟩
def NET_STATUS_SPEED_ERR (n : Nat) : Field := ⟨NET_STATUS n, 4, 4⟩
def NET_STATUS_MODE_REFUSED (n : Nat) : Field := ⟨NET_STATUS n, 5, 5⟩

/-- Table 5.11. -/
def NET_EVENT (n : Nat) : Nat := 0x10008 + 0x4000 * n
def NET_EVENT_LINK_DOWN (n : Nat) : Field := ⟨NET_EVENT n, 0, 0⟩
def NET_EVENT_LINK_UP (n : Nat) : Field := ⟨NET_EVENT n, 1, 1⟩
def NET_EVENT_PTP_STATE (n : Nat) : Field := ⟨NET_EVENT n, 2, 2⟩
def NET_EVENT_BETTER_MASTER (n : Nat) : Field := ⟨NET_EVENT n, 3, 3⟩
def NET_EVENT_DELAY_OUTLIER (n : Nat) : Field := ⟨NET_EVENT n, 4, 4⟩
def NET_EVENT_TXTS (n : Nat) : Field := ⟨NET_EVENT n, 5, 5⟩
def NET_EVENT_TXTS_LOST (n : Nat) : Field := ⟨NET_EVENT n, 6, 6⟩
def NET_EVENT_SPEED_ERR (n : Nat) : Field := ⟨NET_EVENT n, 7, 7⟩
def NET_EVENT_CNT_WRAP (n : Nat) : Field := ⟨NET_EVENT n, 8, 8⟩

/-- Table 5.11. -/
def NET_EVENT_EN (n : Nat) : Nat := 0x1000C + 0x4000 * n
def NET_EVENT_EN_EN (n : Nat) : Field := ⟨NET_EVENT_EN n, 8, 0⟩

/-- Table 5.12. -/
def NET_MAC_LO (n : Nat) : Nat := 0x10010 + 0x4000 * n
def NET_MAC_LO_MAC_LO (n : Nat) : Field := ⟨NET_MAC_LO n, 31, 0⟩

/-- Table 5.12. -/
def NET_MAC_HI (n : Nat) : Nat := 0x10014 + 0x4000 * n
def NET_MAC_HI_MAC_HI (n : Nat) : Field := ⟨NET_MAC_HI n, 15, 0⟩

/-- Table 5.12. -/
def NET_IP_ADDR (n : Nat) : Nat := 0x10018 + 0x4000 * n
def NET_IP_ADDR_ADDR (n : Nat) : Field := ⟨NET_IP_ADDR n, 31, 0⟩

/-- Table 5.12. -/
def NET_VLAN (n : Nat) : Nat := 0x1001C + 0x4000 * n
def NET_VLAN_VID (n : Nat) : Field := ⟨NET_VLAN n, 11, 0⟩
def NET_VLAN_TAG_EN (n : Nat) : Field := ⟨NET_VLAN n, 12, 12⟩
def NET_VLAN_ACCEPT_UNTAGGED (n : Nat) : Field := ⟨NET_VLAN n, 13, 13⟩
def NET_VLAN_PCP_PTP (n : Nat) : Field := ⟨NET_VLAN n, 18, 16⟩
def NET_VLAN_PCP_MEDIA (n : Nat) : Field := ⟨NET_VLAN n, 22, 20⟩
def NET_VLAN_PCP_HOST (n : Nat) : Field := ⟨NET_VLAN n, 26, 24⟩

/-- Table 5.12. -/
def NET_LINK_CFG (n : Nat) : Nat := 0x10020 + 0x4000 * n
def NET_LINK_CFG_UP_HOLD (n : Nat) : Field := ⟨NET_LINK_CFG n, 15, 0⟩

/-- Table 5.12. -/
def NET_TS_CORR (n : Nat) : Nat := 0x10024 + 0x4000 * n
def NET_TS_CORR_RX_CORR (n : Nat) : Field := ⟨NET_TS_CORR n, 15, 0⟩
def NET_TS_CORR_TX_CORR (n : Nat) : Field := ⟨NET_TS_CORR n, 31, 16⟩

/-- Table 5.12. -/
def NET_IP_CFG (n : Nat) : Nat := 0x10028 + 0x4000 * n
def NET_IP_CFG_TTL_PTP (n : Nat) : Field := ⟨NET_IP_CFG n, 7, 0⟩
def NET_IP_CFG_DSCP_EVENT (n : Nat) : Field := ⟨NET_IP_CFG n, 21, 16⟩
def NET_IP_CFG_DSCP_GENERAL (n : Nat) : Field := ⟨NET_IP_CFG n, 29, 24⟩

/-- Table 5.13. -/
def NET_PTP_CFG (n : Nat) : Nat := 0x10040 + 0x4000 * n
def NET_PTP_CFG_ROLE (n : Nat) : Field := ⟨NET_PTP_CFG n, 1, 0⟩
def NET_PTP_CFG_PROFILE (n : Nat) : Field := ⟨NET_PTP_CFG n, 2, 2⟩
def NET_PTP_CFG_AUTO_YIELD (n : Nat) : Field := ⟨NET_PTP_CFG n, 3, 3⟩
def NET_PTP_CFG_DOMAIN (n : Nat) : Field := ⟨NET_PTP_CFG n, 10, 4⟩
def NET_PTP_CFG_TWO_STEP (n : Nat) : Field := ⟨NET_PTP_CFG n, 11, 11⟩
def NET_PTP_CFG_DREQ_UNICAST (n : Nat) : Field := ⟨NET_PTP_CFG n, 12, 12⟩
def NET_PTP_CFG_DELAY_AVG (n : Nat) : Field := ⟨NET_PTP_CFG n, 15, 13⟩
def NET_PTP_CFG_DELAY_REJECT (n : Nat) : Field := ⟨NET_PTP_CFG n, 31, 16⟩

/-- Table 5.13. -/
def NET_PTP_RATES (n : Nat) : Nat := 0x10044 + 0x4000 * n
def NET_PTP_RATES_LOG_SYNC (n : Nat) : Field := ⟨NET_PTP_RATES n, 3, 0⟩
def NET_PTP_RATES_LOG_ANNOUNCE (n : Nat) : Field := ⟨NET_PTP_RATES n, 7, 4⟩
def NET_PTP_RATES_LOG_DREQ (n : Nat) : Field := ⟨NET_PTP_RATES n, 11, 8⟩
def NET_PTP_RATES_ANN_TIMEOUT (n : Nat) : Field := ⟨NET_PTP_RATES n, 15, 12⟩
def NET_PTP_RATES_DREQ_FIXED (n : Nat) : Field := ⟨NET_PTP_RATES n, 16, 16⟩

/-- Table 5.13. -/
def NET_PTP_DS0 (n : Nat) : Nat := 0x10048 + 0x4000 * n
def NET_PTP_DS0_PRIORITY1 (n : Nat) : Field := ⟨NET_PTP_DS0 n, 7, 0⟩
def NET_PTP_DS0_CLASS (n : Nat) : Field := ⟨NET_PTP_DS0 n, 15, 8⟩
def NET_PTP_DS0_ACCURACY (n : Nat) : Field := ⟨NET_PTP_DS0 n, 23, 16⟩
def NET_PTP_DS0_PRIORITY2 (n : Nat) : Field := ⟨NET_PTP_DS0 n, 31, 24⟩

/-- Table 5.13. -/
def NET_PTP_DS1 (n : Nat) : Nat := 0x1004C + 0x4000 * n
def NET_PTP_DS1_VARIANCE (n : Nat) : Field := ⟨NET_PTP_DS1 n, 15, 0⟩
def NET_PTP_DS1_TIME_SOURCE (n : Nat) : Field := ⟨NET_PTP_DS1 n, 23, 16⟩

/-- Table 5.13. -/
def NET_UTC (n : Nat) : Nat := 0x10050 + 0x4000 * n
def NET_UTC_UTC_OFFSET (n : Nat) : Field := ⟨NET_UTC n, 15, 0⟩
def NET_UTC_UTC_VALID (n : Nat) : Field := ⟨NET_UTC n, 16, 16⟩
def NET_UTC_LEAP61 (n : Nat) : Field := ⟨NET_UTC n, 17, 17⟩
def NET_UTC_LEAP59 (n : Nat) : Field := ⟨NET_UTC n, 18, 18⟩
def NET_UTC_TIME_TRACEABLE (n : Nat) : Field := ⟨NET_UTC n, 19, 19⟩
def NET_UTC_FREQ_TRACEABLE (n : Nat) : Field := ⟨NET_UTC n, 20, 20⟩
def NET_UTC_PTP_TIMESCALE (n : Nat) : Field := ⟨NET_UTC n, 21, 21⟩

/-- Table 5.13. -/
def NET_CLOCK_ID_LO (n : Nat) : Nat := 0x10058 + 0x4000 * n
def NET_CLOCK_ID_LO_ID (n : Nat) : Field := ⟨NET_CLOCK_ID_LO n, 31, 0⟩

/-- Table 5.13. -/
def NET_CLOCK_ID_HI (n : Nat) : Nat := 0x1005C + 0x4000 * n
def NET_CLOCK_ID_HI_ID (n : Nat) : Field := ⟨NET_CLOCK_ID_HI n, 31, 0⟩

/-- Table 5.13. -/
def NET_PTP_STATE (n : Nat) : Nat := 0x10060 + 0x4000 * n
def NET_PTP_STATE_STATE (n : Nat) : Field := ⟨NET_PTP_STATE n, 2, 0⟩
def NET_PTP_STATE_EBEST_VALID (n : Nat) : Field := ⟨NET_PTP_STATE n, 3, 3⟩
def NET_PTP_STATE_FM_COUNT (n : Nat) : Field := ⟨NET_PTP_STATE n, 7, 4⟩
def NET_PTP_STATE_STEPS (n : Nat) : Field := ⟨NET_PTP_STATE n, 31, 16⟩

/-- Table 5.13. -/
def NET_GM_ID_LO (n : Nat) : Nat := 0x10068 + 0x4000 * n
def NET_GM_ID_LO_ID (n : Nat) : Field := ⟨NET_GM_ID_LO n, 31, 0⟩

/-- Table 5.13. -/
def NET_GM_ID_HI (n : Nat) : Nat := 0x1006C + 0x4000 * n
def NET_GM_ID_HI_ID (n : Nat) : Field := ⟨NET_GM_ID_HI n, 31, 0⟩

/-- Table 5.13. -/
def NET_OFFSET_LO (n : Nat) : Nat := 0x10070 + 0x4000 * n
def NET_OFFSET_LO_OFS (n : Nat) : Field := ⟨NET_OFFSET_LO n, 31, 0⟩

/-- Table 5.13. -/
def NET_OFFSET_HI (n : Nat) : Nat := 0x10074 + 0x4000 * n
def NET_OFFSET_HI_OFS (n : Nat) : Field := ⟨NET_OFFSET_HI n, 31, 0⟩

/-- Table 5.13. -/
def NET_MPD (n : Nat) : Nat := 0x10078 + 0x4000 * n
def NET_MPD_MPD (n : Nat) : Field := ⟨NET_MPD n, 31, 0⟩

/-- Table 5.13. -/
def NET_GM_DS (n : Nat) : Nat := 0x1007C + 0x4000 * n
def NET_GM_DS_PRIORITY1 (n : Nat) : Field := ⟨NET_GM_DS n, 7, 0⟩
def NET_GM_DS_CLASS (n : Nat) : Field := ⟨NET_GM_DS n, 15, 8⟩
def NET_GM_DS_ACCURACY (n : Nat) : Field := ⟨NET_GM_DS n, 23, 16⟩
def NET_GM_DS_PRIORITY2 (n : Nat) : Field := ⟨NET_GM_DS n, 31, 24⟩

/-- Table 5.13. -/
def NET_TXTS_NS (n : Nat) : Nat := 0x10080 + 0x4000 * n
def NET_TXTS_NS_NS (n : Nat) : Field := ⟨NET_TXTS_NS n, 29, 0⟩

/-- Table 5.13. -/
def NET_TXTS_INFO (n : Nat) : Nat := 0x10084 + 0x4000 * n
def NET_TXTS_INFO_SEC (n : Nat) : Field := ⟨NET_TXTS_INFO n, 15, 0⟩
def NET_TXTS_INFO_TAGID (n : Nat) : Field := ⟨NET_TXTS_INFO n, 26, 16⟩
def NET_TXTS_INFO_VALID (n : Nat) : Field := ⟨NET_TXTS_INFO n, 27, 27⟩
def NET_TXTS_INFO_LOST (n : Nat) : Field := ⟨NET_TXTS_INFO n, 28, 28⟩

/-- Table 5.14. -/
def NET_CNT (n : Nat) (k : Nat) : Nat := 0x10100 + 0x4000 * n + 0x4 * k
def NET_CNT_COUNT (n : Nat) (k : Nat) : Field := ⟨NET_CNT n k, 31, 0⟩

/-- Table 5.14. -/
def NET_CNT_WRAP (n : Nat) : Nat := 0x10140 + 0x4000 * n
def NET_CNT_WRAP_WRAP (n : Nat) : Field := ⟨NET_CNT_WRAP n, 15, 0⟩

/-- Table 5.15. -/
def NETC_HFP_CFG : Nat := 0x18000
def NETC_HFP_CFG_RX_SILO : Field := ⟨NETC_HFP_CFG, 5, 0⟩
def NETC_HFP_CFG_TX_SILO : Field := ⟨NETC_HFP_CFG, 13, 8⟩
def NETC_HFP_CFG_EN : Field := ⟨NETC_HFP_CFG, 16, 16⟩
def NETC_HFP_CFG_ACC_BCAST : Field := ⟨NETC_HFP_CFG, 17, 17⟩
def NETC_HFP_CFG_ACC_MC_ALL : Field := ⟨NETC_HFP_CFG, 18, 18⟩
def NETC_HFP_CFG_ACC_PTP_OTHER : Field := ⟨NETC_HFP_CFG, 19, 19⟩

/-- Table 5.15. -/
def NETC_HFP_EVENT : Nat := 0x18008
def NETC_HFP_EVENT_RX_DROP : Field := ⟨NETC_HFP_EVENT, 0, 0⟩
def NETC_HFP_EVENT_TX_BAD : Field := ⟨NETC_HFP_EVENT, 1, 1⟩
def NETC_HFP_EVENT_TX_LATE : Field := ⟨NETC_HFP_EVENT, 2, 2⟩
def NETC_HFP_EVENT_TX_FAR : Field := ⟨NETC_HFP_EVENT, 3, 3⟩
def NETC_HFP_EVENT_IGMP_DONE : Field := ⟨NETC_HFP_EVENT, 4, 4⟩
def NETC_HFP_EVENT_IGMP_V2 : Field := ⟨NETC_HFP_EVENT, 5, 5⟩

/-- Table 5.15. -/
def NETC_HFP_EVENT_EN : Nat := 0x1800C
def NETC_HFP_EVENT_EN_EN : Field := ⟨NETC_HFP_EVENT_EN, 5, 0⟩

/-- Table 5.15. -/
def NETC_HFP_RX_FRAMES : Nat := 0x18010
def NETC_HFP_RX_FRAMES_COUNT : Field := ⟨NETC_HFP_RX_FRAMES, 31, 0⟩

/-- Table 5.15. -/
def NETC_HFP_RX_DROP : Nat := 0x18014
def NETC_HFP_RX_DROP_COUNT : Field := ⟨NETC_HFP_RX_DROP, 31, 0⟩

/-- Table 5.15. -/
def NETC_HFP_TX_FRAMES : Nat := 0x18018
def NETC_HFP_TX_FRAMES_COUNT : Field := ⟨NETC_HFP_TX_FRAMES, 31, 0⟩

/-- Table 5.15. -/
def NETC_HFP_TX_DROP : Nat := 0x1801C
def NETC_HFP_TX_DROP_COUNT : Field := ⟨NETC_HFP_TX_DROP, 31, 0⟩

/-- Table 5.15. -/
def NETC_IGMP_CFG : Nat := 0x18040
def NETC_IGMP_CFG_VER_A : Field := ⟨NETC_IGMP_CFG, 0, 0⟩
def NETC_IGMP_CFG_VER_B : Field := ⟨NETC_IGMP_CFG, 1, 1⟩
def NETC_IGMP_CFG_QRESP : Field := ⟨NETC_IGMP_CFG, 2, 2⟩
def NETC_IGMP_CFG_ROBUST : Field := ⟨NETC_IGMP_CFG, 5, 3⟩
def NETC_IGMP_CFG_UNSOL_INT : Field := ⟨NETC_IGMP_CFG, 15, 8⟩
def NETC_IGMP_CFG_DSCP : Field := ⟨NETC_IGMP_CFG, 21, 16⟩

/-- Table 5.15. -/
def NETC_IGMP_CMD : Nat := 0x18044
def NETC_IGMP_CMD_OP : Field := ⟨NETC_IGMP_CMD, 1, 0⟩
def NETC_IGMP_CMD_INDEX : Field := ⟨NETC_IGMP_CMD, 11, 2⟩

/-- Table 5.15. -/
def NETC_IGMP_STATUS : Nat := 0x18048
def NETC_IGMP_STATUS_BUSY : Field := ⟨NETC_IGMP_STATUS, 0, 0⟩
def NETC_IGMP_STATUS_RESULT : Field := ⟨NETC_IGMP_STATUS, 3, 1⟩
def NETC_IGMP_STATUS_V2_FALLBACK_A : Field := ⟨NETC_IGMP_STATUS, 4, 4⟩
def NETC_IGMP_STATUS_V2_FALLBACK_B : Field := ⟨NETC_IGMP_STATUS, 5, 5⟩
def NETC_IGMP_STATUS_USED : Field := ⟨NETC_IGMP_STATUS, 25, 16⟩

/-- Table 5.15. -/
def NETC_BUDGET_A : Nat := 0x18060
def NETC_BUDGET_A_LIMIT : Field := ⟨NETC_BUDGET_A, 15, 0⟩
def NETC_BUDGET_A_USED : Field := ⟨NETC_BUDGET_A, 31, 16⟩

/-- Table 5.15. -/
def NETC_BUDGET_B : Nat := 0x18064
def NETC_BUDGET_B_LIMIT : Field := ⟨NETC_BUDGET_B, 15, 0⟩
def NETC_BUDGET_B_USED : Field := ⟨NETC_BUDGET_B, 31, 16⟩

/-- Table 5.15. -/
def NETC_MDIO_CMD : Nat := 0x18080
def NETC_MDIO_CMD_ST : Field := ⟨NETC_MDIO_CMD, 1, 0⟩
def NETC_MDIO_CMD_OP : Field := ⟨NETC_MDIO_CMD, 3, 2⟩
def NETC_MDIO_CMD_PHYAD : Field := ⟨NETC_MDIO_CMD, 8, 4⟩
def NETC_MDIO_CMD_REGAD : Field := ⟨NETC_MDIO_CMD, 13, 9⟩
def NETC_MDIO_CMD_DATA : Field := ⟨NETC_MDIO_CMD, 31, 16⟩

/-- Table 5.15. -/
def NETC_MDIO_STATUS : Nat := 0x18084
def NETC_MDIO_STATUS_BUSY : Field := ⟨NETC_MDIO_STATUS, 0, 0⟩
def NETC_MDIO_STATUS_REFUSED : Field := ⟨NETC_MDIO_STATUS, 1, 1⟩
def NETC_MDIO_STATUS_RDATA : Field := ⟨NETC_MDIO_STATUS, 31, 16⟩

/-- Table 5.15. -/
def NETC_MDIO_CFG : Nat := 0x18088
def NETC_MDIO_CFG_DIV : Field := ⟨NETC_MDIO_CFG, 7, 0⟩

/-- Table 5.16. -/
def MEMB_GROUP (n : Nat) : Nat := 0x1A000 + 0x10 * n
def MEMB_GROUP_GROUP (n : Nat) : Field := ⟨MEMB_GROUP n, 31, 0⟩

/-- Table 5.16. -/
def MEMB_SOURCE (n : Nat) : Nat := 0x1A004 + 0x10 * n
def MEMB_SOURCE_SOURCE (n : Nat) : Field := ⟨MEMB_SOURCE n, 31, 0⟩

/-- Table 5.16. -/
def MEMB_PORTS (n : Nat) : Nat := 0x1A008 + 0x10 * n
def MEMB_PORTS_PORTS (n : Nat) : Field := ⟨MEMB_PORTS n, 1, 0⟩
def MEMB_PORTS_JOINED (n : Nat) : Field := ⟨MEMB_PORTS n, 9, 8⟩

end Sys2Proof.Machine.R
end

