-- ==== Sys2Proof/Machine/RegsSiloPort.lean ====
section
/-!
DEFINITION. The registers and fields of SILO and PORT, by the manual's names: byte addresses in BAR0 and bit ranges,
from the register tables of spec/ chapters 10, 11 (R4, R5). An array register takes its index as an argument.
-/
namespace Sys2Proof.Machine.R

/-- Base of the register block of serial unit `n`, numbered by its abort INDEX (Table 11.1). -/
def portBase (n : Nat) : Nat :=
  if n < 8 then 0x40000 + 0x200 * n
  else if n < 16 then 0x44000 + 0x200 * (n - 8)
  else if n < 24 then 0x45000 + 0x200 * (n - 16)
  else 0x48000 + 0x400 * (n - 24)

/-- Table 10.7. -/
def SILO_S_CFG (n : Nat) : Nat := 0x50000 + 0x40 * n
def SILO_S_CFG_PROD (n : Nat) : Field := ⟨SILO_S_CFG n, 2, 0⟩
def SILO_S_CFG_LANE (n : Nat) : Field := ⟨SILO_S_CFG n, 6, 3⟩
def SILO_S_CFG_CONS (n : Nat) : Field := ⟨SILO_S_CFG n, 9, 8⟩
def SILO_S_CFG_PKT_MODE (n : Nat) : Field := ⟨SILO_S_CFG n, 10, 10⟩
def SILO_S_CFG_AUTOFLUSH (n : Nat) : Field := ⟨SILO_S_CFG n, 11, 11⟩
def SILO_S_CFG_GANG (n : Nat) : Field := ⟨SILO_S_CFG n, 14, 12⟩
def SILO_S_CFG_MID_EN (n : Nat) : Field := ⟨SILO_S_CFG n, 15, 15⟩

/-- Table 10.7. -/
def SILO_S_MID (n : Nat) : Nat := 0x50004 + 0x40 * n
def SILO_S_MID_MID_BASE (n : Nat) : Field := ⟨SILO_S_MID n, 16, 0⟩

/-- Table 10.7. -/
def SILO_S_MID_SIZE (n : Nat) : Nat := 0x50008 + 0x40 * n
def SILO_S_MID_SIZE_SIZE (n : Nat) : Field := ⟨SILO_S_MID_SIZE n, 14, 0⟩

/-- Table 10.7. -/
def SILO_S_CTRL (n : Nat) : Nat := 0x5000C + 0x40 * n
def SILO_S_CTRL_CMD (n : Nat) : Field := ⟨SILO_S_CTRL n, 1, 0⟩
def SILO_S_CTRL_FLUSH (n : Nat) : Field := ⟨SILO_S_CTRL n, 2, 2⟩
def SILO_S_CTRL_PKT_OPEN (n : Nat) : Field := ⟨SILO_S_CTRL n, 3, 3⟩
def SILO_S_CTRL_PKT_CLOSE (n : Nat) : Field := ⟨SILO_S_CTRL n, 4, 4⟩

/-- Table 10.7. -/
def SILO_S_USER (n : Nat) : Nat := 0x50010 + 0x40 * n
def SILO_S_USER_USER (n : Nat) : Field := ⟨SILO_S_USER n, 31, 0⟩

/-- Table 10.7. -/
def SILO_S_STATUS (n : Nat) : Nat := 0x50014 + 0x40 * n
def SILO_S_STATUS_OPEN (n : Nat) : Field := ⟨SILO_S_STATUS n, 0, 0⟩
def SILO_S_STATUS_FULL (n : Nat) : Field := ⟨SILO_S_STATUS n, 1, 1⟩
def SILO_S_STATUS_EMPTY (n : Nat) : Field := ⟨SILO_S_STATUS n, 2, 2⟩
def SILO_S_STATUS_PKT_OPEN (n : Nat) : Field := ⟨SILO_S_STATUS n, 3, 3⟩
def SILO_S_STATUS_TRUNC_PEND (n : Nat) : Field := ⟨SILO_S_STATUS n, 4, 4⟩
def SILO_S_STATUS_LAST_TAG (n : Nat) : Field := ⟨SILO_S_STATUS n, 7, 5⟩
def SILO_S_STATUS_RESULT (n : Nat) : Field := ⟨SILO_S_STATUS n, 10, 8⟩
def SILO_S_STATUS_SPILLING (n : Nat) : Field := ⟨SILO_S_STATUS n, 11, 11⟩

/-- Table 10.7. -/
def SILO_S_EVENT (n : Nat) : Nat := 0x50018 + 0x40 * n
def SILO_S_EVENT_LEVEL (n : Nat) : Field := ⟨SILO_S_EVENT n, 0, 0⟩
def SILO_S_EVENT_OVERRUN (n : Nat) : Field := ⟨SILO_S_EVENT n, 1, 1⟩
def SILO_S_EVENT_UNDERRUN (n : Nat) : Field := ⟨SILO_S_EVENT n, 2, 2⟩
def SILO_S_EVENT_TRUNC (n : Nat) : Field := ⟨SILO_S_EVENT n, 3, 3⟩
def SILO_S_EVENT_ORPHAN (n : Nat) : Field := ⟨SILO_S_EVENT n, 4, 4⟩
def SILO_S_EVENT_ROLE_ERR (n : Nat) : Field := ⟨SILO_S_EVENT n, 5, 5⟩
def SILO_S_EVENT_CFG_LOCK (n : Nat) : Field := ⟨SILO_S_EVENT n, 6, 6⟩
def SILO_S_EVENT_BACKLOG (n : Nat) : Field := ⟨SILO_S_EVENT n, 7, 7⟩
def SILO_S_EVENT_REFUSED (n : Nat) : Field := ⟨SILO_S_EVENT n, 8, 8⟩

/-- Table 10.7. -/
def SILO_S_EVENT_EN (n : Nat) : Nat := 0x5001C + 0x40 * n
def SILO_S_EVENT_EN_EN (n : Nat) : Field := ⟨SILO_S_EVENT_EN n, 8, 0⟩

/-- Table 10.7. -/
def SILO_S_VIS (n : Nat) : Nat := 0x50020 + 0x40 * n
def SILO_S_VIS_VIS (n : Nat) : Field := ⟨SILO_S_VIS n, 31, 0⟩

/-- Table 10.7. -/
def SILO_S_FREE (n : Nat) : Nat := 0x50024 + 0x40 * n
def SILO_S_FREE_FREE (n : Nat) : Field := ⟨SILO_S_FREE n, 31, 0⟩

/-- Table 10.7. -/
def SILO_S_IN_CNT (n : Nat) : Nat := 0x50028 + 0x40 * n
def SILO_S_IN_CNT_COUNT (n : Nat) : Field := ⟨SILO_S_IN_CNT n, 31, 0⟩

/-- Table 10.7. -/
def SILO_S_OUT_CNT (n : Nat) : Nat := 0x5002C + 0x40 * n
def SILO_S_OUT_CNT_COUNT (n : Nat) : Field := ⟨SILO_S_OUT_CNT n, 31, 0⟩

/-- Table 10.7. -/
def SILO_S_OVR_CNT (n : Nat) : Nat := 0x50030 + 0x40 * n
def SILO_S_OVR_CNT_COUNT (n : Nat) : Field := ⟨SILO_S_OVR_CNT n, 31, 0⟩

/-- Table 10.7. -/
def SILO_S_ERR_CNT (n : Nat) : Nat := 0x50034 + 0x40 * n
def SILO_S_ERR_CNT_UNDER_CNT (n : Nat) : Field := ⟨SILO_S_ERR_CNT n, 15, 0⟩
def SILO_S_ERR_CNT_ORPHAN_CNT (n : Nat) : Field := ⟨SILO_S_ERR_CNT n, 31, 16⟩

/-- Table 10.7. -/
def SILO_S_WM (n : Nat) : Nat := 0x50038 + 0x40 * n
def SILO_S_WM_WM (n : Nat) : Field := ⟨SILO_S_WM n, 23, 0⟩

/-- Table 10.7. -/
def SILO_S_SEQ (n : Nat) : Nat := 0x5003C + 0x40 * n
def SILO_S_SEQ_NEXT (n : Nat) : Field := ⟨SILO_S_SEQ n, 7, 0⟩
def SILO_S_SEQ_BACKLOG_CNT (n : Nat) : Field := ⟨SILO_S_SEQ n, 31, 16⟩

/-- Table 10.8. -/
def DMA_CFG (n : Nat) : Nat := 0x58000 + 0x40 * n
def DMA_CFG_SILO (n : Nat) : Field := ⟨DMA_CFG n, 5, 0⟩
def DMA_CFG_DIR (n : Nat) : Field := ⟨DMA_CFG n, 6, 6⟩
def DMA_CFG_EN (n : Nat) : Field := ⟨DMA_CFG n, 7, 7⟩
def DMA_CFG_TIMEOUT (n : Nat) : Field := ⟨DMA_CFG n, 31, 16⟩

/-- Table 10.8. -/
def DMA_ADDR_LO (n : Nat) : Nat := 0x58004 + 0x40 * n
def DMA_ADDR_LO_ADDR (n : Nat) : Field := ⟨DMA_ADDR_LO n, 31, 0⟩

/-- Table 10.8. -/
def DMA_ADDR_HI (n : Nat) : Nat := 0x58008 + 0x40 * n
def DMA_ADDR_HI_ADDR (n : Nat) : Field := ⟨DMA_ADDR_HI n, 31, 0⟩

/-- Table 10.8. -/
def DMA_USER (n : Nat) : Nat := 0x5800C + 0x40 * n
def DMA_USER_USER (n : Nat) : Field := ⟨DMA_USER n, 31, 0⟩

/-- Table 10.8. -/
def DMA_DESC (n : Nat) : Nat := 0x58010 + 0x40 * n
def DMA_DESC_LEN (n : Nat) : Field := ⟨DMA_DESC n, 23, 0⟩
def DMA_DESC_IRQ (n : Nat) : Field := ⟨DMA_DESC n, 24, 24⟩
def DMA_DESC_PKT_START (n : Nat) : Field := ⟨DMA_DESC n, 25, 25⟩
def DMA_DESC_PKT_END (n : Nat) : Field := ⟨DMA_DESC n, 26, 26⟩
def DMA_DESC_TAG (n : Nat) : Field := ⟨DMA_DESC n, 30, 27⟩

/-- Table 10.8. -/
def DMA_DONE (n : Nat) : Nat := 0x58014 + 0x40 * n
def DMA_DONE_BYTES (n : Nat) : Field := ⟨DMA_DONE n, 23, 0⟩
def DMA_DONE_VALID (n : Nat) : Field := ⟨DMA_DONE n, 24, 24⟩
def DMA_DONE_PKT_END (n : Nat) : Field := ⟨DMA_DONE n, 25, 25⟩
def DMA_DONE_TRUNC (n : Nat) : Field := ⟨DMA_DONE n, 26, 26⟩
def DMA_DONE_ABORTED (n : Nat) : Field := ⟨DMA_DONE n, 27, 27⟩
def DMA_DONE_TAG (n : Nat) : Field := ⟨DMA_DONE n, 31, 28⟩

/-- Table 10.8. -/
def DMA_STATUS (n : Nat) : Nat := 0x58018 + 0x40 * n
def DMA_STATUS_QUEUED (n : Nat) : Field := ⟨DMA_STATUS n, 4, 0⟩
def DMA_STATUS_DONE_WAIT (n : Nat) : Field := ⟨DMA_STATUS n, 9, 5⟩
def DMA_STATUS_WAIT (n : Nat) : Field := ⟨DMA_STATUS n, 10, 10⟩
def DMA_STATUS_STALLED (n : Nat) : Field := ⟨DMA_STATUS n, 11, 11⟩
def DMA_STATUS_STOPPED (n : Nat) : Field := ⟨DMA_STATUS n, 12, 12⟩

/-- Table 10.8. -/
def DMA_EVENT (n : Nat) : Nat := 0x5801C + 0x40 * n
def DMA_EVENT_DONE (n : Nat) : Field := ⟨DMA_EVENT n, 0, 0⟩
def DMA_EVENT_REFUSED (n : Nat) : Field := ⟨DMA_EVENT n, 1, 1⟩
def DMA_EVENT_ERR (n : Nat) : Field := ⟨DMA_EVENT n, 2, 2⟩
def DMA_EVENT_TIMEOUT (n : Nat) : Field := ⟨DMA_EVENT n, 3, 3⟩

/-- Table 10.8. -/
def DMA_EVENT_EN (n : Nat) : Nat := 0x58020 + 0x40 * n
def DMA_EVENT_EN_EN (n : Nat) : Field := ⟨DMA_EVENT_EN n, 3, 0⟩

/-- Table 10.8. -/
def DMA_BYTES (n : Nat) : Nat := 0x58024 + 0x40 * n
def DMA_BYTES_COUNT (n : Nat) : Field := ⟨DMA_BYTES n, 31, 0⟩

/-- Table 10.9. -/
def SILO_EVT_SUM_LO : Nat := 0x5F000
def SILO_EVT_SUM_LO_SUM : Field := ⟨SILO_EVT_SUM_LO, 31, 0⟩

/-- Table 10.9. -/
def SILO_EVT_SUM_HI : Nat := 0x5F004
def SILO_EVT_SUM_HI_SUM : Field := ⟨SILO_EVT_SUM_HI, 31, 0⟩

/-- Table 11.10. -/
def PORT_U_CTRL (n : Nat) : Nat := portBase n
def PORT_U_CTRL_CMD (n : Nat) : Field := ⟨PORT_U_CTRL n, 1, 0⟩
def PORT_U_CTRL_TIMED (n : Nat) : Field := ⟨PORT_U_CTRL n, 2, 2⟩
def PORT_U_CTRL_COMMON (n : Nat) : Field := ⟨PORT_U_CTRL n, 3, 3⟩
def PORT_U_CTRL_CLR_CNT (n : Nat) : Field := ⟨PORT_U_CTRL n, 4, 4⟩
def PORT_U_CTRL_NOFADE (n : Nat) : Field := ⟨PORT_U_CTRL n, 5, 5⟩

/-- Table 11.10. -/
def PORT_U_STATUS (n : Nat) : Nat := portBase n + 0x4
def PORT_U_STATUS_STATE (n : Nat) : Field := ⟨PORT_U_STATUS n, 1, 0⟩
def PORT_U_STATUS_LATE (n : Nat) : Field := ⟨PORT_U_STATUS n, 2, 2⟩
def PORT_U_STATUS_WAIT_TRIG (n : Nat) : Field := ⟨PORT_U_STATUS n, 3, 3⟩
def PORT_U_STATUS_RESULT (n : Nat) : Field := ⟨PORT_U_STATUS n, 6, 4⟩
def PORT_U_STATUS_MON (n : Nat) : Field := ⟨PORT_U_STATUS n, 9, 7⟩
def PORT_U_STATUS_FILL_RX (n : Nat) : Field := ⟨PORT_U_STATUS n, 14, 10⟩
def PORT_U_STATUS_FILL_TX (n : Nat) : Field := ⟨PORT_U_STATUS n, 19, 15⟩
def PORT_U_STATUS_NONAUDIO (n : Nat) : Field := ⟨PORT_U_STATUS n, 20, 20⟩

/-- Table 11.10. -/
def PORT_U_EVENT (n : Nat) : Nat := portBase n + 0x8
def PORT_U_EVENT_EVENT (n : Nat) : Field := ⟨PORT_U_EVENT n, 11, 0⟩

/-- Table 11.10. -/
def PORT_U_EVENT_EN (n : Nat) : Nat := portBase n + 0xC
def PORT_U_EVENT_EN_EN (n : Nat) : Field := ⟨PORT_U_EVENT_EN n, 11, 0⟩

/-- Table 11.10. -/
def PORT_U_AT_LO (n : Nat) : Nat := portBase n + 0x10
def PORT_U_AT_LO_AT (n : Nat) : Field := ⟨PORT_U_AT_LO n, 31, 0⟩

/-- Table 11.10. -/
def PORT_U_AT_HI (n : Nat) : Nat := portBase n + 0x14
def PORT_U_AT_HI_AT (n : Nat) : Field := ⟨PORT_U_AT_HI n, 31, 0⟩

/-- Table 11.10. -/
def PORT_U_RATE_MEAS (n : Nat) : Nat := portBase n + 0x18
def PORT_U_RATE_MEAS_RATE (n : Nat) : Field := ⟨PORT_U_RATE_MEAS n, 21, 0⟩

/-- Table 11.10. -/
def PORT_U_CNT16 (n : Nat) : Nat := portBase n + 0x1C
def PORT_U_CNT16_GLITCH_CNT (n : Nat) : Field := ⟨PORT_U_CNT16 n, 15, 0⟩
def PORT_U_CNT16_FAULT_CNT (n : Nat) : Field := ⟨PORT_U_CNT16 n, 31, 16⟩

/-- Table 11.10. -/
def PORT_U_CNT (n : Nat) (k : Nat) : Nat := portBase n + 0x20 + 0x4 * k
def PORT_U_CNT_COUNT (n : Nat) (k : Nat) : Field := ⟨PORT_U_CNT n k, 31, 0⟩

/-- Table 11.10. -/
def PORT_U_WRAP (n : Nat) : Nat := portBase n + 0x3C
def PORT_U_WRAP_WRAP (n : Nat) : Field := ⟨PORT_U_WRAP n, 6, 0⟩

/-- Table 11.11. -/
def PORT_TDM_CFG (n : Nat) : Nat := 0x40040 + 0x200 * n
def PORT_TDM_CFG_FORMAT (n : Nat) : Field := ⟨PORT_TDM_CFG n, 1, 0⟩
def PORT_TDM_CFG_WIDTH (n : Nat) : Field := ⟨PORT_TDM_CFG n, 3, 2⟩
def PORT_TDM_CFG_SLOTS (n : Nat) : Field := ⟨PORT_TDM_CFG n, 8, 4⟩
def PORT_TDM_CFG_MASTER (n : Nat) : Field := ⟨PORT_TDM_CFG n, 9, 9⟩
def PORT_TDM_CFG_RATE (n : Nat) : Field := ⟨PORT_TDM_CFG n, 12, 10⟩
def PORT_TDM_CFG_CLKMODE (n : Nat) : Field := ⟨PORT_TDM_CFG n, 14, 13⟩
def PORT_TDM_CFG_CLK_SRC (n : Nat) : Field := ⟨PORT_TDM_CFG n, 15, 15⟩
def PORT_TDM_CFG_PACK (n : Nat) : Field := ⟨PORT_TDM_CFG n, 17, 16⟩
def PORT_TDM_CFG_RX_EN (n : Nat) : Field := ⟨PORT_TDM_CFG n, 18, 18⟩
def PORT_TDM_CFG_TX_EN (n : Nat) : Field := ⟨PORT_TDM_CFG n, 19, 19⟩
def PORT_TDM_CFG_BCLK_POL (n : Nat) : Field := ⟨PORT_TDM_CFG n, 20, 20⟩
def PORT_TDM_CFG_FS_POL (n : Nat) : Field := ⟨PORT_TDM_CFG n, 21, 21⟩
def PORT_TDM_CFG_FS_DLY (n : Nat) : Field := ⟨PORT_TDM_CFG n, 22, 22⟩
def PORT_TDM_CFG_DITHER (n : Nat) : Field := ⟨PORT_TDM_CFG n, 23, 23⟩

/-- Table 11.12. -/
def PORT_AESRX_CFG (n : Nat) : Nat := 0x44040 + 0x200 * n
def PORT_AESRX_CFG_RATE (n : Nat) : Field := ⟨PORT_AESRX_CFG n, 2, 0⟩
def PORT_AESRX_CFG_CLKMODE (n : Nat) : Field := ⟨PORT_AESRX_CFG n, 4, 3⟩
def PORT_AESRX_CFG_V_ZERO (n : Nat) : Field := ⟨PORT_AESRX_CFG n, 5, 5⟩

/-- Table 11.12. -/
def PORT_AESRX_RXSTAT (n : Nat) : Nat := 0x44044 + 0x200 * n
def PORT_AESRX_RXSTAT_RATE_DET (n : Nat) : Field := ⟨PORT_AESRX_RXSTAT n, 2, 0⟩
def PORT_AESRX_RXSTAT_LOCK (n : Nat) : Field := ⟨PORT_AESRX_RXSTAT n, 3, 3⟩
def PORT_AESRX_RXSTAT_V_A (n : Nat) : Field := ⟨PORT_AESRX_RXSTAT n, 4, 4⟩
def PORT_AESRX_RXSTAT_V_B (n : Nat) : Field := ⟨PORT_AESRX_RXSTAT n, 5, 5⟩
def PORT_AESRX_RXSTAT_PRO (n : Nat) : Field := ⟨PORT_AESRX_RXSTAT n, 6, 6⟩

/-- Table 11.12. -/
def PORT_AESRX_V_CNT (n : Nat) : Nat := 0x44048 + 0x200 * n
def PORT_AESRX_V_CNT_COUNT (n : Nat) : Field := ⟨PORT_AESRX_V_CNT n, 31, 0⟩

/-- Table 11.12. -/
def PORT_AESRX_CS_SEQ (n : Nat) : Nat := 0x4404C + 0x200 * n
def PORT_AESRX_CS_SEQ_SEQ (n : Nat) : Field := ⟨PORT_AESRX_CS_SEQ n, 15, 0⟩

/-- Table 11.12. -/
def PORT_AESRX_CS_A (n : Nat) (k : Nat) : Nat := 0x44050 + 0x200 * n + 0x4 * k
def PORT_AESRX_CS_A_BYTES (n : Nat) (k : Nat) : Field := ⟨PORT_AESRX_CS_A n k, 31, 0⟩

/-- Table 11.12. -/
def PORT_AESRX_CS_B (n : Nat) (k : Nat) : Nat := 0x44068 + 0x200 * n + 0x4 * k
def PORT_AESRX_CS_B_BYTES (n : Nat) (k : Nat) : Field := ⟨PORT_AESRX_CS_B n k, 31, 0⟩

/-- Table 11.12. -/
def PORT_AESRX_U_A (n : Nat) (k : Nat) : Nat := 0x44080 + 0x200 * n + 0x4 * k
def PORT_AESRX_U_A_BYTES (n : Nat) (k : Nat) : Field := ⟨PORT_AESRX_U_A n k, 31, 0⟩

/-- Table 11.12. -/
def PORT_AESRX_U_B (n : Nat) (k : Nat) : Nat := 0x44098 + 0x200 * n + 0x4 * k
def PORT_AESRX_U_B_BYTES (n : Nat) (k : Nat) : Field := ⟨PORT_AESRX_U_B n k, 31, 0⟩

/-- Table 11.13. -/
def PORT_AESTX_CFG (n : Nat) : Nat := 0x45040 + 0x200 * n
def PORT_AESTX_CFG_RATE (n : Nat) : Field := ⟨PORT_AESTX_CFG n, 2, 0⟩
def PORT_AESTX_CFG_CLKMODE (n : Nat) : Field := ⟨PORT_AESTX_CFG n, 4, 3⟩
def PORT_AESTX_CFG_CLK_SRC (n : Nat) : Field := ⟨PORT_AESTX_CFG n, 6, 5⟩
def PORT_AESTX_CFG_RX_SEL (n : Nat) : Field := ⟨PORT_AESTX_CFG n, 9, 7⟩
def PORT_AESTX_CFG_CS_MODE (n : Nat) : Field := ⟨PORT_AESTX_CFG n, 11, 10⟩
def PORT_AESTX_CFG_CS_TPL (n : Nat) : Field := ⟨PORT_AESTX_CFG n, 13, 12⟩
def PORT_AESTX_CFG_CS_CRC (n : Nat) : Field := ⟨PORT_AESTX_CFG n, 14, 14⟩
def PORT_AESTX_CFG_U_PASS (n : Nat) : Field := ⟨PORT_AESTX_CFG n, 15, 15⟩
def PORT_AESTX_CFG_V_MODE (n : Nat) : Field := ⟨PORT_AESTX_CFG n, 17, 16⟩

/-- Table 11.13. -/
def PORT_AESTX_TXSTAT (n : Nat) : Nat := 0x45044 + 0x200 * n
def PORT_AESTX_TXSTAT_CS_FALLBACK (n : Nat) : Field := ⟨PORT_AESTX_TXSTAT n, 0, 0⟩

/-- Table 11.14. -/
def PORT_MADI_CFG (n : Nat) : Nat := 0x48040 + 0x400 * n
def PORT_MADI_CFG_FRAME96 (n : Nat) : Field := ⟨PORT_MADI_CFG n, 0, 0⟩
def PORT_MADI_CFG_CH64 (n : Nat) : Field := ⟨PORT_MADI_CFG n, 1, 1⟩
def PORT_MADI_CFG_CLKMODE (n : Nat) : Field := ⟨PORT_MADI_CFG n, 3, 2⟩
def PORT_MADI_CFG_CLK_SRC (n : Nat) : Field := ⟨PORT_MADI_CFG n, 4, 4⟩
def PORT_MADI_CFG_RX_EN (n : Nat) : Field := ⟨PORT_MADI_CFG n, 5, 5⟩
def PORT_MADI_CFG_TX_EN (n : Nat) : Field := ⟨PORT_MADI_CFG n, 6, 6⟩
def PORT_MADI_CFG_CS_TPL (n : Nat) : Field := ⟨PORT_MADI_CFG n, 8, 7⟩
def PORT_MADI_CFG_V_ZERO (n : Nat) : Field := ⟨PORT_MADI_CFG n, 9, 9⟩

/-- Table 11.14. -/
def PORT_MADI_RXSTAT (n : Nat) : Nat := 0x48044 + 0x400 * n
def PORT_MADI_RXSTAT_LOCK (n : Nat) : Field := ⟨PORT_MADI_RXSTAT n, 0, 0⟩
def PORT_MADI_RXSTAT_FRAME96_DET (n : Nat) : Field := ⟨PORT_MADI_RXSTAT n, 1, 1⟩
def PORT_MADI_RXSTAT_CH_DET (n : Nat) : Field := ⟨PORT_MADI_RXSTAT n, 8, 2⟩

/-- Table 11.14. -/
def PORT_MADI_ACTIVE_LO (n : Nat) : Nat := 0x48048 + 0x400 * n
def PORT_MADI_ACTIVE_LO_ACTIVE (n : Nat) : Field := ⟨PORT_MADI_ACTIVE_LO n, 31, 0⟩

/-- Table 11.14. -/
def PORT_MADI_ACTIVE_HI (n : Nat) : Nat := 0x4804C + 0x400 * n
def PORT_MADI_ACTIVE_HI_ACTIVE (n : Nat) : Field := ⟨PORT_MADI_ACTIVE_HI n, 31, 0⟩

/-- Table 11.14. -/
def PORT_MADI_VBITS_LO (n : Nat) : Nat := 0x48050 + 0x400 * n
def PORT_MADI_VBITS_LO_V (n : Nat) : Field := ⟨PORT_MADI_VBITS_LO n, 31, 0⟩

/-- Table 11.14. -/
def PORT_MADI_VBITS_HI (n : Nat) : Nat := 0x48054 + 0x400 * n
def PORT_MADI_VBITS_HI_V (n : Nat) : Field := ⟨PORT_MADI_VBITS_HI n, 31, 0⟩

/-- Table 11.14. -/
def PORT_MADI_CS_CAP (n : Nat) : Nat := 0x48058 + 0x400 * n
def PORT_MADI_CS_CAP_CHANNEL (n : Nat) : Field := ⟨PORT_MADI_CS_CAP n, 5, 0⟩
def PORT_MADI_CS_CAP_ARM (n : Nat) : Field := ⟨PORT_MADI_CS_CAP n, 8, 8⟩
def PORT_MADI_CS_CAP_VALID (n : Nat) : Field := ⟨PORT_MADI_CS_CAP n, 9, 9⟩

/-- Table 11.14. -/
def PORT_MADI_CS (n : Nat) (k : Nat) : Nat := 0x48060 + 0x400 * n + 0x4 * k
def PORT_MADI_CS_BYTES (n : Nat) (k : Nat) : Field := ⟨PORT_MADI_CS n k, 31, 0⟩

/-- Table 11.14. -/
def PORT_MADI_V_CNT (n : Nat) : Nat := 0x48078 + 0x400 * n
def PORT_MADI_V_CNT_COUNT (n : Nat) : Field := ⟨PORT_MADI_V_CNT n, 31, 0⟩

/-- Table 11.15. -/
def PORT_START : Nat := 0x4C000
def PORT_START_GO : Field := ⟨PORT_START, 0, 0⟩
def PORT_START_TRIG : Field := ⟨PORT_START, 2, 1⟩
def PORT_START_CANCEL : Field := ⟨PORT_START, 3, 3⟩

/-- Table 11.15. -/
def PORT_START_STATUS : Nat := 0x4C004
def PORT_START_STATUS_WAITING : Field := ⟨PORT_START_STATUS, 0, 0⟩
def PORT_START_STATUS_RESULT : Field := ⟨PORT_START_STATUS, 2, 1⟩
def PORT_START_STATUS_LATE : Field := ⟨PORT_START_STATUS, 3, 3⟩
def PORT_START_STATUS_MEMBERS : Field := ⟨PORT_START_STATUS, 25, 16⟩

/-- Table 11.15. -/
def PORT_START_AT_LO : Nat := 0x4C008
def PORT_START_AT_LO_AT : Field := ⟨PORT_START_AT_LO, 31, 0⟩

/-- Table 11.15. -/
def PORT_START_AT_HI : Nat := 0x4C00C
def PORT_START_AT_HI_AT : Field := ⟨PORT_START_AT_HI, 31, 0⟩

/-- Table 11.15. -/
def PORT_FIRED_LO : Nat := 0x4C010
def PORT_FIRED_LO_S : Field := ⟨PORT_FIRED_LO, 31, 0⟩

/-- Table 11.15. -/
def PORT_FIRED_HI : Nat := 0x4C014
def PORT_FIRED_HI_S : Field := ⟨PORT_FIRED_HI, 31, 0⟩

/-- Table 11.15. -/
def PORT_EVENT : Nat := 0x4C018
def PORT_EVENT_EVENT : Field := ⟨PORT_EVENT, 2, 0⟩

/-- Table 11.15. -/
def PORT_EVENT_EN : Nat := 0x4C01C
def PORT_EVENT_EN_EN : Field := ⟨PORT_EVENT_EN, 2, 0⟩

/-- Table 11.15. -/
def PORT_DITHER_SEED : Nat := 0x4C020
def PORT_DITHER_SEED_SEED : Field := ⟨PORT_DITHER_SEED, 31, 0⟩

/-- Table 11.15. -/
def PORT_CS_TPL (n : Nat) (k : Nat) : Nat := 0x4C100 + 0x20 * n + 0x4 * k
def PORT_CS_TPL_BYTES (n : Nat) (k : Nat) : Field := ⟨PORT_CS_TPL n k, 31, 0⟩

end Sys2Proof.Machine.R
end

