-- ==== Sys2Proof/Machine/RegsSpelt.lean ====
section
/-!
DEFINITION. The registers and fields of SPELT and MEM, by the manual's names: byte addresses in BAR0 and bit ranges,
from the register tables of spec/ chapters 8 (R4, R5). An array register takes its index as an argument.
-/
namespace Sys2Proof.Machine.R

/-- Table 8.3. -/
def SPELT_XP (n : Nat) : Nat := 0x110000 + 0x4 * n
def SPELT_XP_GAIN (n : Nat) : Field := ⟨SPELT_XP n, 15, 0⟩
def SPELT_XP_RAMP (n : Nat) : Field := ⟨SPELT_XP n, 19, 16⟩

/-- Table 8.10. -/
def SPELT_CFG : Nat := 0x100000
def SPELT_CFG_XP_DEF_RAMP : Field := ⟨SPELT_CFG, 3, 0⟩

/-- Table 8.10. -/
def SPELT_RUN : Nat := 0x100004
def SPELT_RUN_RUNNING : Field := ⟨SPELT_RUN, 15, 0⟩

/-- Table 8.10. -/
def SPELT_XP_USED : Nat := 0x100008
def SPELT_XP_USED_USED : Field := ⟨SPELT_XP_USED, 14, 0⟩

/-- Table 8.10. -/
def SPELT_FUSE_VIEW : Nat := 0x10000C
def SPELT_FUSE_VIEW_DBG_OFF : Field := ⟨SPELT_FUSE_VIEW, 0, 0⟩
def SPELT_FUSE_VIEW_PROG_RD_OFF : Field := ⟨SPELT_FUSE_VIEW, 1, 1⟩

/-- Table 8.11. -/
def LANE_CTRL (n : Nat) : Nat := 0x101000 + 0x100 * n
def LANE_CTRL_CMD (n : Nat) : Field := ⟨LANE_CTRL n, 2, 0⟩
def LANE_CTRL_START_BANK (n : Nat) : Field := ⟨LANE_CTRL n, 3, 3⟩
def LANE_CTRL_SWAP_HOLD (n : Nat) : Field := ⟨LANE_CTRL n, 4, 4⟩
def LANE_CTRL_OVR_STOP (n : Nat) : Field := ⟨LANE_CTRL n, 5, 5⟩
def LANE_CTRL_OVR_LIMIT (n : Nat) : Field := ⟨LANE_CTRL n, 11, 8⟩

/-- Table 8.11. -/
def LANE_STATUS (n : Nat) : Nat := 0x101004 + 0x100 * n
def LANE_STATUS_STATE (n : Nat) : Field := ⟨LANE_STATUS n, 2, 0⟩
def LANE_STATUS_ACTIVE_BANK (n : Nat) : Field := ⟨LANE_STATUS n, 3, 3⟩
def LANE_STATUS_SWAP_PENDING (n : Nat) : Field := ⟨LANE_STATUS n, 4, 4⟩
def LANE_STATUS_SWAP_HELD (n : Nat) : Field := ⟨LANE_STATUS n, 5, 5⟩
def LANE_STATUS_RESULT (n : Nat) : Field := ⟨LANE_STATUS n, 9, 6⟩
def LANE_STATUS_OVERRUN (n : Nat) : Field := ⟨LANE_STATUS n, 10, 10⟩

/-- Table 8.11. -/
def LANE_EVENT (n : Nat) : Nat := 0x101008 + 0x100 * n
def LANE_EVENT_STATE (n : Nat) : Field := ⟨LANE_EVENT n, 0, 0⟩
def LANE_EVENT_SWAP_DONE (n : Nat) : Field := ⟨LANE_EVENT n, 1, 1⟩
def LANE_EVENT_REFUSED (n : Nat) : Field := ⟨LANE_EVENT n, 2, 2⟩
def LANE_EVENT_OVERRUN (n : Nat) : Field := ⟨LANE_EVENT n, 3, 3⟩
def LANE_EVENT_CYCLES (n : Nat) : Field := ⟨LANE_EVENT n, 4, 4⟩
def LANE_EVENT_DQ_STALL (n : Nat) : Field := ⟨LANE_EVENT n, 5, 5⟩
def LANE_EVENT_HALTED (n : Nat) : Field := ⟨LANE_EVENT n, 6, 6⟩
def LANE_EVENT_TRAP (n : Nat) : Field := ⟨LANE_EVENT n, 7, 7⟩
def LANE_EVENT_SWAP_MAP (n : Nat) : Field := ⟨LANE_EVENT n, 8, 8⟩
def LANE_EVENT_BANK_WR (n : Nat) : Field := ⟨LANE_EVENT n, 9, 9⟩
def LANE_EVENT_DQ_REFUSED (n : Nat) : Field := ⟨LANE_EVENT n, 10, 10⟩

/-- Table 8.11. -/
def LANE_EVENT_EN (n : Nat) : Nat := 0x10100C + 0x100 * n
def LANE_EVENT_EN_EN (n : Nat) : Field := ⟨LANE_EVENT_EN n, 10, 0⟩

/-- Table 8.11. -/
def LANE_XP (n : Nat) : Nat := 0x101010 + 0x100 * n
def LANE_XP_XP_BASE (n : Nat) : Field := ⟨LANE_XP n, 13, 0⟩
def LANE_XP_XP_COUNT (n : Nat) : Field := ⟨LANE_XP n, 30, 16⟩

/-- Table 8.12. -/
def LANE_CYC_LAST (n : Nat) : Nat := 0x101014 + 0x100 * n
def LANE_CYC_LAST_CYCLES (n : Nat) : Field := ⟨LANE_CYC_LAST n, 19, 0⟩

/-- Table 8.12. -/
def LANE_CYC_MAX (n : Nat) : Nat := 0x101018 + 0x100 * n
def LANE_CYC_MAX_CYCLES (n : Nat) : Field := ⟨LANE_CYC_MAX n, 19, 0⟩

/-- Table 8.12. -/
def LANE_OVR_CNT (n : Nat) : Nat := 0x10101C + 0x100 * n
def LANE_OVR_CNT_COUNT (n : Nat) : Field := ⟨LANE_OVR_CNT n, 31, 0⟩

/-- Table 8.12. -/
def LANE_STALL_LAST (n : Nat) : Nat := 0x101020 + 0x100 * n
def LANE_STALL_LAST_CYCLES (n : Nat) : Field := ⟨LANE_STALL_LAST n, 19, 0⟩

/-- Table 8.12. -/
def LANE_NAN_CNT (n : Nat) : Nat := 0x101024 + 0x100 * n
def LANE_NAN_CNT_COUNT (n : Nat) : Field := ⟨LANE_NAN_CNT n, 31, 0⟩

/-- Table 8.12. -/
def LANE_RUNS_LO (n : Nat) : Nat := 0x101028 + 0x100 * n
def LANE_RUNS_LO_RUNS (n : Nat) : Field := ⟨LANE_RUNS_LO n, 31, 0⟩

/-- Table 8.12. -/
def LANE_RUNS_HI (n : Nat) : Nat := 0x10102C + 0x100 * n
def LANE_RUNS_HI_RUNS (n : Nat) : Field := ⟨LANE_RUNS_HI n, 31, 0⟩

/-- Table 8.12. -/
def LANE_TRAP (n : Nat) : Nat := 0x101030 + 0x100 * n
def LANE_TRAP_PC (n : Nat) : Field := ⟨LANE_TRAP n, 11, 0⟩
def LANE_TRAP_CAUSE (n : Nat) : Field := ⟨LANE_TRAP n, 19, 16⟩

/-- Table 8.13. -/
def LANE_DBG_CTRL (n : Nat) : Nat := 0x101040 + 0x100 * n
def LANE_DBG_CTRL_HALT (n : Nat) : Field := ⟨LANE_DBG_CTRL n, 0, 0⟩
def LANE_DBG_CTRL_RESUME (n : Nat) : Field := ⟨LANE_DBG_CTRL n, 1, 1⟩
def LANE_DBG_CTRL_STEP (n : Nat) : Field := ⟨LANE_DBG_CTRL n, 2, 2⟩
def LANE_DBG_CTRL_BRK_FRAME (n : Nat) : Field := ⟨LANE_DBG_CTRL n, 3, 3⟩

/-- Table 8.13. -/
def LANE_DBG_STATUS (n : Nat) : Nat := 0x101044 + 0x100 * n
def LANE_DBG_STATUS_HALTED (n : Nat) : Field := ⟨LANE_DBG_STATUS n, 0, 0⟩
def LANE_DBG_STATUS_CAUSE (n : Nat) : Field := ⟨LANE_DBG_STATUS n, 3, 1⟩
def LANE_DBG_STATUS_BP (n : Nat) : Field := ⟨LANE_DBG_STATUS n, 5, 4⟩
def LANE_DBG_STATUS_BANK (n : Nat) : Field := ⟨LANE_DBG_STATUS n, 6, 6⟩
def LANE_DBG_STATUS_PC (n : Nat) : Field := ⟨LANE_DBG_STATUS n, 19, 8⟩

/-- Table 8.13. -/
def LANE_BP (n : Nat) (k : Nat) : Nat := 0x101050 + 0x100 * n + 0x4 * k
def LANE_BP_ADDR (n : Nat) (k : Nat) : Field := ⟨LANE_BP n k, 11, 0⟩
def LANE_BP_BANK (n : Nat) (k : Nat) : Field := ⟨LANE_BP n k, 12, 12⟩
def LANE_BP_EN (n : Nat) (k : Nat) : Field := ⟨LANE_BP n k, 15, 15⟩

/-- Table 8.15. -/
def DQ_CFG (n : Nat) : Nat := 0x103000 + 0x20 * n
def DQ_CFG_LINES (n : Nat) : Field := ⟨DQ_CFG n, 6, 0⟩
def DQ_CFG_EN (n : Nat) : Field := ⟨DQ_CFG n, 8, 8⟩

/-- Table 8.15. -/
def DQ_BASE (n : Nat) : Nat := 0x103004 + 0x20 * n
def DQ_BASE_BASE (n : Nat) : Field := ⟨DQ_BASE n, 22, 0⟩

/-- Table 8.15. -/
def DQ_LEN (n : Nat) : Nat := 0x103008 + 0x20 * n
def DQ_LEN_LEN (n : Nat) : Field := ⟨DQ_LEN n, 23, 0⟩

/-- Table 8.15. -/
def DQ_STATUS (n : Nat) : Nat := 0x10300C + 0x20 * n
def DQ_STATUS_STATE (n : Nat) : Field := ⟨DQ_STATUS n, 1, 0⟩
def DQ_STATUS_RESULT (n : Nat) : Field := ⟨DQ_STATUS n, 4, 2⟩
def DQ_STATUS_COST (n : Nat) : Field := ⟨DQ_STATUS n, 31, 16⟩

/-- Table 8.15. -/
def DQ_STALL_CNT (n : Nat) : Nat := 0x103010 + 0x20 * n
def DQ_STALL_CNT_COUNT (n : Nat) : Field := ⟨DQ_STALL_CNT n, 31, 0⟩

/-- Table 8.15. -/
def DQ_IDLE_CNT (n : Nat) : Nat := 0x103014 + 0x20 * n
def DQ_IDLE_CNT_COUNT (n : Nat) : Field := ⟨DQ_IDLE_CNT n, 31, 0⟩

/-- Table 8.15. -/
def DQTAP (n : Nat) (k : Nat) : Nat := 0x104000 + 0x100 * n + 0x4 * k
def DQTAP_DELAY (n : Nat) (k : Nat) : Field := ⟨DQTAP n k, 23, 0⟩

/-- Table 8.16. -/
def MEM_CTRL : Nat := 0x60000
def MEM_CTRL_EN : Field := ⟨MEM_CTRL, 0, 0⟩
def MEM_CTRL_RETRAIN : Field := ⟨MEM_CTRL, 1, 1⟩

/-- Table 8.16. -/
def MEM_CFG : Nat := 0x60004
def MEM_CFG_RATE : Field := ⟨MEM_CFG, 1, 0⟩
def MEM_CFG_SIZE : Field := ⟨MEM_CFG, 4, 2⟩
def MEM_CFG_RESERVE_PCT : Field := ⟨MEM_CFG, 15, 8⟩

/-- Table 8.16. -/
def MEM_STATUS : Nat := 0x60008
def MEM_STATUS_STATE : Field := ⟨MEM_STATUS, 2, 0⟩
def MEM_STATUS_RESULT : Field := ⟨MEM_STATUS, 5, 3⟩
def MEM_STATUS_Q_AVAIL : Field := ⟨MEM_STATUS, 31, 16⟩

/-- Table 8.16. -/
def MEM_EVENT : Nat := 0x6000C
def MEM_EVENT_READY : Field := ⟨MEM_EVENT, 0, 0⟩
def MEM_EVENT_TRAIN_FAIL : Field := ⟨MEM_EVENT, 1, 1⟩
def MEM_EVENT_DEADLINE : Field := ⟨MEM_EVENT, 2, 2⟩
def MEM_EVENT_REFUSED : Field := ⟨MEM_EVENT, 3, 3⟩

/-- Table 8.16. -/
def MEM_EVENT_EN : Nat := 0x60010
def MEM_EVENT_EN_EN : Field := ⟨MEM_EVENT_EN, 3, 0⟩

/-- Table 8.16. -/
def MEM_LATE_CNT : Nat := 0x60014
def MEM_LATE_CNT_COUNT : Field := ⟨MEM_LATE_CNT, 31, 0⟩

/-- Table 8.16. -/
def MEM_BURSTS_LO : Nat := 0x60018
def MEM_BURSTS_LO_COUNT : Field := ⟨MEM_BURSTS_LO, 31, 0⟩

/-- Table 8.16. -/
def MEM_BURSTS_HI : Nat := 0x6001C
def MEM_BURSTS_HI_COUNT : Field := ⟨MEM_BURSTS_HI, 31, 0⟩

end Sys2Proof.Machine.R
end

