-- ==== Sys2Proof/Machine/RegsSys.lean ====
section
/-!
DEFINITION. The registers and fields of PWR and SYS, by the manual's names: byte addresses in BAR0 and bit ranges,
from the register tables of spec/ chapters 1, 2 (R4, R5). An array register takes its index as an argument.
-/
namespace Sys2Proof.Machine.R

/-- Table 1.6. -/
def PWR_DOMAIN_REQ : Nat := 0x1000
def PWR_DOMAIN_REQ_REQ : Field := ⟨PWR_DOMAIN_REQ, 15, 1⟩

/-- Table 1.7. -/
def PWR_DOMAIN_STATE : Nat := 0x1004
def PWR_DOMAIN_STATE_ON : Field := ⟨PWR_DOMAIN_STATE, 15, 1⟩

/-- Table 1.8. -/
def PWR_DOMAIN_STATUS : Nat := 0x1008
def PWR_DOMAIN_STATUS_BUSY : Field := ⟨PWR_DOMAIN_STATUS, 15, 1⟩
def PWR_DOMAIN_STATUS_RESULT : Field := ⟨PWR_DOMAIN_STATUS, 18, 16⟩

/-- Table 1.9. -/
def PWR_DOMAIN_RST : Nat := 0x100C
def PWR_DOMAIN_RST_RST : Field := ⟨PWR_DOMAIN_RST, 15, 1⟩

/-- Table 1.10. -/
def PWR_TWIN_MASK : Nat := 0x1010
def PWR_TWIN_MASK_MASK : Field := ⟨PWR_TWIN_MASK, 15, 1⟩

/-- Table 1.11. -/
def PWR_STALK_CTRL : Nat := 0x1040
def PWR_STALK_CTRL_RETRAIN : Field := ⟨PWR_STALK_CTRL, 0, 0⟩
def PWR_STALK_CTRL_RESUME : Field := ⟨PWR_STALK_CTRL, 1, 1⟩
def PWR_STALK_CTRL_EQ_HOLD : Field := ⟨PWR_STALK_CTRL, 2, 2⟩

/-- Table 1.12. -/
def PWR_STALK_STATUS : Nat := 0x1044
def PWR_STALK_STATUS_STATE : Field := ⟨PWR_STALK_STATUS, 2, 0⟩
def PWR_STALK_STATUS_SAFE : Field := ⟨PWR_STALK_STATUS, 3, 3⟩
def PWR_STALK_STATUS_MCLK_OK : Field := ⟨PWR_STALK_STATUS, 4, 4⟩
def PWR_STALK_STATUS_EYE : Field := ⟨PWR_STALK_STATUS, 15, 8⟩

/-- Table 1.13. -/
def PWR_STALK_ERR : Nat := 0x1048
def PWR_STALK_ERR_CRC : Field := ⟨PWR_STALK_ERR, 0, 0⟩
def PWR_STALK_ERR_RETRY : Field := ⟨PWR_STALK_ERR, 1, 1⟩
def PWR_STALK_ERR_RETRAIN : Field := ⟨PWR_STALK_ERR, 2, 2⟩
def PWR_STALK_ERR_LOST : Field := ⟨PWR_STALK_ERR, 3, 3⟩
def PWR_STALK_ERR_LATE : Field := ⟨PWR_STALK_ERR, 4, 4⟩
def PWR_STALK_ERR_RD_FAIL : Field := ⟨PWR_STALK_ERR, 5, 5⟩
def PWR_STALK_ERR_WR_DROP : Field := ⟨PWR_STALK_ERR, 6, 6⟩

/-- Table 1.14. -/
def PWR_STALK_CRC_CNT : Nat := 0x104C
def PWR_STALK_CRC_CNT_CRC_CNT : Field := ⟨PWR_STALK_CRC_CNT, 31, 0⟩

/-- Table 1.14. -/
def PWR_STALK_EVT_CNT : Nat := 0x1050
def PWR_STALK_EVT_CNT_RETRY_CNT : Field := ⟨PWR_STALK_EVT_CNT, 15, 0⟩
def PWR_STALK_EVT_CNT_RETRAIN_CNT : Field := ⟨PWR_STALK_EVT_CNT, 31, 16⟩

/-- Table 1.14. -/
def PWR_STALK_LATE_CNT : Nat := 0x1054
def PWR_STALK_LATE_CNT_LATE_CNT : Field := ⟨PWR_STALK_LATE_CNT, 31, 0⟩

/-- Table 1.15. -/
def PWR_ALARM : Nat := 0x1060
def PWR_ALARM_TDIFF : Field := ⟨PWR_ALARM, 0, 0⟩
def PWR_ALARM_FREQ_CAP : Field := ⟨PWR_ALARM, 1, 1⟩
def PWR_ALARM_STRETCH : Field := ⟨PWR_ALARM, 2, 2⟩
def PWR_ALARM_DOMAIN_ABORT : Field := ⟨PWR_ALARM, 3, 3⟩

/-- Table 1.16. -/
def ISL_CFG (n : Nat) : Nat := 0x1100 + 0x10 * n
def ISL_CFG_FREQ (n : Nat) : Field := ⟨ISL_CFG n, 11, 0⟩
def ISL_CFG_MODE (n : Nat) : Field := ⟨ISL_CFG n, 13, 12⟩

/-- Table 1.16. -/
def ISL_STATUS (n : Nat) : Nat := 0x1104 + 0x10 * n
def ISL_STATUS_CUR_FREQ (n : Nat) : Field := ⟨ISL_STATUS n, 11, 0⟩
def ISL_STATUS_VOLT (n : Nat) : Field := ⟨ISL_STATUS n, 23, 16⟩
def ISL_STATUS_SETTLING (n : Nat) : Field := ⟨ISL_STATUS n, 24, 24⟩

/-- Table 1.17. -/
def ISL_DL (n : Nat) : Nat := 0x1108 + 0x10 * n
def ISL_DL_CYCLES (n : Nat) : Field := ⟨ISL_DL n, 19, 0⟩
def ISL_DL_GUARD (n : Nat) : Field := ⟨ISL_DL n, 25, 20⟩

/-- Table 1.17. -/
def ISL_EVT (n : Nat) : Nat := 0x110C + 0x10 * n
def ISL_EVT_STRETCH_CNT (n : Nat) : Field := ⟨ISL_EVT n, 15, 0⟩
def ISL_EVT_CAP_CNT (n : Nat) : Field := ⟨ISL_EVT n, 31, 16⟩

/-- Table 1.18. -/
def PWR_STALK_ERR_EN : Nat := 0x1058
def PWR_STALK_ERR_EN_EN : Field := ⟨PWR_STALK_ERR_EN, 6, 0⟩

/-- Table 1.18. -/
def PWR_ALARM_EN : Nat := 0x1064
def PWR_ALARM_EN_EN : Field := ⟨PWR_ALARM_EN, 3, 0⟩

/-- Table 2.13. -/
def SYS_ID : Nat := 0x0
def SYS_ID_PART : Field := ⟨SYS_ID, 15, 0⟩
def SYS_ID_D_STEP : Field := ⟨SYS_ID, 19, 16⟩
def SYS_ID_A_STEP : Field := ⟨SYS_ID, 23, 20⟩

/-- Table 2.13. -/
def SYS_STRAPS : Nat := 0x4
def SYS_STRAPS_HOST_SEL : Field := ⟨SYS_STRAPS, 0, 0⟩
def SYS_STRAPS_BOOT_SRC : Field := ⟨SYS_STRAPS, 2, 1⟩
def SYS_STRAPS_TWIN_PREF : Field := ⟨SYS_STRAPS, 3, 3⟩

/-- Table 2.13. -/
def SYS_CORE_RATE : Nat := 0x8
def SYS_CORE_RATE_RATE : Field := ⟨SYS_CORE_RATE, 0, 0⟩
def SYS_CORE_RATE_REFUSED : Field := ⟨SYS_CORE_RATE, 1, 1⟩

/-- Table 2.13. -/
def SYS_RESET_CTRL : Nat := 0xC
def SYS_RESET_CTRL_DEVICE : Field := ⟨SYS_RESET_CTRL, 0, 0⟩
def SYS_RESET_CTRL_WARM : Field := ⟨SYS_RESET_CTRL, 1, 1⟩

/-- Table 2.13. -/
def SYS_RESET_CAUSE : Nat := 0x10
def SYS_RESET_CAUSE_CAUSE : Field := ⟨SYS_RESET_CAUSE, 5, 0⟩

/-- Table 2.14. -/
def SYS_PCIE_STATUS : Nat := 0x14
def SYS_PCIE_STATUS_SPEED : Field := ⟨SYS_PCIE_STATUS, 1, 0⟩
def SYS_PCIE_STATUS_WIDTH : Field := ⟨SYS_PCIE_STATUS, 3, 2⟩
def SYS_PCIE_STATUS_LINK_UP : Field := ⟨SYS_PCIE_STATUS, 4, 4⟩
def SYS_PCIE_STATUS_BME : Field := ⟨SYS_PCIE_STATUS, 5, 5⟩
def SYS_PCIE_STATUS_DSTATE : Field := ⟨SYS_PCIE_STATUS, 7, 6⟩

/-- Table 2.15. -/
def SYS_EVENT : Nat := 0x20
def SYS_EVENT_ACCESS_ERR : Field := ⟨SYS_EVENT, 0, 0⟩
def SYS_EVENT_GUARD_ERR : Field := ⟨SYS_EVENT, 1, 1⟩
def SYS_EVENT_ABORT_DONE : Field := ⟨SYS_EVENT, 2, 2⟩
def SYS_EVENT_DMA_ERR : Field := ⟨SYS_EVENT, 3, 3⟩

/-- Table 2.15. -/
def SYS_EVENT_EN : Nat := 0x24
def SYS_EVENT_EN_EN : Field := ⟨SYS_EVENT_EN, 3, 0⟩

/-- Table 2.15. -/
def SYS_ERR_ADDR : Nat := 0x28
def SYS_ERR_ADDR_ADDR : Field := ⟨SYS_ERR_ADDR, 23, 0⟩
def SYS_ERR_ADDR_PORT : Field := ⟨SYS_ERR_ADDR, 25, 24⟩
def SYS_ERR_ADDR_WRITE : Field := ⟨SYS_ERR_ADDR, 26, 26⟩
def SYS_ERR_ADDR_CAUSE : Field := ⟨SYS_ERR_ADDR, 29, 27⟩

/-- Table 2.15. -/
def SYS_GUARD_ADDR : Nat := 0x2C
def SYS_GUARD_ADDR_ADDR : Field := ⟨SYS_GUARD_ADDR, 23, 0⟩
def SYS_GUARD_ADDR_PORT : Field := ⟨SYS_GUARD_ADDR, 25, 24⟩
def SYS_GUARD_ADDR_CAUSE : Field := ⟨SYS_GUARD_ADDR, 28, 26⟩

/-- Table 2.15. -/
def SYS_ERR_CNT : Nat := 0x30
def SYS_ERR_CNT_ACCESS_CNT : Field := ⟨SYS_ERR_CNT, 15, 0⟩
def SYS_ERR_CNT_GUARD_CNT : Field := ⟨SYS_ERR_CNT, 31, 16⟩

/-- Table 2.16. -/
def SYS_ABORT : Nat := 0x40
def SYS_ABORT_CLASS : Field := ⟨SYS_ABORT, 3, 0⟩
def SYS_ABORT_INDEX : Field := ⟨SYS_ABORT, 11, 4⟩
def SYS_ABORT_ALL : Field := ⟨SYS_ABORT, 12, 12⟩

/-- Table 2.16. -/
def SYS_ABORT_STATUS : Nat := 0x44
def SYS_ABORT_STATUS_BUSY : Field := ⟨SYS_ABORT_STATUS, 0, 0⟩
def SYS_ABORT_STATUS_RESULT : Field := ⟨SYS_ABORT_STATUS, 3, 1⟩
def SYS_ABORT_STATUS_CLASS : Field := ⟨SYS_ABORT_STATUS, 7, 4⟩
def SYS_ABORT_STATUS_INDEX : Field := ⟨SYS_ABORT_STATUS, 15, 8⟩
def SYS_ABORT_STATUS_ALL : Field := ⟨SYS_ABORT_STATUS, 16, 16⟩
def SYS_ABORT_STATUS_TIME : Field := ⟨SYS_ABORT_STATUS, 31, 24⟩

/-- Table 2.17. -/
def SYS_IRQ_RAW_LO : Nat := 0x80
def SYS_IRQ_RAW_LO_RAW : Field := ⟨SYS_IRQ_RAW_LO, 31, 0⟩

/-- Table 2.17. -/
def SYS_IRQ_RAW_HI : Nat := 0x84
def SYS_IRQ_RAW_HI_RAW : Field := ⟨SYS_IRQ_RAW_HI, 15, 0⟩

/-- Table 2.17. -/
def SYS_IRQ_EN_LO : Nat := 0x88
def SYS_IRQ_EN_LO_EN : Field := ⟨SYS_IRQ_EN_LO, 31, 0⟩

/-- Table 2.17. -/
def SYS_IRQ_EN_HI : Nat := 0x8C
def SYS_IRQ_EN_HI_EN : Field := ⟨SYS_IRQ_EN_HI, 15, 0⟩

/-- Table 2.17. -/
def SYS_IRQ_ACK : Nat := 0x90
def SYS_IRQ_ACK_VECTOR : Field := ⟨SYS_IRQ_ACK, 5, 0⟩

/-- Table 2.17. -/
def SYS_IRQ_CFG : Nat := 0x94
def SYS_IRQ_CFG_PIN_EN : Field := ⟨SYS_IRQ_CFG, 0, 0⟩

/-- Table 2.17. -/
def SYS_DMA_ERR : Nat := 0x98
def SYS_DMA_ERR_CH : Field := ⟨SYS_DMA_ERR, 7, 0⟩

/-- Table 2.17. -/
def SYS_SCRATCH : Nat := 0xFC
def SYS_SCRATCH_DATA : Field := ⟨SYS_SCRATCH, 31, 0⟩

/-- Table 2.18. -/
def SYS_IRQ_MAP (n : Nat) : Nat := 0x100 + 0x4 * n
def SYS_IRQ_MAP_VECTOR (n : Nat) : Field := ⟨SYS_IRQ_MAP n, 5, 0⟩

/-- The MSI-X table and its pending-bit array (R43). -/
def MSIX_ADDR_LO (n : Nat) : Nat := 0x80000 + 0x10 * n
def MSIX_ADDR_HI (n : Nat) : Nat := 0x80004 + 0x10 * n
def MSIX_DATA (n : Nat) : Nat := 0x80008 + 0x10 * n
def MSIX_VCTRL_MASK (n : Nat) : Field := ⟨0x8000C + 0x10 * n, 0, 0⟩
def MSIX_PBA (n : Nat) : Nat := 0x80800 + 4 * n

end Sys2Proof.Machine.R
end

