-- ==== Sys2Proof/Machine/RegMap.lean ====
section
/-!
DEFINITION. The register map as data: one row per register of the manual's tables, with its place, its repetition,
which of its bits carry each type code (Table 0.4) and its reset value (the tables' Reset column; a dash reads as zero, log entry 2).
Generated from the register tables of spec/ chapters 1 to 16.
-/
namespace Sys2Proof.Machine

/-- One register or register array: `c1` copies `s1` bytes apart, each of `c2` words `s2` bytes apart,
with a mask of the bits of each type code (Table 0.4) and the reset value. -/
structure RegDesc where
  name : String
  base : Nat
  c1 : Nat
  s1 : Nat
  c2 : Nat
  s2 : Nat
  rw : Nat
  ro : Nat
  wo : Nat
  w1c : Nat
  rc : Nat
  rwg : Nat
  rol : Nat
  roh : Nat
  reset : Nat
  deriving DecidableEq, Repr

def sysRows0 : List RegDesc :=
  [ ⟨"SYS_ID", 0, 1, 0x4, 1, 0x4, 0, 0xFFFFFF, 0, 0, 0, 0, 0, 0, 0xF01024⟩
  , ⟨"SYS_STRAPS", 0x4, 1, 0x4, 1, 0x4, 0, 0xF, 0, 0, 0, 0, 0, 0, 0⟩
  , ⟨"SYS_CORE_RATE", 0x8, 1, 0x4, 1, 0x4, 0, 0x2, 0, 0, 0, 0x1, 0, 0, 0⟩
  , ⟨"SYS_RESET_CTRL", 0xC, 1, 0x4, 1, 0x4, 0, 0, 0, 0, 0, 0x3, 0, 0, 0⟩
  , ⟨"SYS_RESET_CAUSE", 0x10, 1, 0x4, 1, 0x4, 0, 0, 0, 0x3F, 0, 0, 0, 0, 0⟩
  , ⟨"SYS_PCIE_STATUS", 0x14, 1, 0x4, 1, 0x4, 0, 0xFF, 0, 0, 0, 0, 0, 0, 0⟩
  , ⟨"SYS_EVENT", 0x20, 1, 0x4, 1, 0x4, 0, 0, 0, 0xF, 0, 0, 0, 0, 0⟩
  , ⟨"SYS_EVENT_EN", 0x24, 1, 0x4, 1, 0x4, 0xF, 0, 0, 0, 0, 0, 0, 0, 0⟩
  , ⟨"SYS_ERR_ADDR", 0x28, 1, 0x4, 1, 0x4, 0, 0x3FFFFFFF, 0, 0, 0, 0, 0, 0, 0⟩
  , ⟨"SYS_GUARD_ADDR", 0x2C, 1, 0x4, 1, 0x4, 0, 0x1FFFFFFF, 0, 0, 0, 0, 0, 0, 0⟩
  , ⟨"SYS_ERR_CNT", 0x30, 1, 0x4, 1, 0x4, 0, 0, 0, 0, 0xFFFFFFFF, 0, 0, 0, 0⟩
  , ⟨"SYS_ABORT", 0x40, 1, 0x4, 1, 0x4, 0, 0, 0x1FFF, 0, 0, 0, 0, 0, 0⟩
  , ⟨"SYS_ABORT_STATUS", 0x44, 1, 0x4, 1, 0x4, 0, 0xFF01FFFF, 0, 0, 0, 0, 0, 0, 0⟩
  , ⟨"SYS_IRQ_RAW_LO", 0x80, 1, 0x4, 1, 0x4, 0, 0xFFFFFFFF, 0, 0, 0, 0, 0, 0, 0⟩
  , ⟨"SYS_IRQ_RAW_HI", 0x84, 1, 0x4, 1, 0x4, 0, 0xFFFF, 0, 0, 0, 0, 0, 0, 0⟩
  , ⟨"SYS_IRQ_EN_LO", 0x88, 1, 0x4, 1, 0x4, 0xFFFFFFFF, 0, 0, 0, 0, 0, 0, 0, 0⟩
  , ⟨"SYS_IRQ_EN_HI", 0x8C, 1, 0x4, 1, 0x4, 0xFFFF, 0, 0, 0, 0, 0, 0, 0, 0⟩
  , ⟨"SYS_IRQ_ACK", 0x90, 1, 0x4, 1, 0x4, 0, 0, 0x3F, 0, 0, 0, 0, 0, 0⟩
  , ⟨"SYS_IRQ_CFG", 0x94, 1, 0x4, 1, 0x4, 0x1, 0, 0, 0, 0, 0, 0, 0, 0x1⟩
  , ⟨"SYS_DMA_ERR", 0x98, 1, 0x4, 1, 0x4, 0, 0, 0, 0xFF, 0, 0, 0, 0, 0⟩
  , ⟨"SYS_SCRATCH", 0xFC, 1, 0x4, 1, 0x4, 0xFFFFFFFF, 0, 0, 0, 0, 0, 0, 0, 0⟩
  , ⟨"SYS_IRQ_MAP[0]", 0x100, 1, 0x4, 1, 0x4, 0x3F, 0, 0, 0, 0, 0, 0, 0, 0⟩
  , ⟨"SYS_IRQ_MAP[1]", 0x104, 1, 0x4, 1, 0x4, 0x3F, 0, 0, 0, 0, 0, 0, 0, 0x1⟩
  , ⟨"SYS_IRQ_MAP[2]", 0x108, 1, 0x4, 1, 0x4, 0x3F, 0, 0, 0, 0, 0, 0, 0, 0x2⟩ ]

def sysRows1 : List RegDesc :=
  [ ⟨"SYS_IRQ_MAP[3]", 0x10C, 1, 0x4, 1, 0x4, 0x3F, 0, 0, 0, 0, 0, 0, 0, 0x3⟩
  , ⟨"SYS_IRQ_MAP[4]", 0x110, 1, 0x4, 1, 0x4, 0x3F, 0, 0, 0, 0, 0, 0, 0, 0x4⟩
  , ⟨"SYS_IRQ_MAP[5]", 0x114, 1, 0x4, 1, 0x4, 0x3F, 0, 0, 0, 0, 0, 0, 0, 0x5⟩
  , ⟨"SYS_IRQ_MAP[6]", 0x118, 1, 0x4, 1, 0x4, 0x3F, 0, 0, 0, 0, 0, 0, 0, 0x6⟩
  , ⟨"SYS_IRQ_MAP[7]", 0x11C, 1, 0x4, 1, 0x4, 0x3F, 0, 0, 0, 0, 0, 0, 0, 0x7⟩
  , ⟨"SYS_IRQ_MAP[8]", 0x120, 1, 0x4, 1, 0x4, 0x3F, 0, 0, 0, 0, 0, 0, 0, 0x8⟩
  , ⟨"SYS_IRQ_MAP[9]", 0x124, 1, 0x4, 1, 0x4, 0x3F, 0, 0, 0, 0, 0, 0, 0, 0x9⟩
  , ⟨"SYS_IRQ_MAP[10]", 0x128, 1, 0x4, 1, 0x4, 0x3F, 0, 0, 0, 0, 0, 0, 0, 0xA⟩
  , ⟨"SYS_IRQ_MAP[11]", 0x12C, 1, 0x4, 1, 0x4, 0x3F, 0, 0, 0, 0, 0, 0, 0, 0xB⟩
  , ⟨"SYS_IRQ_MAP[12]", 0x130, 1, 0x4, 1, 0x4, 0x3F, 0, 0, 0, 0, 0, 0, 0, 0xC⟩
  , ⟨"SYS_IRQ_MAP[13]", 0x134, 1, 0x4, 1, 0x4, 0x3F, 0, 0, 0, 0, 0, 0, 0, 0xD⟩
  , ⟨"SYS_IRQ_MAP[14]", 0x138, 1, 0x4, 1, 0x4, 0x3F, 0, 0, 0, 0, 0, 0, 0, 0xE⟩
  , ⟨"SYS_IRQ_MAP[15]", 0x13C, 1, 0x4, 1, 0x4, 0x3F, 0, 0, 0, 0, 0, 0, 0, 0xF⟩
  , ⟨"SYS_IRQ_MAP[16]", 0x140, 1, 0x4, 1, 0x4, 0x3F, 0, 0, 0, 0, 0, 0, 0, 0x10⟩
  , ⟨"SYS_IRQ_MAP[17]", 0x144, 1, 0x4, 1, 0x4, 0x3F, 0, 0, 0, 0, 0, 0, 0, 0x11⟩
  , ⟨"SYS_IRQ_MAP[18]", 0x148, 1, 0x4, 1, 0x4, 0x3F, 0, 0, 0, 0, 0, 0, 0, 0x12⟩
  , ⟨"SYS_IRQ_MAP[19]", 0x14C, 1, 0x4, 1, 0x4, 0x3F, 0, 0, 0, 0, 0, 0, 0, 0x13⟩
  , ⟨"SYS_IRQ_MAP[20]", 0x150, 1, 0x4, 1, 0x4, 0x3F, 0, 0, 0, 0, 0, 0, 0, 0x14⟩
  , ⟨"SYS_IRQ_MAP[21]", 0x154, 1, 0x4, 1, 0x4, 0x3F, 0, 0, 0, 0, 0, 0, 0, 0x15⟩
  , ⟨"SYS_IRQ_MAP[22]", 0x158, 1, 0x4, 1, 0x4, 0x3F, 0, 0, 0, 0, 0, 0, 0, 0x16⟩
  , ⟨"SYS_IRQ_MAP[23]", 0x15C, 1, 0x4, 1, 0x4, 0x3F, 0, 0, 0, 0, 0, 0, 0, 0x17⟩
  , ⟨"SYS_IRQ_MAP[24]", 0x160, 1, 0x4, 1, 0x4, 0x3F, 0, 0, 0, 0, 0, 0, 0, 0x18⟩
  , ⟨"SYS_IRQ_MAP[25]", 0x164, 1, 0x4, 1, 0x4, 0x3F, 0, 0, 0, 0, 0, 0, 0, 0x19⟩
  , ⟨"SYS_IRQ_MAP[26]", 0x168, 1, 0x4, 1, 0x4, 0x3F, 0, 0, 0, 0, 0, 0, 0, 0x1A⟩ ]

def sysRows2 : List RegDesc :=
  [ ⟨"SYS_IRQ_MAP[27]", 0x16C, 1, 0x4, 1, 0x4, 0x3F, 0, 0, 0, 0, 0, 0, 0, 0x1B⟩
  , ⟨"SYS_IRQ_MAP[28]", 0x170, 1, 0x4, 1, 0x4, 0x3F, 0, 0, 0, 0, 0, 0, 0, 0x1C⟩
  , ⟨"SYS_IRQ_MAP[29]", 0x174, 1, 0x4, 1, 0x4, 0x3F, 0, 0, 0, 0, 0, 0, 0, 0x1D⟩
  , ⟨"SYS_IRQ_MAP[30]", 0x178, 1, 0x4, 1, 0x4, 0x3F, 0, 0, 0, 0, 0, 0, 0, 0x1E⟩
  , ⟨"SYS_IRQ_MAP[31]", 0x17C, 1, 0x4, 1, 0x4, 0x3F, 0, 0, 0, 0, 0, 0, 0, 0x1F⟩
  , ⟨"SYS_IRQ_MAP[32]", 0x180, 1, 0x4, 1, 0x4, 0x3F, 0, 0, 0, 0, 0, 0, 0, 0x20⟩
  , ⟨"SYS_IRQ_MAP[33]", 0x184, 1, 0x4, 1, 0x4, 0x3F, 0, 0, 0, 0, 0, 0, 0, 0x21⟩
  , ⟨"SYS_IRQ_MAP[34]", 0x188, 1, 0x4, 1, 0x4, 0x3F, 0, 0, 0, 0, 0, 0, 0, 0x22⟩
  , ⟨"SYS_IRQ_MAP[35]", 0x18C, 1, 0x4, 1, 0x4, 0x3F, 0, 0, 0, 0, 0, 0, 0, 0x23⟩
  , ⟨"SYS_IRQ_MAP[36]", 0x190, 1, 0x4, 1, 0x4, 0x3F, 0, 0, 0, 0, 0, 0, 0, 0x24⟩
  , ⟨"SYS_IRQ_MAP[37]", 0x194, 1, 0x4, 1, 0x4, 0x3F, 0, 0, 0, 0, 0, 0, 0, 0x25⟩
  , ⟨"SYS_IRQ_MAP[38]", 0x198, 1, 0x4, 1, 0x4, 0x3F, 0, 0, 0, 0, 0, 0, 0, 0x26⟩
  , ⟨"SYS_IRQ_MAP[39]", 0x19C, 1, 0x4, 1, 0x4, 0x3F, 0, 0, 0, 0, 0, 0, 0, 0x27⟩
  , ⟨"SYS_IRQ_MAP[40]", 0x1A0, 1, 0x4, 1, 0x4, 0x3F, 0, 0, 0, 0, 0, 0, 0, 0x28⟩
  , ⟨"SYS_IRQ_MAP[41]", 0x1A4, 1, 0x4, 1, 0x4, 0x3F, 0, 0, 0, 0, 0, 0, 0, 0x29⟩
  , ⟨"SYS_IRQ_MAP[42]", 0x1A8, 1, 0x4, 1, 0x4, 0x3F, 0, 0, 0, 0, 0, 0, 0, 0x2A⟩
  , ⟨"SYS_IRQ_MAP[43]", 0x1AC, 1, 0x4, 1, 0x4, 0x3F, 0, 0, 0, 0, 0, 0, 0, 0x2B⟩
  , ⟨"SYS_IRQ_MAP[44]", 0x1B0, 1, 0x4, 1, 0x4, 0x3F, 0, 0, 0, 0, 0, 0, 0, 0x2C⟩
  , ⟨"SYS_IRQ_MAP[45]", 0x1B4, 1, 0x4, 1, 0x4, 0x3F, 0, 0, 0, 0, 0, 0, 0, 0x2D⟩
  , ⟨"SYS_IRQ_MAP[46]", 0x1B8, 1, 0x4, 1, 0x4, 0x3F, 0, 0, 0, 0, 0, 0, 0, 0x2E⟩
  , ⟨"SYS_IRQ_MAP[47]", 0x1BC, 1, 0x4, 1, 0x4, 0x3F, 0, 0, 0, 0, 0, 0, 0, 0x2F⟩ ]

def sysRows : List RegDesc := sysRows0 ++ sysRows1 ++ sysRows2

/-- PWR: the reset values of STATUS.CUR_FREQ and VOLT are the model's (log entry 265). -/
def pwrRows0 : List RegDesc :=
  [ ⟨"PWR_DOMAIN_REQ", 0x1000, 1, 0x4, 1, 0x4, 0, 0, 0, 0, 0, 0xFFFE, 0, 0, 0x102⟩
  , ⟨"PWR_DOMAIN_STATE", 0x1004, 1, 0x4, 1, 0x4, 0, 0xFFFE, 0, 0, 0, 0, 0, 0, 0x102⟩
  , ⟨"PWR_DOMAIN_STATUS", 0x1008, 1, 0x4, 1, 0x4, 0, 0x7FFFE, 0, 0, 0, 0, 0, 0, 0⟩
  , ⟨"PWR_DOMAIN_RST", 0x100C, 1, 0x4, 1, 0x4, 0, 0, 0, 0, 0, 0xFFFE, 0, 0, 0⟩
  , ⟨"PWR_TWIN_MASK", 0x1010, 1, 0x4, 1, 0x4, 0, 0xFFFE, 0, 0, 0, 0, 0, 0, 0⟩
  , ⟨"PWR_STALK_CTRL", 0x1040, 1, 0x4, 1, 0x4, 0, 0, 0, 0, 0, 0x7, 0, 0, 0⟩
  , ⟨"PWR_STALK_STATUS", 0x1044, 1, 0x4, 1, 0x4, 0, 0xFF1F, 0, 0, 0, 0, 0, 0, 0x8⟩
  , ⟨"PWR_STALK_ERR", 0x1048, 1, 0x4, 1, 0x4, 0, 0, 0, 0x7F, 0, 0, 0, 0, 0⟩
  , ⟨"PWR_STALK_CRC_CNT", 0x104C, 1, 0x4, 1, 0x4, 0, 0xFFFFFFFF, 0, 0, 0, 0, 0, 0, 0⟩
  , ⟨"PWR_STALK_EVT_CNT", 0x1050, 1, 0x4, 1, 0x4, 0, 0xFFFFFFFF, 0, 0, 0, 0, 0, 0, 0⟩
  , ⟨"PWR_STALK_LATE_CNT", 0x1054, 1, 0x4, 1, 0x4, 0, 0xFFFFFFFF, 0, 0, 0, 0, 0, 0, 0⟩
  , ⟨"PWR_STALK_ERR_EN", 0x1058, 1, 0x4, 1, 0x4, 0x7F, 0, 0, 0, 0, 0, 0, 0, 0⟩
  , ⟨"PWR_ALARM", 0x1060, 1, 0x4, 1, 0x4, 0, 0, 0, 0xF, 0, 0, 0, 0, 0⟩
  , ⟨"PWR_ALARM_EN", 0x1064, 1, 0x4, 1, 0x4, 0xF, 0, 0, 0, 0, 0, 0, 0, 0⟩
  , ⟨"ISL_CFG[0]", 0x1100, 1, 0x4, 1, 0x4, 0, 0xFFF, 0, 0, 0, 0, 0, 0, 0x3E8⟩
  , ⟨"ISL_STATUS[0]", 0x1104, 1, 0x4, 1, 0x4, 0, 0x1FF0FFF, 0, 0, 0, 0, 0, 0, 0xAA03E8⟩
  , ⟨"ISL_EVT", 0x110C, 28, 0x10, 1, 0x4, 0, 0xFFFFFFFF, 0, 0, 0, 0, 0, 0, 0⟩
  , ⟨"ISL_CFG[1]", 0x1110, 1, 0x4, 1, 0x4, 0, 0xFFF, 0, 0, 0, 0, 0, 0, 0x4E2⟩
  , ⟨"ISL_STATUS[1]", 0x1114, 1, 0x4, 1, 0x4, 0, 0x1FF0FFF, 0, 0, 0, 0, 0, 0, 0xAA0000⟩
  , ⟨"ISL_CFG[2]", 0x1120, 1, 0x4, 1, 0x4, 0, 0xFFF, 0, 0, 0, 0, 0, 0, 0x4E2⟩
  , ⟨"ISL_STATUS[2]", 0x1124, 1, 0x4, 1, 0x4, 0, 0x1FF0FFF, 0, 0, 0, 0, 0, 0, 0xAA0000⟩
  , ⟨"ISL_CFG[3]", 0x1130, 1, 0x4, 1, 0x4, 0, 0xFFF, 0, 0, 0, 0, 0, 0, 0x7D0⟩
  , ⟨"ISL_STATUS[3]", 0x1134, 1, 0x4, 1, 0x4, 0, 0x1FF0FFF, 0, 0, 0, 0, 0, 0, 0xAA0000⟩
  , ⟨"ISL_CFG[4]", 0x1140, 1, 0x4, 1, 0x4, 0, 0xFFF, 0, 0, 0, 0, 0, 0, 0x640⟩ ]

def pwrRows1 : List RegDesc :=
  [ ⟨"ISL_STATUS[4]", 0x1144, 1, 0x4, 1, 0x4, 0, 0x1FF0FFF, 0, 0, 0, 0, 0, 0, 0xAA0000⟩
  , ⟨"ISL_CFG[5]", 0x1150, 1, 0x4, 1, 0x4, 0, 0xFFF, 0, 0, 0, 0, 0, 0, 0x3E8⟩
  , ⟨"ISL_STATUS[5]", 0x1154, 1, 0x4, 1, 0x4, 0, 0x1FF0FFF, 0, 0, 0, 0, 0, 0, 0xAA03E8⟩
  , ⟨"ISL_CFG[6]", 0x1160, 1, 0x4, 1, 0x4, 0, 0xFFF, 0, 0, 0, 0, 0, 0, 0x320⟩
  , ⟨"ISL_STATUS[6]", 0x1164, 1, 0x4, 1, 0x4, 0, 0x1FF0FFF, 0, 0, 0, 0, 0, 0, 0xAA0000⟩
  , ⟨"ISL_CFG[7]", 0x1170, 1, 0x4, 1, 0x4, 0, 0xFFF, 0, 0, 0, 0, 0, 0, 0x3E8⟩
  , ⟨"ISL_STATUS[7]", 0x1174, 1, 0x4, 1, 0x4, 0, 0x1FF0FFF, 0, 0, 0, 0, 0, 0, 0xAA0000⟩
  , ⟨"ISL_CFG[8]", 0x1180, 1, 0x4, 1, 0x4, 0x3FFF, 0, 0, 0, 0, 0, 0, 0, 0x1960⟩
  , ⟨"ISL_STATUS[8]", 0x1184, 1, 0x4, 1, 0x4, 0, 0x1FF0FFF, 0, 0, 0, 0, 0, 0, 0xAA0000⟩
  , ⟨"ISL_DL", 0x1188, 16, 0x10, 1, 0x4, 0x3FFFFFF, 0, 0, 0, 0, 0, 0, 0, 0x400000⟩
  , ⟨"ISL_CFG[9]", 0x1190, 1, 0x4, 1, 0x4, 0x3FFF, 0, 0, 0, 0, 0, 0, 0, 0x1960⟩
  , ⟨"ISL_STATUS[9]", 0x1194, 1, 0x4, 1, 0x4, 0, 0x1FF0FFF, 0, 0, 0, 0, 0, 0, 0xAA0000⟩
  , ⟨"ISL_CFG[10]", 0x11A0, 1, 0x4, 1, 0x4, 0x3FFF, 0, 0, 0, 0, 0, 0, 0, 0x1960⟩
  , ⟨"ISL_STATUS[10]", 0x11A4, 1, 0x4, 1, 0x4, 0, 0x1FF0FFF, 0, 0, 0, 0, 0, 0, 0xAA0000⟩
  , ⟨"ISL_CFG[11]", 0x11B0, 1, 0x4, 1, 0x4, 0x3FFF, 0, 0, 0, 0, 0, 0, 0, 0x1960⟩
  , ⟨"ISL_STATUS[11]", 0x11B4, 1, 0x4, 1, 0x4, 0, 0x1FF0FFF, 0, 0, 0, 0, 0, 0, 0xAA0000⟩
  , ⟨"ISL_CFG[12]", 0x11C0, 1, 0x4, 1, 0x4, 0x3FFF, 0, 0, 0, 0, 0, 0, 0, 0x1960⟩
  , ⟨"ISL_STATUS[12]", 0x11C4, 1, 0x4, 1, 0x4, 0, 0x1FF0FFF, 0, 0, 0, 0, 0, 0, 0xAA0000⟩
  , ⟨"ISL_CFG[13]", 0x11D0, 1, 0x4, 1, 0x4, 0x3FFF, 0, 0, 0, 0, 0, 0, 0, 0x1960⟩
  , ⟨"ISL_STATUS[13]", 0x11D4, 1, 0x4, 1, 0x4, 0, 0x1FF0FFF, 0, 0, 0, 0, 0, 0, 0xAA0000⟩
  , ⟨"ISL_CFG[14]", 0x11E0, 1, 0x4, 1, 0x4, 0x3FFF, 0, 0, 0, 0, 0, 0, 0, 0x1960⟩
  , ⟨"ISL_STATUS[14]", 0x11E4, 1, 0x4, 1, 0x4, 0, 0x1FF0FFF, 0, 0, 0, 0, 0, 0, 0xAA0000⟩
  , ⟨"ISL_CFG[15]", 0x11F0, 1, 0x4, 1, 0x4, 0x3FFF, 0, 0, 0, 0, 0, 0, 0, 0x1960⟩
  , ⟨"ISL_STATUS[15]", 0x11F4, 1, 0x4, 1, 0x4, 0, 0x1FF0FFF, 0, 0, 0, 0, 0, 0, 0xAA0000⟩ ]

def pwrRows2 : List RegDesc :=
  [ ⟨"ISL_CFG[16]", 0x1200, 1, 0x4, 1, 0x4, 0x3FFF, 0, 0, 0, 0, 0, 0, 0, 0x1960⟩
  , ⟨"ISL_STATUS[16]", 0x1204, 1, 0x4, 1, 0x4, 0, 0x1FF0FFF, 0, 0, 0, 0, 0, 0, 0xAA0000⟩
  , ⟨"ISL_CFG[17]", 0x1210, 1, 0x4, 1, 0x4, 0x3FFF, 0, 0, 0, 0, 0, 0, 0, 0x1960⟩
  , ⟨"ISL_STATUS[17]", 0x1214, 1, 0x4, 1, 0x4, 0, 0x1FF0FFF, 0, 0, 0, 0, 0, 0, 0xAA0000⟩
  , ⟨"ISL_CFG[18]", 0x1220, 1, 0x4, 1, 0x4, 0x3FFF, 0, 0, 0, 0, 0, 0, 0, 0x1960⟩
  , ⟨"ISL_STATUS[18]", 0x1224, 1, 0x4, 1, 0x4, 0, 0x1FF0FFF, 0, 0, 0, 0, 0, 0, 0xAA0000⟩
  , ⟨"ISL_CFG[19]", 0x1230, 1, 0x4, 1, 0x4, 0x3FFF, 0, 0, 0, 0, 0, 0, 0, 0x1960⟩
  , ⟨"ISL_STATUS[19]", 0x1234, 1, 0x4, 1, 0x4, 0, 0x1FF0FFF, 0, 0, 0, 0, 0, 0, 0xAA0000⟩
  , ⟨"ISL_CFG[20]", 0x1240, 1, 0x4, 1, 0x4, 0x3FFF, 0, 0, 0, 0, 0, 0, 0, 0x1960⟩
  , ⟨"ISL_STATUS[20]", 0x1244, 1, 0x4, 1, 0x4, 0, 0x1FF0FFF, 0, 0, 0, 0, 0, 0, 0xAA0000⟩
  , ⟨"ISL_CFG[21]", 0x1250, 1, 0x4, 1, 0x4, 0x3FFF, 0, 0, 0, 0, 0, 0, 0, 0x1960⟩
  , ⟨"ISL_STATUS[21]", 0x1254, 1, 0x4, 1, 0x4, 0, 0x1FF0FFF, 0, 0, 0, 0, 0, 0, 0xAA0000⟩
  , ⟨"ISL_CFG[22]", 0x1260, 1, 0x4, 1, 0x4, 0x3FFF, 0, 0, 0, 0, 0, 0, 0, 0x1960⟩
  , ⟨"ISL_STATUS[22]", 0x1264, 1, 0x4, 1, 0x4, 0, 0x1FF0FFF, 0, 0, 0, 0, 0, 0, 0xAA0000⟩
  , ⟨"ISL_CFG[23]", 0x1270, 1, 0x4, 1, 0x4, 0x3FFF, 0, 0, 0, 0, 0, 0, 0, 0x1960⟩
  , ⟨"ISL_STATUS[23]", 0x1274, 1, 0x4, 1, 0x4, 0, 0x1FF0FFF, 0, 0, 0, 0, 0, 0, 0xAA0000⟩
  , ⟨"ISL_CFG[24]", 0x1280, 1, 0x4, 1, 0x4, 0, 0xFFF, 0, 0, 0, 0, 0, 0, 0⟩
  , ⟨"ISL_STATUS[24]", 0x1284, 1, 0x4, 1, 0x4, 0, 0x1FF0FFF, 0, 0, 0, 0, 0, 0, 0xDC0189⟩
  , ⟨"ISL_CFG[25]", 0x1290, 1, 0x4, 1, 0x4, 0, 0xFFF, 0, 0, 0, 0, 0, 0, 0⟩
  , ⟨"ISL_STATUS[25]", 0x1294, 1, 0x4, 1, 0x4, 0, 0x1FF0FFF, 0, 0, 0, 0, 0, 0, 0xDC0000⟩
  , ⟨"ISL_CFG[26]", 0x12A0, 1, 0x4, 1, 0x4, 0, 0xFFF, 0, 0, 0, 0, 0, 0, 0⟩
  , ⟨"ISL_STATUS[26]", 0x12A4, 1, 0x4, 1, 0x4, 0, 0x1FF0FFF, 0, 0, 0, 0, 0, 0, 0xDC0000⟩
  , ⟨"ISL_CFG[27]", 0x12B0, 1, 0x4, 1, 0x4, 0, 0xFFF, 0, 0, 0, 0, 0, 0, 0⟩
  , ⟨"ISL_STATUS[27]", 0x12B4, 1, 0x4, 1, 0x4, 0, 0x1FF0FFF, 0, 0, 0, 0, 0, 0, 0xDC0000⟩ ]

def pwrRows : List RegDesc := pwrRows0 ++ pwrRows1 ++ pwrRows2

def vetRows0 : List RegDesc :=
  [ ⟨"VET_CTRL", 0x2000, 1, 0x4, 1, 0x4, 0xFFFF1F1F, 0, 0, 0, 0, 0, 0, 0, 0xA280C06⟩
  , ⟨"VET_LOOP_CTRL", 0x2004, 1, 0x4, 1, 0x4, 0, 0, 0, 0, 0, 0x1F, 0, 0, 0⟩
  , ⟨"VET_REALIGN", 0x2008, 1, 0x4, 1, 0x4, 0, 0, 0, 0, 0, 0xFF07, 0, 0, 0x100⟩
  , ⟨"VET_REALIGN_STATUS", 0x200C, 1, 0x4, 1, 0x4, 0, 0x1F, 0, 0, 0, 0, 0, 0, 0⟩
  , ⟨"VET_REALIGN_SEC_LO", 0x2010, 1, 0x4, 1, 0x4, 0xFFFFFFFF, 0, 0, 0, 0, 0, 0, 0, 0⟩
  , ⟨"VET_REALIGN_SEC_HI", 0x2014, 1, 0x4, 1, 0x4, 0xFFFF, 0, 0, 0, 0, 0, 0, 0, 0⟩
  , ⟨"VET_REALIGN_NS", 0x2018, 1, 0x4, 1, 0x4, 0x3FFFFFFF, 0, 0, 0, 0, 0, 0, 0, 0⟩
  , ⟨"VET_REALIGN_AT_LO", 0x2020, 1, 0x4, 1, 0x4, 0xFFFFFFFF, 0, 0, 0, 0, 0, 0, 0, 0⟩
  , ⟨"VET_REALIGN_AT_HI", 0x2024, 1, 0x4, 1, 0x4, 0xFFFFFFFF, 0, 0, 0, 0, 0, 0, 0, 0⟩
  , ⟨"VET_HOLD", 0x2030, 1, 0x4, 1, 0x4, 0xFFFFFF, 0, 0, 0, 0, 0, 0, 0, 0x3C⟩
  , ⟨"VET_FREE_WORD", 0x2034, 1, 0x4, 1, 0x4, 0xFFFFFFFF, 0, 0, 0, 0, 0, 0, 0, 0⟩
  , ⟨"VET_HOST_WORD", 0x2038, 1, 0x4, 1, 0x4, 0xFFFFFFFF, 0, 0, 0, 0, 0, 0, 0, 0⟩
  , ⟨"VET_FREQ_WORD", 0x203C, 1, 0x4, 1, 0x4, 0, 0xFFFFFFFF, 0, 0, 0, 0, 0, 0, 0⟩
  , ⟨"VET_STATUS", 0x2040, 1, 0x4, 1, 0x4, 0, 0xFF3FFFFF, 0, 0, 0, 0, 0, 0, 0⟩
  , ⟨"VET_EVENT", 0x2044, 1, 0x4, 1, 0x4, 0, 0, 0, 0x7FF, 0, 0, 0, 0, 0⟩
  , ⟨"VET_EVENT_EN", 0x2048, 1, 0x4, 1, 0x4, 0x7FF, 0, 0, 0, 0, 0, 0, 0, 0⟩
  , ⟨"VET_PHASE_ERR", 0x204C, 1, 0x4, 1, 0x4, 0, 0xFFFFFFFF, 0, 0, 0, 0, 0, 0, 0⟩
  , ⟨"VET_HOLD_REMAIN", 0x2050, 1, 0x4, 1, 0x4, 0, 0xFFFFFFFF, 0, 0, 0, 0, 0, 0, 0⟩
  , ⟨"VET_OFFSET_LO", 0x2058, 1, 0x4, 1, 0x4, 0, 0, 0, 0, 0, 0, 0xFFFFFFFF, 0, 0⟩
  , ⟨"VET_OFFSET_HI", 0x205C, 1, 0x4, 1, 0x4, 0, 0, 0, 0, 0, 0, 0, 0xFFFFFFFF, 0⟩
  , ⟨"VET_SNAP", 0x2060, 1, 0x4, 1, 0x4, 0, 0, 0x1, 0, 0, 0, 0, 0, 0⟩
  , ⟨"VET_SNAP_IDX_LO", 0x2068, 1, 0x4, 1, 0x4, 0, 0xFFFFFFFF, 0, 0, 0, 0, 0, 0, 0⟩
  , ⟨"VET_SNAP_IDX_HI", 0x206C, 1, 0x4, 1, 0x4, 0, 0xFFFFFFFF, 0, 0, 0, 0, 0, 0, 0⟩
  , ⟨"VET_SNAP_SEC_LO", 0x2070, 1, 0x4, 1, 0x4, 0, 0xFFFFFFFF, 0, 0, 0, 0, 0, 0, 0⟩ ]

def vetRows1 : List RegDesc :=
  [ ⟨"VET_SNAP_SEC_HI", 0x2074, 1, 0x4, 1, 0x4, 0, 0xFFFF, 0, 0, 0, 0, 0, 0, 0⟩
  , ⟨"VET_SNAP_NS", 0x2078, 1, 0x4, 1, 0x4, 0, 0x3FFFFFFF, 0, 0, 0, 0, 0, 0, 0⟩
  , ⟨"VET_PULSE_CFG", 0x2080, 1, 0x4, 1, 0x4, 0xFFFF0FFF, 0, 0, 0, 0, 0, 0, 0, 0xA0⟩
  , ⟨"REF_CFG", 0x2100, 8, 0x20, 1, 0x4, 0x1FF1F1F, 0, 0, 0, 0, 0, 0, 0, 0x200F00⟩
  , ⟨"REF_RATE", 0x2104, 8, 0x20, 1, 0x4, 0xFFF0007, 0, 0, 0, 0, 0, 0, 0, 0x1⟩
  , ⟨"REF_PERIOD", 0x2108, 8, 0x20, 1, 0x4, 0xFFFFFFFF, 0, 0, 0, 0, 0, 0, 0, 0⟩
  , ⟨"REF_STATUS", 0x210C, 8, 0x20, 1, 0x4, 0, 0x1FFFF, 0, 0, 0, 0, 0, 0, 0xF0⟩
  , ⟨"REF_FREQ", 0x2110, 8, 0x20, 1, 0x4, 0, 0xFFFFFFFF, 0, 0, 0, 0, 0, 0, 0⟩
  , ⟨"REF_CNT", 0x2114, 8, 0x20, 1, 0x4, 0, 0, 0, 0, 0xFFFFFFFF, 0, 0, 0, 0⟩ ]

def vetRows : List RegDesc := vetRows0 ++ vetRows1

def synRows : List RegDesc :=
  [ ⟨"SYN_OSC_CFG", 0x3000, 1, 0x4, 1, 0x4, 0x7, 0, 0, 0, 0, 0, 0, 0, 0⟩
  , ⟨"SYN_STATUS", 0x3004, 1, 0x4, 1, 0x4, 0, 0xF3F, 0, 0, 0, 0, 0, 0, 0⟩
  , ⟨"SYN_EVENT", 0x3008, 1, 0x4, 1, 0x4, 0, 0, 0, 0x7FF, 0, 0, 0, 0, 0⟩
  , ⟨"SYN_EVENT_EN", 0x300C, 1, 0x4, 1, 0x4, 0x7FF, 0, 0, 0, 0, 0, 0, 0, 0⟩
  , ⟨"SYN_ADPLL0_CFG", 0x3010, 1, 0x4, 1, 0x4, 0x1, 0, 0, 0, 0, 0, 0, 0, 0x1⟩
  , ⟨"SYN_ADPLL0_SEED", 0x3014, 1, 0x4, 1, 0x4, 0xFFFFFFFF, 0, 0, 0, 0, 0, 0, 0, 0x1⟩
  , ⟨"SYN_ADPLL0_ERR", 0x3018, 1, 0x4, 1, 0x4, 0, 0xFFFF, 0, 0, 0, 0, 0, 0, 0⟩
  , ⟨"SYN_COAST_CNT", 0x301C, 1, 0x4, 1, 0x4, 0, 0, 0, 0, 0xFFFFFF, 0, 0, 0, 0⟩
  , ⟨"SYN_ADPLL1_CTRL", 0x3020, 1, 0x4, 1, 0x4, 0x3, 0, 0x4, 0, 0, 0, 0, 0, 0x2⟩
  , ⟨"SYN_ADPLL1_INT", 0x3024, 1, 0x4, 1, 0x4, 0xFF, 0, 0, 0, 0, 0, 0, 0, 0x75⟩
  , ⟨"SYN_ADPLL1_NUM", 0x3028, 1, 0x4, 1, 0x4, 0xFFFFFF, 0, 0, 0, 0, 0, 0, 0, 0x3⟩
  , ⟨"SYN_ADPLL1_DEN", 0x302C, 1, 0x4, 1, 0x4, 0xFFFFFF, 0, 0, 0, 0, 0, 0, 0, 0x5⟩
  , ⟨"SYN_ADPLL1_SEED", 0x3030, 1, 0x4, 1, 0x4, 0xFFFFFFFF, 0, 0, 0, 0, 0, 0, 0, 0x1⟩
  , ⟨"SYN_SYNC_CTRL", 0x3040, 1, 0x4, 1, 0x4, 0x7, 0, 0, 0, 0, 0, 0, 0, 0⟩
  , ⟨"SYN_SYNC_STATUS", 0x3044, 1, 0x4, 1, 0x4, 0, 0xFFFF0000, 0, 0xFFF, 0, 0, 0, 0, 0⟩
  , ⟨"CKOUT_CFG", 0x3100, 12, 0x10, 1, 0x4, 0xF7, 0, 0, 0, 0, 0, 0, 0, 0⟩
  , ⟨"CKOUT_DIV", 0x3104, 12, 0x10, 1, 0x4, 0xFFFFFF, 0, 0, 0, 0, 0, 0, 0, 0x80⟩
  , ⟨"CKOUT_DELAY", 0x3108, 12, 0x10, 1, 0x4, 0x3F03FF, 0, 0, 0, 0, 0, 0, 0, 0⟩
  , ⟨"CKOUT_STATUS", 0x310C, 12, 0x10, 1, 0x4, 0, 0x1F, 0, 0, 0, 0, 0, 0, 0⟩ ]

def twinRows : List RegDesc :=
  [ ⟨"TWIN_CTRL", 0x4000, 1, 0x4, 1, 0x4, 0, 0, 0, 0, 0, 0x1F, 0, 0, 0⟩
  , ⟨"TWIN_CFG", 0x4004, 1, 0x4, 1, 0x4, 0x3FFFFFF, 0, 0, 0, 0, 0, 0, 0, 0x31E0A65⟩
  , ⟨"TWIN_IMG_CFG", 0x4008, 1, 0x4, 1, 0x4, 0xFFFF00FF, 0, 0, 0, 0, 0, 0, 0, 0x4000032⟩
  , ⟨"TWIN_PAIR_ID", 0x400C, 1, 0x4, 1, 0x4, 0xFFFFFFFF, 0, 0, 0, 0, 0, 0, 0, 0⟩
  , ⟨"TWIN_PEER_IP_A", 0x4010, 1, 0x4, 1, 0x4, 0xFFFFFFFF, 0, 0, 0, 0, 0, 0, 0, 0⟩
  , ⟨"TWIN_PEER_IP_B", 0x4014, 1, 0x4, 1, 0x4, 0xFFFFFFFF, 0, 0, 0, 0, 0, 0, 0, 0⟩
  , ⟨"TWIN_PEER_MAC_A_LO", 0x4018, 1, 0x4, 1, 0x4, 0xFFFFFFFF, 0, 0, 0, 0, 0, 0, 0, 0⟩
  , ⟨"TWIN_PEER_MAC_B_LO", 0x401C, 1, 0x4, 1, 0x4, 0xFFFFFFFF, 0, 0, 0, 0, 0, 0, 0, 0⟩
  , ⟨"TWIN_PEER_MAC_HI", 0x4020, 1, 0x4, 1, 0x4, 0xFFFFFFFF, 0, 0, 0, 0, 0, 0, 0, 0⟩
  , ⟨"TWIN_HB_UDP", 0x4024, 1, 0x4, 1, 0x4, 0x3FFFFF, 0, 0, 0, 0, 0, 0, 0, 0x2E2350⟩
  , ⟨"TWIN_HEALTH_MASK", 0x4028, 1, 0x4, 1, 0x4, 0xFFF, 0, 0, 0, 0, 0, 0, 0, 0xFFF⟩
  , ⟨"TWIN_STATUS", 0x4040, 1, 0x4, 1, 0x4, 0, 0x1FFFF, 0, 0, 0, 0, 0, 0, 0x8⟩
  , ⟨"TWIN_EVENT", 0x4044, 1, 0x4, 1, 0x4, 0, 0, 0, 0x1FFF, 0, 0, 0, 0, 0⟩
  , ⟨"TWIN_EVENT_EN", 0x4048, 1, 0x4, 1, 0x4, 0x1FFF, 0, 0, 0, 0, 0, 0, 0, 0⟩
  , ⟨"TWIN_HEALTH", 0x404C, 1, 0x4, 1, 0x4, 0, 0xFFF0FFF, 0, 0, 0, 0, 0, 0, 0⟩
  , ⟨"TWIN_IMG_STATUS", 0x4050, 1, 0x4, 1, 0x4, 0, 0xFFFF77FF, 0, 0, 0, 0, 0, 0, 0⟩
  , ⟨"TWIN_IMG_SEQ", 0x4054, 1, 0x4, 1, 0x4, 0, 0xFFFFFFFF, 0, 0, 0, 0, 0, 0, 0⟩
  , ⟨"TWIN_PEER_OFS", 0x4058, 1, 0x4, 1, 0x4, 0, 0xFFFFFFFF, 0, 0, 0, 0, 0, 0, 0⟩
  , ⟨"TWIN_LAST_TAKE", 0x405C, 1, 0x4, 1, 0x4, 0, 0xFFFF, 0, 0, 0, 0, 0, 0, 0⟩
  , ⟨"TWIN_HB_CNT", 0x4060, 3, 0x4, 1, 0x4, 0, 0, 0, 0, 0xFFFFFFFF, 0, 0, 0, 0⟩
  , ⟨"TWIN_CNT", 0x406C, 1, 0x4, 1, 0x4, 0, 0xFFFFFFFF, 0, 0, 0, 0, 0, 0, 0⟩
  , ⟨"REGION_BASE", 0x4100, 32, 0x8, 1, 0x4, 0x3FFFFFF, 0, 0, 0, 0, 0, 0, 0, 0⟩
  , ⟨"REGION_WORDS", 0x4104, 32, 0x8, 1, 0x4, 0x7FFFF, 0, 0, 0, 0, 0, 0, 0, 0⟩ ]

def mpRows0 : List RegDesc :=
  [ ⟨"MP_CTRL", 0x5000, 1, 0x4, 1, 0x4, 0, 0, 0, 0, 0, 0x3, 0, 0, 0⟩
  , ⟨"MP_STATUS", 0x5004, 1, 0x4, 1, 0x4, 0, 0x1F, 0, 0, 0, 0, 0, 0, 0⟩
  , ⟨"MP_FW_VER", 0x5008, 1, 0x4, 1, 0x4, 0, 0xFFFFFFFF, 0, 0, 0, 0, 0, 0, 0⟩
  , ⟨"MP_FW_SVN", 0x500C, 1, 0x4, 1, 0x4, 0, 0xFFFF, 0, 0, 0, 0, 0, 0, 0⟩
  , ⟨"MP_EVENT", 0x5010, 1, 0x4, 1, 0x4, 0, 0, 0, 0x7FFFF, 0, 0, 0, 0, 0⟩
  , ⟨"MP_EVENT_EN", 0x5014, 1, 0x4, 1, 0x4, 0x7FFFF, 0, 0, 0, 0, 0, 0, 0, 0⟩
  , ⟨"MP_MB_CMD", 0x5020, 1, 0x4, 1, 0x4, 0, 0, 0xFF1FFF, 0, 0, 0, 0, 0, 0⟩
  , ⟨"MP_MB_STATUS", 0x5024, 1, 0x4, 1, 0x4, 0, 0x7FFFFF03, 0, 0, 0, 0, 0, 0, 0⟩
  , ⟨"MP_MB_ARG", 0x5040, 16, 0x4, 1, 0x4, 0xFFFFFFFF, 0, 0, 0, 0, 0, 0, 0, 0⟩
  , ⟨"MP_MB_RSP", 0x5080, 16, 0x4, 1, 0x4, 0, 0xFFFFFFFF, 0, 0, 0, 0, 0, 0, 0⟩
  , ⟨"MP_TEMP", 0x5100, 8, 0x4, 1, 0x4, 0, 0x1FFFF, 0, 0, 0, 0, 0, 0, 0⟩
  , ⟨"MP_SUPPLY", 0x5120, 8, 0x4, 1, 0x4, 0, 0x1FFFF, 0, 0, 0, 0, 0, 0, 0⟩
  , ⟨"MP_TEMP_THR", 0x5140, 8, 0x4, 1, 0x4, 0xFFFF, 0, 0, 0, 0, 0, 0, 0, 0x7369⟩
  , ⟨"MP_SUPPLY_THR", 0x5160, 8, 0x4, 1, 0x4, 0xFFFF, 0, 0, 0, 0, 0, 0, 0, 0x3C1E⟩
  , ⟨"MP_ALARM_STATUS", 0x5180, 1, 0x4, 1, 0x4, 0, 0xFFFFFFFF, 0, 0, 0, 0, 0, 0, 0⟩
  , ⟨"MP_LOG_HEAD", 0x51C0, 1, 0x4, 1, 0x4, 0, 0xFFFFFFFF, 0, 0, 0, 0, 0, 0, 0⟩
  , ⟨"MP_LOG_SEL", 0x51C4, 1, 0x4, 1, 0x4, 0xFFFFFFFF, 0, 0, 0, 0, 0, 0, 0, 0⟩
  , ⟨"MP_LOG_OLDEST", 0x51C8, 1, 0x4, 1, 0x4, 0, 0xFFFFFFFF, 0, 0, 0, 0, 0, 0, 0⟩
  , ⟨"MP_LOG_DATA", 0x51E0, 8, 0x4, 1, 0x4, 0, 0xFFFFFFFF, 0, 0, 0, 0, 0, 0, 0⟩
  , ⟨"MP_GPIO_CFG", 0x5200, 16, 0x8, 1, 0x4, 0x3FFFFF, 0, 0, 0, 0, 0, 0, 0, 0x320⟩
  , ⟨"MP_GPIO_ARG", 0x5204, 16, 0x8, 1, 0x4, 0xFFFFF, 0, 0, 0, 0, 0, 0, 0, 0⟩
  , ⟨"MP_GPIO_IN", 0x5280, 1, 0x4, 1, 0x4, 0, 0xFFFFFFFF, 0, 0, 0, 0, 0, 0, 0⟩
  , ⟨"MP_GPIO_OUT", 0x5284, 1, 0x4, 1, 0x4, 0xFFFF, 0, 0, 0, 0, 0, 0, 0, 0⟩
  , ⟨"MP_EVT_NS", 0x5290, 1, 0x4, 1, 0x4, 0, 0, 0, 0, 0, 0, 0x3FFFFFFF, 0, 0⟩ ]

def mpRows1 : List RegDesc :=
  [ ⟨"MP_EVT_INFO", 0x5294, 1, 0x4, 1, 0x4, 0, 0, 0, 0, 0, 0, 0, 0x7FFFFF, 0⟩
  , ⟨"MP_OVF", 0x52A0, 8, 0x4, 1, 0x4, 0, 0, 0, 0, 0xFFFFFFFF, 0, 0, 0, 0⟩
  , ⟨"MP_XFER", 0x5800, 512, 0x4, 1, 0x4, 0xFFFFFFFF, 0, 0, 0, 0, 0, 0, 0, 0⟩ ]

def mpRows : List RegDesc := mpRows0 ++ mpRows1

def fuseRows : List RegDesc :=
  [ ⟨"FUSE_PROG", 0x6010, 1, 0x4, 1, 0x4, 0, 0, 0, 0, 0, 0x3F, 0, 0, 0⟩
  , ⟨"FUSE_LOCK", 0x6014, 1, 0x4, 1, 0x4, 0, 0, 0, 0, 0, 0x7F, 0, 0, 0⟩
  , ⟨"FUSE_STATUS", 0x6018, 1, 0x4, 1, 0x4, 0, 0x1F, 0, 0, 0, 0, 0, 0, 0⟩
  , ⟨"FUSE_EVENT", 0x601C, 1, 0x4, 1, 0x4, 0, 0, 0, 0x3, 0, 0, 0, 0, 0⟩
  , ⟨"FUSE_EVENT_EN", 0x6020, 1, 0x4, 1, 0x4, 0x3, 0, 0, 0, 0, 0, 0, 0, 0⟩
  , ⟨"FUSE_DATA", 0x6024, 1, 0x4, 1, 0x4, 0xFFFFFFFF, 0, 0, 0, 0, 0, 0, 0, 0⟩
  , ⟨"FUSE_WORD", 0x6100, 64, 0x4, 1, 0x4, 0, 0xFFFFFFFF, 0, 0, 0, 0, 0, 0, 0⟩ ]

def netRows0 : List RegDesc :=
  [ ⟨"NET_CTRL", 0x10000, 2, 0x4000, 1, 0x4, 0x7F, 0, 0, 0, 0, 0, 0, 0, 0x8⟩
  , ⟨"NET_STATUS", 0x10004, 2, 0x4000, 1, 0x4, 0, 0x3F, 0, 0, 0, 0, 0, 0, 0⟩
  , ⟨"NET_EVENT", 0x10008, 2, 0x4000, 1, 0x4, 0, 0, 0, 0x1FF, 0, 0, 0, 0, 0⟩
  , ⟨"NET_EVENT_EN", 0x1000C, 2, 0x4000, 1, 0x4, 0x1FF, 0, 0, 0, 0, 0, 0, 0, 0⟩
  , ⟨"NET_MAC_LO", 0x10010, 2, 0x4000, 1, 0x4, 0xFFFFFFFF, 0, 0, 0, 0, 0, 0, 0, 0⟩
  , ⟨"NET_MAC_HI", 0x10014, 2, 0x4000, 1, 0x4, 0xFFFF, 0, 0, 0, 0, 0, 0, 0, 0⟩
  , ⟨"NET_IP_ADDR", 0x10018, 2, 0x4000, 1, 0x4, 0xFFFFFFFF, 0, 0, 0, 0, 0, 0, 0, 0⟩
  , ⟨"NET_VLAN", 0x1001C, 2, 0x4000, 1, 0x4, 0x7773FFF, 0, 0, 0, 0, 0, 0, 0, 0x562000⟩
  , ⟨"NET_LINK_CFG", 0x10020, 2, 0x4000, 1, 0x4, 0xFFFF, 0, 0, 0, 0, 0, 0, 0, 0x32⟩
  , ⟨"NET_TS_CORR", 0x10024, 2, 0x4000, 1, 0x4, 0xFFFFFFFF, 0, 0, 0, 0, 0, 0, 0, 0⟩
  , ⟨"NET_IP_CFG", 0x10028, 2, 0x4000, 1, 0x4, 0x3F3F00FF, 0, 0, 0, 0, 0, 0, 0, 0x2E2E0001⟩
  , ⟨"NET_PTP_CFG", 0x10040, 2, 0x4000, 1, 0x4, 0xFFFFFFFF, 0, 0, 0, 0, 0, 0, 0, 0x3E867F8⟩
  , ⟨"NET_PTP_RATES", 0x10044, 2, 0x4000, 1, 0x4, 0x1FFFF, 0, 0, 0, 0, 0, 0, 0, 0x3DED⟩
  , ⟨"NET_PTP_DS0", 0x10048, 2, 0x4000, 1, 0x4, 0xFFFFFFFF, 0, 0, 0, 0, 0, 0, 0, 0x80FEF880⟩
  , ⟨"NET_PTP_DS1", 0x1004C, 2, 0x4000, 1, 0x4, 0xFFFFFF, 0, 0, 0, 0, 0, 0, 0, 0xA0FFFF⟩
  , ⟨"NET_UTC", 0x10050, 2, 0x4000, 1, 0x4, 0x3FFFFF, 0, 0, 0, 0, 0, 0, 0, 0x200025⟩
  , ⟨"NET_CLOCK_ID_LO", 0x10058, 2, 0x4000, 1, 0x4, 0xFFFFFFFF, 0, 0, 0, 0, 0, 0, 0, 0⟩
  , ⟨"NET_CLOCK_ID_HI", 0x1005C, 2, 0x4000, 1, 0x4, 0xFFFFFFFF, 0, 0, 0, 0, 0, 0, 0, 0⟩
  , ⟨"NET_PTP_STATE", 0x10060, 2, 0x4000, 1, 0x4, 0, 0xFFFF00FF, 0, 0, 0, 0, 0, 0, 0⟩
  , ⟨"NET_GM_ID_LO", 0x10068, 2, 0x4000, 1, 0x4, 0, 0, 0, 0, 0, 0, 0xFFFFFFFF, 0, 0⟩
  , ⟨"NET_GM_ID_HI", 0x1006C, 2, 0x4000, 1, 0x4, 0, 0, 0, 0, 0, 0, 0, 0xFFFFFFFF, 0⟩
  , ⟨"NET_OFFSET_LO", 0x10070, 2, 0x4000, 1, 0x4, 0, 0, 0, 0, 0, 0, 0xFFFFFFFF, 0, 0⟩
  , ⟨"NET_OFFSET_HI", 0x10074, 2, 0x4000, 1, 0x4, 0, 0, 0, 0, 0, 0, 0, 0xFFFFFFFF, 0⟩
  , ⟨"NET_MPD", 0x10078, 2, 0x4000, 1, 0x4, 0, 0xFFFFFFFF, 0, 0, 0, 0, 0, 0, 0⟩ ]

def netRows1 : List RegDesc :=
  [ ⟨"NET_GM_DS", 0x1007C, 2, 0x4000, 1, 0x4, 0, 0xFFFFFFFF, 0, 0, 0, 0, 0, 0, 0⟩
  , ⟨"NET_TXTS_NS", 0x10080, 2, 0x4000, 1, 0x4, 0, 0, 0, 0, 0, 0, 0x3FFFFFFF, 0, 0⟩
  , ⟨"NET_TXTS_INFO", 0x10084, 2, 0x4000, 1, 0x4, 0, 0, 0, 0, 0, 0, 0, 0x1FFFFFFF, 0⟩
  , ⟨"NET_CNT", 0x10100, 2, 0x4000, 16, 0x4, 0, 0xFFFFFFFF, 0, 0, 0, 0, 0, 0, 0⟩
  , ⟨"NET_CNT_WRAP", 0x10140, 2, 0x4000, 1, 0x4, 0, 0, 0, 0xFFFF, 0, 0, 0, 0, 0⟩ ]

def netRows : List RegDesc := netRows0 ++ netRows1

def netcRows : List RegDesc :=
  [ ⟨"NETC_HFP_CFG", 0x18000, 1, 0x4, 1, 0x4, 0xF3F3F, 0, 0, 0, 0, 0, 0, 0, 0xA0100⟩
  , ⟨"NETC_HFP_EVENT", 0x18008, 1, 0x4, 1, 0x4, 0, 0, 0, 0x3F, 0, 0, 0, 0, 0⟩
  , ⟨"NETC_HFP_EVENT_EN", 0x1800C, 1, 0x4, 1, 0x4, 0x3F, 0, 0, 0, 0, 0, 0, 0, 0⟩
  , ⟨"NETC_HFP_RX_FRAMES", 0x18010, 1, 0x4, 1, 0x4, 0, 0xFFFFFFFF, 0, 0, 0, 0, 0, 0, 0⟩
  , ⟨"NETC_HFP_RX_DROP", 0x18014, 1, 0x4, 1, 0x4, 0, 0xFFFFFFFF, 0, 0, 0, 0, 0, 0, 0⟩
  , ⟨"NETC_HFP_TX_FRAMES", 0x18018, 1, 0x4, 1, 0x4, 0, 0xFFFFFFFF, 0, 0, 0, 0, 0, 0, 0⟩
  , ⟨"NETC_HFP_TX_DROP", 0x1801C, 1, 0x4, 1, 0x4, 0, 0xFFFFFFFF, 0, 0, 0, 0, 0, 0, 0⟩
  , ⟨"NETC_IGMP_CFG", 0x18040, 1, 0x4, 1, 0x4, 0x3FFF3F, 0, 0, 0, 0, 0, 0, 0, 0x300A17⟩
  , ⟨"NETC_IGMP_CMD", 0x18044, 1, 0x4, 1, 0x4, 0, 0, 0xFFF, 0, 0, 0, 0, 0, 0⟩
  , ⟨"NETC_IGMP_STATUS", 0x18048, 1, 0x4, 1, 0x4, 0, 0x3FF003F, 0, 0, 0, 0, 0, 0, 0⟩
  , ⟨"NETC_BUDGET_A", 0x18060, 1, 0x4, 1, 0x4, 0xFFFF, 0xFFFF0000, 0, 0, 0, 0, 0, 0, 0⟩
  , ⟨"NETC_BUDGET_B", 0x18064, 1, 0x4, 1, 0x4, 0xFFFF, 0xFFFF0000, 0, 0, 0, 0, 0, 0, 0⟩
  , ⟨"NETC_MDIO_CMD", 0x18080, 1, 0x4, 1, 0x4, 0, 0, 0xFFFF3FFF, 0, 0, 0, 0, 0, 0⟩
  , ⟨"NETC_MDIO_STATUS", 0x18084, 1, 0x4, 1, 0x4, 0, 0xFFFF0003, 0, 0, 0, 0, 0, 0, 0⟩
  , ⟨"NETC_MDIO_CFG", 0x18088, 1, 0x4, 1, 0x4, 0xFF, 0, 0, 0, 0, 0, 0, 0, 0x63⟩
  , ⟨"MEMB_GROUP", 0x1A000, 512, 0x10, 1, 0x4, 0xFFFFFFFF, 0, 0, 0, 0, 0, 0, 0, 0⟩
  , ⟨"MEMB_SOURCE", 0x1A004, 512, 0x10, 1, 0x4, 0xFFFFFFFF, 0, 0, 0, 0, 0, 0, 0, 0⟩
  , ⟨"MEMB_PORTS", 0x1A008, 512, 0x10, 1, 0x4, 0x3, 0x300, 0, 0, 0, 0, 0, 0, 0⟩ ]

def flowRows0 : List RegDesc :=
  [ ⟨"FLOW_RX_CFG", 0x20000, 256, 0x40, 1, 0x4, 0xF7FFFFF, 0, 0, 0, 0, 0, 0, 0, 0x5600099⟩
  , ⟨"FLOW_RX_CH", 0x20004, 256, 0x40, 1, 0x4, 0x3FF, 0, 0, 0, 0, 0, 0, 0, 0⟩
  , ⟨"FLOW_RX_DST_A", 0x20008, 256, 0x40, 1, 0x4, 0xFFFFFFFF, 0, 0, 0, 0, 0, 0, 0, 0⟩
  , ⟨"FLOW_RX_DST_B", 0x2000C, 256, 0x40, 1, 0x4, 0xFFFFFFFF, 0, 0, 0, 0, 0, 0, 0, 0⟩
  , ⟨"FLOW_RX_SRC_A", 0x20010, 256, 0x40, 1, 0x4, 0xFFFFFFFF, 0, 0, 0, 0, 0, 0, 0, 0⟩
  , ⟨"FLOW_RX_SRC_B", 0x20014, 256, 0x40, 1, 0x4, 0xFFFFFFFF, 0, 0, 0, 0, 0, 0, 0, 0⟩
  , ⟨"FLOW_RX_UDP_A", 0x20018, 256, 0x40, 1, 0x4, 0xFFFFFFFF, 0, 0, 0, 0, 0, 0, 0, 0x138A⟩
  , ⟨"FLOW_RX_UDP_B", 0x2001C, 256, 0x40, 1, 0x4, 0xFFFFFFFF, 0, 0, 0, 0, 0, 0, 0, 0x138A⟩
  , ⟨"FLOW_RX_SSRC", 0x20020, 256, 0x40, 1, 0x4, 0xFFFFFFFF, 0, 0, 0, 0, 0, 0, 0, 0⟩
  , ⟨"FLOW_RX_TS_OFS", 0x20024, 256, 0x40, 1, 0x4, 0xFFFFFFFF, 0, 0, 0, 0, 0, 0, 0, 0⟩
  , ⟨"FLOW_RX_OFFSET", 0x20028, 256, 0x40, 1, 0x4, 0x1FFFF, 0, 0, 0, 0, 0, 0, 0, 0x40⟩
  , ⟨"FLOW_RX_CTRL", 0x2002C, 256, 0x40, 1, 0x4, 0xC, 0, 0x13, 0, 0, 0, 0, 0, 0⟩
  , ⟨"FLOW_RX_AT_LO", 0x20030, 256, 0x40, 1, 0x4, 0xFFFFFFFF, 0, 0, 0, 0, 0, 0, 0, 0⟩
  , ⟨"FLOW_RX_AT_HI", 0x20034, 256, 0x40, 1, 0x4, 0xFFFFFFFF, 0, 0, 0, 0, 0, 0, 0, 0⟩
  , ⟨"FLOW_RX_STATUS", 0x20038, 256, 0x40, 1, 0x4, 0, 0x3FF, 0, 0, 0, 0, 0, 0, 0⟩
  , ⟨"FLOW_RX_BUF", 0x2003C, 256, 0x40, 1, 0x4, 0, 0xFFFFFFFF, 0, 0, 0, 0, 0, 0, 0⟩
  , ⟨"FLOW_TX_CFG", 0x24000, 256, 0x40, 1, 0x4, 0x77FFFFF, 0, 0, 0, 0, 0, 0, 0, 0x600099⟩
  , ⟨"FLOW_TX_CH", 0x24004, 256, 0x40, 1, 0x4, 0xFF3F03FF, 0, 0, 0, 0, 0, 0, 0, 0x40220000⟩
  , ⟨"FLOW_TX_DST_A", 0x24008, 256, 0x40, 1, 0x4, 0xFFFFFFFF, 0, 0, 0, 0, 0, 0, 0, 0⟩
  , ⟨"FLOW_TX_DST_B", 0x2400C, 256, 0x40, 1, 0x4, 0xFFFFFFFF, 0, 0, 0, 0, 0, 0, 0, 0⟩
  , ⟨"FLOW_TX_UDP_A", 0x24010, 256, 0x40, 1, 0x4, 0xFFFFFFFF, 0, 0, 0, 0, 0, 0, 0, 0x138A138A⟩
  , ⟨"FLOW_TX_UDP_B", 0x24014, 256, 0x40, 1, 0x4, 0xFFFFFFFF, 0, 0, 0, 0, 0, 0, 0, 0x138A138A⟩
  , ⟨"FLOW_TX_DMAC_A_LO", 0x24018, 256, 0x40, 1, 0x4, 0xFFFFFFFF, 0, 0, 0, 0, 0, 0, 0, 0⟩
  , ⟨"FLOW_TX_DMAC_B_LO", 0x2401C, 256, 0x40, 1, 0x4, 0xFFFFFFFF, 0, 0, 0, 0, 0, 0, 0, 0⟩ ]

def flowRows1 : List RegDesc :=
  [ ⟨"FLOW_TX_DMAC_HI", 0x24020, 256, 0x40, 1, 0x4, 0xFFFFFFFF, 0, 0, 0, 0, 0, 0, 0, 0⟩
  , ⟨"FLOW_TX_SSRC", 0x24024, 256, 0x40, 1, 0x4, 0xFFFFFFFF, 0, 0, 0, 0, 0, 0, 0, 0⟩
  , ⟨"FLOW_TX_SEQ", 0x24028, 256, 0x40, 1, 0x4, 0xFFFFFFFF, 0, 0, 0, 0, 0, 0, 0, 0⟩
  , ⟨"FLOW_TX_CTRL", 0x2402C, 256, 0x40, 1, 0x4, 0xC, 0, 0x13, 0, 0, 0, 0, 0, 0⟩
  , ⟨"FLOW_TX_AT_LO", 0x24030, 256, 0x40, 1, 0x4, 0xFFFFFFFF, 0, 0, 0, 0, 0, 0, 0, 0⟩
  , ⟨"FLOW_TX_AT_HI", 0x24034, 256, 0x40, 1, 0x4, 0xFFFFFFFF, 0, 0, 0, 0, 0, 0, 0, 0⟩
  , ⟨"FLOW_TX_STATUS", 0x24038, 256, 0x40, 1, 0x4, 0, 0xFFFF0077, 0, 0, 0, 0, 0, 0, 0⟩
  , ⟨"FLOW_TX_SEQ_NOW", 0x2403C, 256, 0x40, 1, 0x4, 0, 0xFFFF, 0, 0, 0, 0, 0, 0, 0⟩
  , ⟨"FLOW_RXC_CNT", 0x28000, 256, 0x40, 14, 0x4, 0, 0xFFFFFFFF, 0, 0, 0, 0, 0, 0, 0⟩
  , ⟨"FLOW_RXC_MON", 0x28038, 256, 0x40, 1, 0x4, 0, 0xFFFFFFFF, 0, 0, 0, 0, 0, 0, 0xFFFF0000⟩
  , ⟨"FLOW_RXC_WRAP", 0x2803C, 256, 0x40, 1, 0x4, 0, 0, 0, 0x3FFF, 0, 0, 0, 0, 0⟩
  , ⟨"FLOW_TXC_PKT", 0x2C000, 256, 0x10, 1, 0x4, 0, 0xFFFFFFFF, 0, 0, 0, 0, 0, 0, 0⟩
  , ⟨"FLOW_TXC_LATE", 0x2C004, 256, 0x10, 1, 0x4, 0, 0xFFFFFFFF, 0, 0, 0, 0, 0, 0, 0⟩
  , ⟨"FLOW_TXC_SAT", 0x2C008, 256, 0x10, 1, 0x4, 0, 0xFFFFFFFF, 0, 0, 0, 0, 0, 0, 0⟩
  , ⟨"FLOW_TXC_WRAP", 0x2C00C, 256, 0x10, 1, 0x4, 0, 0, 0, 0x7, 0, 0, 0, 0, 0⟩
  , ⟨"FLOW_EVENT", 0x2E000, 1, 0x4, 1, 0x4, 0, 0, 0, 0x7FFF, 0, 0, 0, 0, 0⟩
  , ⟨"FLOW_EVENT_EN", 0x2E004, 1, 0x4, 1, 0x4, 0x7FFF, 0, 0, 0, 0, 0, 0, 0, 0⟩
  , ⟨"FLOW_RX_FREE", 0x2E008, 1, 0x4, 1, 0x4, 0, 0x1FF01FF, 0, 0, 0, 0, 0, 0, 0⟩
  , ⟨"FLOW_TX_FREE", 0x2E00C, 1, 0x4, 1, 0x4, 0, 0x1FF01FF, 0, 0, 0, 0, 0, 0, 0⟩
  , ⟨"FLOW_POOL", 0x2E010, 1, 0x4, 1, 0x4, 0, 0xFFF, 0, 0, 0, 0, 0, 0, 0xC00⟩
  , ⟨"FLOW_RXDRAM_BASE", 0x2E014, 1, 0x4, 1, 0x4, 0x1FFFF, 0, 0, 0, 0, 0, 0, 0, 0⟩
  , ⟨"FLOW_RXDRAM_SIZE", 0x2E018, 1, 0x4, 1, 0x4, 0x3FFFF, 0, 0, 0, 0, 0, 0, 0, 0⟩
  , ⟨"FLOW_RXDRAM_FREE", 0x2E01C, 1, 0x4, 1, 0x4, 0, 0x3FFFF, 0, 0, 0, 0, 0, 0, 0⟩
  , ⟨"FLOW_DITHER_SEED", 0x2E020, 1, 0x4, 1, 0x4, 0xFFFFFFFF, 0, 0, 0, 0, 0, 0, 0, 0x1⟩ ]

def flowRows2 : List RegDesc :=
  [ ⟨"FLOW_CS_CAP", 0x2E030, 1, 0x4, 1, 0x4, 0x13FFF, 0x20000, 0, 0, 0, 0, 0, 0, 0⟩
  , ⟨"FLOW_CS", 0x2E040, 6, 0x4, 1, 0x4, 0, 0xFFFFFFFF, 0, 0, 0, 0, 0, 0, 0⟩
  , ⟨"FLOW_CS_TPL", 0x2E100, 4, 0x20, 6, 0x4, 0xFFFFFFFF, 0, 0, 0, 0, 0, 0, 0, 0⟩ ]

def flowRows : List RegDesc := flowRows0 ++ flowRows1 ++ flowRows2

def routeRows : List RegDesc :=
  [ ⟨"ROUTE_SINK", 0x30000, 4096, 0x4, 1, 0x4, 0, 0xFFFFFFFF, 0, 0, 0, 0, 0, 0, 0xF7FF⟩
  , ⟨"ROUTE_SHADOW", 0x34000, 4096, 0x4, 1, 0x4, 0xFFFFFFFF, 0, 0, 0, 0, 0, 0, 0, 0xF7FF⟩
  , ⟨"ROUTE_CFG", 0x38000, 1, 0x4, 1, 0x4, 0xF3FFF, 0, 0, 0, 0, 0, 0, 0, 0x300F0⟩
  , ⟨"ROUTE_COMMIT", 0x38004, 1, 0x4, 1, 0x4, 0xFFFF0004, 0, 0xB, 0, 0, 0, 0, 0, 0⟩
  , ⟨"ROUTE_COMMIT_STATUS", 0x38008, 1, 0x4, 1, 0x4, 0, 0x1FFF000F, 0, 0, 0, 0, 0, 0, 0⟩
  , ⟨"ROUTE_COMMIT_AT_LO", 0x38010, 1, 0x4, 1, 0x4, 0xFFFFFFFF, 0, 0, 0, 0, 0, 0, 0, 0⟩
  , ⟨"ROUTE_COMMIT_AT_HI", 0x38014, 1, 0x4, 1, 0x4, 0xFFFFFFFF, 0, 0, 0, 0, 0, 0, 0, 0⟩
  , ⟨"ROUTE_EVENT", 0x38020, 1, 0x4, 1, 0x4, 0, 0, 0, 0x3F, 0, 0, 0, 0, 0⟩
  , ⟨"ROUTE_EVENT_EN", 0x38024, 1, 0x4, 1, 0x4, 0x3F, 0, 0, 0, 0, 0, 0, 0, 0⟩
  , ⟨"ROUTE_NAN_CNT", 0x38030, 1, 0x4, 1, 0x4, 0, 0xFFFFFFFF, 0, 0, 0, 0, 0, 0, 0⟩
  , ⟨"ROUTE_NAN_LAST", 0x38034, 1, 0x4, 1, 0x4, 0, 0xFFF, 0, 0, 0, 0, 0, 0, 0⟩
  , ⟨"ROUTE_DEFER_CNT", 0x38038, 1, 0x4, 1, 0x4, 0, 0, 0, 0, 0xFFFF, 0, 0, 0, 0⟩
  , ⟨"ROUTE_MUTE_SET", 0x38040, 1, 0x4, 1, 0x4, 0, 0, 0xFFF, 0, 0, 0, 0, 0, 0⟩
  , ⟨"ROUTE_MUTE_CLR", 0x38044, 1, 0x4, 1, 0x4, 0, 0, 0xFFF, 0, 0, 0, 0, 0, 0⟩
  , ⟨"ROUTE_TONE", 0x38050, 1, 0x4, 1, 0x4, 0xFFFF7FFF, 0, 0, 0, 0, 0, 0, 0, 0xF8F803E8⟩
  , ⟨"ROUTE_CUT", 0x38400, 128, 0x4, 1, 0x4, 0xFFFFFFFF, 0, 0, 0, 0, 0, 0, 0, 0⟩
  , ⟨"ROUTE_MUTE", 0x38600, 128, 0x4, 1, 0x4, 0, 0xFFFFFFFF, 0, 0, 0, 0, 0, 0, 0⟩
  , ⟨"ROUTE_SRC_STATUS", 0x3A000, 128, 0x8, 1, 0x4, 0, 0xFFF7, 0, 0, 0, 0, 0, 0, 0⟩
  , ⟨"ROUTE_SRC_RATIO", 0x3A004, 128, 0x8, 1, 0x4, 0, 0xFFFFFFFF, 0, 0, 0, 0, 0, 0, 0⟩
  , ⟨"ROUTE_SRC_POOL", 0x3A800, 1, 0x4, 1, 0x4, 0, 0xFF, 0, 0, 0, 0, 0, 0, 0x80⟩
  , ⟨"ROUTE_DP_CFG", 0x3C000, 8, 0x10, 1, 0x4, 0xFFFFF9FF, 0, 0, 0, 0, 0, 0, 0, 0xF000⟩
  , ⟨"ROUTE_DP_ACT", 0x3C004, 8, 0x10, 1, 0x4, 0, 0xFFFFFFFF, 0, 0, 0, 0, 0, 0, 0xF000⟩
  , ⟨"ROUTE_DP_STATUS", 0x3C008, 8, 0x10, 1, 0x4, 0, 0x7, 0, 0, 0, 0, 0, 0, 0⟩ ]

def portRows0 : List RegDesc :=
  [ ⟨"PORT_U_CTRL TDM", 0x40000, 8, 0x200, 1, 0x4, 0x2C, 0, 0x13, 0, 0, 0, 0, 0, 0⟩
  , ⟨"PORT_U_STATUS TDM", 0x40004, 8, 0x200, 1, 0x4, 0, 0x1FFFFF, 0, 0, 0, 0, 0, 0, 0⟩
  , ⟨"PORT_U_EVENT TDM", 0x40008, 8, 0x200, 1, 0x4, 0, 0, 0, 0xFFF, 0, 0, 0, 0, 0⟩
  , ⟨"PORT_U_EVENT_EN TDM", 0x4000C, 8, 0x200, 1, 0x4, 0xFFF, 0, 0, 0, 0, 0, 0, 0, 0⟩
  , ⟨"PORT_U_AT_LO TDM", 0x40010, 8, 0x200, 1, 0x4, 0xFFFFFFFF, 0, 0, 0, 0, 0, 0, 0, 0⟩
  , ⟨"PORT_U_AT_HI TDM", 0x40014, 8, 0x200, 1, 0x4, 0xFFFFFFFF, 0, 0, 0, 0, 0, 0, 0, 0⟩
  , ⟨"PORT_U_RATE_MEAS TDM", 0x40018, 8, 0x200, 1, 0x4, 0, 0x3FFFFF, 0, 0, 0, 0, 0, 0, 0⟩
  , ⟨"PORT_U_CNT16 TDM", 0x4001C, 8, 0x200, 1, 0x4, 0, 0, 0, 0, 0xFFFFFFFF, 0, 0, 0, 0⟩
  , ⟨"PORT_U_CNT TDM", 0x40020, 8, 0x200, 7, 0x4, 0, 0xFFFFFFFF, 0, 0, 0, 0, 0, 0, 0⟩
  , ⟨"PORT_U_WRAP TDM", 0x4003C, 8, 0x200, 1, 0x4, 0, 0, 0, 0x7F, 0, 0, 0, 0, 0⟩
  , ⟨"PORT_TDM_CFG", 0x40040, 8, 0x200, 1, 0x4, 0xFFFFFF, 0, 0, 0, 0, 0, 0, 0, 0x4C0818⟩
  , ⟨"PORT_U_CTRL AESRX", 0x44000, 8, 0x200, 1, 0x4, 0x2C, 0, 0x13, 0, 0, 0, 0, 0, 0⟩
  , ⟨"PORT_U_STATUS AESRX", 0x44004, 8, 0x200, 1, 0x4, 0, 0x1FFFFF, 0, 0, 0, 0, 0, 0, 0⟩
  , ⟨"PORT_U_EVENT AESRX", 0x44008, 8, 0x200, 1, 0x4, 0, 0, 0, 0xFFF, 0, 0, 0, 0, 0⟩
  , ⟨"PORT_U_EVENT_EN AESRX", 0x4400C, 8, 0x200, 1, 0x4, 0xFFF, 0, 0, 0, 0, 0, 0, 0, 0⟩
  , ⟨"PORT_U_AT_LO AESRX", 0x44010, 8, 0x200, 1, 0x4, 0xFFFFFFFF, 0, 0, 0, 0, 0, 0, 0, 0⟩
  , ⟨"PORT_U_AT_HI AESRX", 0x44014, 8, 0x200, 1, 0x4, 0xFFFFFFFF, 0, 0, 0, 0, 0, 0, 0, 0⟩
  , ⟨"PORT_U_RATE_MEAS AESRX", 0x44018, 8, 0x200, 1, 0x4, 0, 0x3FFFFF, 0, 0, 0, 0, 0, 0, 0⟩
  , ⟨"PORT_U_CNT16 AESRX", 0x4401C, 8, 0x200, 1, 0x4, 0, 0, 0, 0, 0xFFFFFFFF, 0, 0, 0, 0⟩
  , ⟨"PORT_U_CNT AESRX", 0x44020, 8, 0x200, 7, 0x4, 0, 0xFFFFFFFF, 0, 0, 0, 0, 0, 0, 0⟩
  , ⟨"PORT_U_WRAP AESRX", 0x4403C, 8, 0x200, 1, 0x4, 0, 0, 0, 0x7F, 0, 0, 0, 0, 0⟩
  , ⟨"PORT_AESRX_CFG", 0x44040, 8, 0x200, 1, 0x4, 0x3F, 0, 0, 0, 0, 0, 0, 0, 0x7⟩
  , ⟨"PORT_AESRX_RXSTAT", 0x44044, 8, 0x200, 1, 0x4, 0, 0x7F, 0, 0, 0, 0, 0, 0, 0x7⟩
  , ⟨"PORT_AESRX_V_CNT", 0x44048, 8, 0x200, 1, 0x4, 0, 0xFFFFFFFF, 0, 0, 0, 0, 0, 0, 0⟩ ]

def portRows1 : List RegDesc :=
  [ ⟨"PORT_AESRX_CS_SEQ", 0x4404C, 8, 0x200, 1, 0x4, 0, 0xFFFF, 0, 0, 0, 0, 0, 0, 0⟩
  , ⟨"PORT_AESRX_CS_A", 0x44050, 8, 0x200, 6, 0x4, 0, 0xFFFFFFFF, 0, 0, 0, 0, 0, 0, 0⟩
  , ⟨"PORT_AESRX_CS_B", 0x44068, 8, 0x200, 6, 0x4, 0, 0xFFFFFFFF, 0, 0, 0, 0, 0, 0, 0⟩
  , ⟨"PORT_AESRX_U_A", 0x44080, 8, 0x200, 6, 0x4, 0, 0xFFFFFFFF, 0, 0, 0, 0, 0, 0, 0⟩
  , ⟨"PORT_AESRX_U_B", 0x44098, 8, 0x200, 6, 0x4, 0, 0xFFFFFFFF, 0, 0, 0, 0, 0, 0, 0⟩
  , ⟨"PORT_U_CTRL AESTX", 0x45000, 8, 0x200, 1, 0x4, 0x2C, 0, 0x13, 0, 0, 0, 0, 0, 0⟩
  , ⟨"PORT_U_STATUS AESTX", 0x45004, 8, 0x200, 1, 0x4, 0, 0x1FFFFF, 0, 0, 0, 0, 0, 0, 0⟩
  , ⟨"PORT_U_EVENT AESTX", 0x45008, 8, 0x200, 1, 0x4, 0, 0, 0, 0xFFF, 0, 0, 0, 0, 0⟩
  , ⟨"PORT_U_EVENT_EN AESTX", 0x4500C, 8, 0x200, 1, 0x4, 0xFFF, 0, 0, 0, 0, 0, 0, 0, 0⟩
  , ⟨"PORT_U_AT_LO AESTX", 0x45010, 8, 0x200, 1, 0x4, 0xFFFFFFFF, 0, 0, 0, 0, 0, 0, 0, 0⟩
  , ⟨"PORT_U_AT_HI AESTX", 0x45014, 8, 0x200, 1, 0x4, 0xFFFFFFFF, 0, 0, 0, 0, 0, 0, 0, 0⟩
  , ⟨"PORT_U_RATE_MEAS AESTX", 0x45018, 8, 0x200, 1, 0x4, 0, 0x3FFFFF, 0, 0, 0, 0, 0, 0, 0⟩
  , ⟨"PORT_U_CNT16 AESTX", 0x4501C, 8, 0x200, 1, 0x4, 0, 0, 0, 0, 0xFFFFFFFF, 0, 0, 0, 0⟩
  , ⟨"PORT_U_CNT AESTX", 0x45020, 8, 0x200, 7, 0x4, 0, 0xFFFFFFFF, 0, 0, 0, 0, 0, 0, 0⟩
  , ⟨"PORT_U_WRAP AESTX", 0x4503C, 8, 0x200, 1, 0x4, 0, 0, 0, 0x7F, 0, 0, 0, 0, 0⟩
  , ⟨"PORT_AESTX_CFG", 0x45040, 8, 0x200, 1, 0x4, 0x3FFFF, 0, 0, 0, 0, 0, 0, 0, 0x4002⟩
  , ⟨"PORT_AESTX_TXSTAT", 0x45044, 8, 0x200, 1, 0x4, 0, 0x1, 0, 0, 0, 0, 0, 0, 0⟩
  , ⟨"PORT_U_CTRL MADI", 0x48000, 2, 0x400, 1, 0x4, 0x2C, 0, 0x13, 0, 0, 0, 0, 0, 0⟩
  , ⟨"PORT_U_STATUS MADI", 0x48004, 2, 0x400, 1, 0x4, 0, 0x1FFFFF, 0, 0, 0, 0, 0, 0, 0⟩
  , ⟨"PORT_U_EVENT MADI", 0x48008, 2, 0x400, 1, 0x4, 0, 0, 0, 0xFFF, 0, 0, 0, 0, 0⟩
  , ⟨"PORT_U_EVENT_EN MADI", 0x4800C, 2, 0x400, 1, 0x4, 0xFFF, 0, 0, 0, 0, 0, 0, 0, 0⟩
  , ⟨"PORT_U_AT_LO MADI", 0x48010, 2, 0x400, 1, 0x4, 0xFFFFFFFF, 0, 0, 0, 0, 0, 0, 0, 0⟩
  , ⟨"PORT_U_AT_HI MADI", 0x48014, 2, 0x400, 1, 0x4, 0xFFFFFFFF, 0, 0, 0, 0, 0, 0, 0, 0⟩
  , ⟨"PORT_U_RATE_MEAS MADI", 0x48018, 2, 0x400, 1, 0x4, 0, 0x3FFFFF, 0, 0, 0, 0, 0, 0, 0⟩ ]

def portRows2 : List RegDesc :=
  [ ⟨"PORT_U_CNT16 MADI", 0x4801C, 2, 0x400, 1, 0x4, 0, 0, 0, 0, 0xFFFFFFFF, 0, 0, 0, 0⟩
  , ⟨"PORT_U_CNT MADI", 0x48020, 2, 0x400, 7, 0x4, 0, 0xFFFFFFFF, 0, 0, 0, 0, 0, 0, 0⟩
  , ⟨"PORT_U_WRAP MADI", 0x4803C, 2, 0x400, 1, 0x4, 0, 0, 0, 0x7F, 0, 0, 0, 0, 0⟩
  , ⟨"PORT_MADI_CFG", 0x48040, 2, 0x400, 1, 0x4, 0x3FF, 0, 0, 0, 0, 0, 0, 0, 0x62⟩
  , ⟨"PORT_MADI_RXSTAT", 0x48044, 2, 0x400, 1, 0x4, 0, 0x1FF, 0, 0, 0, 0, 0, 0, 0⟩
  , ⟨"PORT_MADI_ACTIVE_LO", 0x48048, 2, 0x400, 1, 0x4, 0, 0xFFFFFFFF, 0, 0, 0, 0, 0, 0, 0⟩
  , ⟨"PORT_MADI_ACTIVE_HI", 0x4804C, 2, 0x400, 1, 0x4, 0, 0xFFFFFFFF, 0, 0, 0, 0, 0, 0, 0⟩
  , ⟨"PORT_MADI_VBITS_LO", 0x48050, 2, 0x400, 1, 0x4, 0, 0xFFFFFFFF, 0, 0, 0, 0, 0, 0, 0⟩
  , ⟨"PORT_MADI_VBITS_HI", 0x48054, 2, 0x400, 1, 0x4, 0, 0xFFFFFFFF, 0, 0, 0, 0, 0, 0, 0⟩
  , ⟨"PORT_MADI_CS_CAP", 0x48058, 2, 0x400, 1, 0x4, 0x13F, 0x200, 0, 0, 0, 0, 0, 0, 0⟩
  , ⟨"PORT_MADI_CS", 0x48060, 2, 0x400, 6, 0x4, 0, 0xFFFFFFFF, 0, 0, 0, 0, 0, 0, 0⟩
  , ⟨"PORT_MADI_V_CNT", 0x48078, 2, 0x400, 1, 0x4, 0, 0xFFFFFFFF, 0, 0, 0, 0, 0, 0, 0⟩
  , ⟨"PORT_START", 0x4C000, 1, 0x4, 1, 0x4, 0x6, 0, 0x9, 0, 0, 0, 0, 0, 0⟩
  , ⟨"PORT_START_STATUS", 0x4C004, 1, 0x4, 1, 0x4, 0, 0x3FF000F, 0, 0, 0, 0, 0, 0, 0⟩
  , ⟨"PORT_START_AT_LO", 0x4C008, 1, 0x4, 1, 0x4, 0xFFFFFFFF, 0, 0, 0, 0, 0, 0, 0, 0⟩
  , ⟨"PORT_START_AT_HI", 0x4C00C, 1, 0x4, 1, 0x4, 0xFFFFFFFF, 0, 0, 0, 0, 0, 0, 0, 0⟩
  , ⟨"PORT_FIRED_LO", 0x4C010, 1, 0x4, 1, 0x4, 0, 0, 0, 0, 0, 0, 0xFFFFFFFF, 0, 0⟩
  , ⟨"PORT_FIRED_HI", 0x4C014, 1, 0x4, 1, 0x4, 0, 0, 0, 0, 0, 0, 0, 0xFFFFFFFF, 0⟩
  , ⟨"PORT_EVENT", 0x4C018, 1, 0x4, 1, 0x4, 0, 0, 0, 0x7, 0, 0, 0, 0, 0⟩
  , ⟨"PORT_EVENT_EN", 0x4C01C, 1, 0x4, 1, 0x4, 0x7, 0, 0, 0, 0, 0, 0, 0, 0⟩
  , ⟨"PORT_DITHER_SEED", 0x4C020, 1, 0x4, 1, 0x4, 0xFFFFFFFF, 0, 0, 0, 0, 0, 0, 0, 0x1⟩
  , ⟨"PORT_CS_TPL", 0x4C100, 4, 0x20, 6, 0x4, 0xFFFFFFFF, 0, 0, 0, 0, 0, 0, 0, 0⟩ ]

def portRows : List RegDesc := portRows0 ++ portRows1 ++ portRows2

def siloRows0 : List RegDesc :=
  [ ⟨"SILO_S_CFG", 0x50000, 64, 0x40, 1, 0x4, 0xFF7F, 0, 0, 0, 0, 0, 0, 0, 0x400⟩
  , ⟨"SILO_S_MID", 0x50004, 64, 0x40, 1, 0x4, 0x1FFFF, 0, 0, 0, 0, 0, 0, 0, 0⟩
  , ⟨"SILO_S_MID_SIZE", 0x50008, 64, 0x40, 1, 0x4, 0x7FFF, 0, 0, 0, 0, 0, 0, 0, 0⟩
  , ⟨"SILO_S_CTRL", 0x5000C, 64, 0x40, 1, 0x4, 0, 0, 0x1F, 0, 0, 0, 0, 0, 0⟩
  , ⟨"SILO_S_USER", 0x50010, 64, 0x40, 1, 0x4, 0xFFFFFFFF, 0, 0, 0, 0, 0, 0, 0, 0⟩
  , ⟨"SILO_S_STATUS", 0x50014, 64, 0x40, 1, 0x4, 0, 0xFFF, 0, 0, 0, 0, 0, 0, 0x84⟩
  , ⟨"SILO_S_EVENT", 0x50018, 64, 0x40, 1, 0x4, 0, 0, 0, 0x1FF, 0, 0, 0, 0, 0⟩
  , ⟨"SILO_S_EVENT_EN", 0x5001C, 64, 0x40, 1, 0x4, 0x1FF, 0, 0, 0, 0, 0, 0, 0, 0⟩
  , ⟨"SILO_S_VIS", 0x50020, 64, 0x40, 1, 0x4, 0, 0xFFFFFFFF, 0, 0, 0, 0, 0, 0, 0⟩
  , ⟨"SILO_S_FREE", 0x50024, 64, 0x40, 1, 0x4, 0, 0xFFFFFFFF, 0, 0, 0, 0, 0, 0, 0⟩
  , ⟨"SILO_S_IN_CNT", 0x50028, 64, 0x40, 1, 0x4, 0, 0xFFFFFFFF, 0, 0, 0, 0, 0, 0, 0⟩
  , ⟨"SILO_S_OUT_CNT", 0x5002C, 64, 0x40, 1, 0x4, 0, 0xFFFFFFFF, 0, 0, 0, 0, 0, 0, 0⟩
  , ⟨"SILO_S_OVR_CNT", 0x50030, 64, 0x40, 1, 0x4, 0, 0xFFFFFFFF, 0, 0, 0, 0, 0, 0, 0⟩
  , ⟨"SILO_S_ERR_CNT", 0x50034, 64, 0x40, 1, 0x4, 0, 0, 0, 0, 0xFFFFFFFF, 0, 0, 0, 0⟩
  , ⟨"SILO_S_WM", 0x50038, 64, 0x40, 1, 0x4, 0xFFFFFF, 0, 0, 0, 0, 0, 0, 0, 0⟩
  , ⟨"SILO_S_SEQ", 0x5003C, 64, 0x40, 1, 0x4, 0, 0xFF, 0, 0, 0xFFFF0000, 0, 0, 0, 0⟩
  , ⟨"DMA_CFG", 0x58000, 8, 0x40, 1, 0x4, 0xFFFF00FF, 0, 0, 0, 0, 0, 0, 0, 0x640000⟩
  , ⟨"DMA_ADDR_LO", 0x58004, 8, 0x40, 1, 0x4, 0xFFFFFFFF, 0, 0, 0, 0, 0, 0, 0, 0⟩
  , ⟨"DMA_ADDR_HI", 0x58008, 8, 0x40, 1, 0x4, 0xFFFFFFFF, 0, 0, 0, 0, 0, 0, 0, 0⟩
  , ⟨"DMA_USER", 0x5800C, 8, 0x40, 1, 0x4, 0xFFFFFFFF, 0, 0, 0, 0, 0, 0, 0, 0⟩
  , ⟨"DMA_DESC", 0x58010, 8, 0x40, 1, 0x4, 0, 0, 0x7FFFFFFF, 0, 0, 0, 0, 0, 0⟩
  , ⟨"DMA_DONE", 0x58014, 8, 0x40, 1, 0x4, 0, 0, 0, 0, 0xFFFFFFFF, 0, 0, 0, 0⟩
  , ⟨"DMA_STATUS", 0x58018, 8, 0x40, 1, 0x4, 0, 0x1FFF, 0, 0, 0, 0, 0, 0, 0⟩
  , ⟨"DMA_EVENT", 0x5801C, 8, 0x40, 1, 0x4, 0, 0, 0, 0xF, 0, 0, 0, 0, 0⟩ ]

def siloRows1 : List RegDesc :=
  [ ⟨"DMA_EVENT_EN", 0x58020, 8, 0x40, 1, 0x4, 0xF, 0, 0, 0, 0, 0, 0, 0, 0⟩
  , ⟨"DMA_BYTES", 0x58024, 8, 0x40, 1, 0x4, 0, 0xFFFFFFFF, 0, 0, 0, 0, 0, 0, 0⟩
  , ⟨"SILO_EVT_SUM_LO", 0x5F000, 1, 0x4, 1, 0x4, 0, 0xFFFFFFFF, 0, 0, 0, 0, 0, 0, 0⟩
  , ⟨"SILO_EVT_SUM_HI", 0x5F004, 1, 0x4, 1, 0x4, 0, 0xFFFFFFFF, 0, 0, 0, 0, 0, 0, 0⟩ ]

def siloRows : List RegDesc := siloRows0 ++ siloRows1

def memRows : List RegDesc :=
  [ ⟨"MEM_CTRL", 0x60000, 1, 0x4, 1, 0x4, 0, 0, 0, 0, 0, 0x3, 0, 0, 0⟩
  , ⟨"MEM_CFG", 0x60004, 1, 0x4, 1, 0x4, 0xFF1F, 0, 0, 0, 0, 0, 0, 0, 0x3203⟩
  , ⟨"MEM_STATUS", 0x60008, 1, 0x4, 1, 0x4, 0, 0xFFFF003F, 0, 0, 0, 0, 0, 0, 0⟩
  , ⟨"MEM_EVENT", 0x6000C, 1, 0x4, 1, 0x4, 0, 0, 0, 0xF, 0, 0, 0, 0, 0⟩
  , ⟨"MEM_EVENT_EN", 0x60010, 1, 0x4, 1, 0x4, 0xF, 0, 0, 0, 0, 0, 0, 0, 0⟩
  , ⟨"MEM_LATE_CNT", 0x60014, 1, 0x4, 1, 0x4, 0, 0xFFFFFFFF, 0, 0, 0, 0, 0, 0, 0⟩
  , ⟨"MEM_BURSTS_LO", 0x60018, 1, 0x4, 1, 0x4, 0, 0, 0, 0, 0, 0, 0xFFFFFFFF, 0, 0⟩
  , ⟨"MEM_BURSTS_HI", 0x6001C, 1, 0x4, 1, 0x4, 0, 0, 0, 0, 0, 0, 0, 0xFFFFFFFF, 0⟩ ]

def msixRows : List RegDesc :=
  [ ⟨"MSIX_ADDR_LO", 0x80000, 64, 0x10, 1, 0x4, 0xFFFFFFFF, 0, 0, 0, 0, 0, 0, 0, 0⟩
  , ⟨"MSIX_ADDR_HI", 0x80004, 64, 0x10, 1, 0x4, 0xFFFFFFFF, 0, 0, 0, 0, 0, 0, 0, 0⟩
  , ⟨"MSIX_DATA", 0x80008, 64, 0x10, 1, 0x4, 0xFFFFFFFF, 0, 0, 0, 0, 0, 0, 0, 0⟩
  , ⟨"MSIX_VCTRL", 0x8000C, 64, 0x10, 1, 0x4, 0x1, 0, 0, 0, 0, 0, 0, 0, 0x1⟩
  , ⟨"MSIX_PBA", 0x80800, 2, 0x4, 1, 0x4, 0, 0xFFFFFFFF, 0, 0, 0, 0, 0, 0, 0⟩ ]

def anaInRows : List RegDesc :=
  [ ⟨"ANA_IN_SUM", 0x70000, 1, 0x4, 1, 0x4, 0, 0xFFFF, 0, 0, 0, 0, 0, 0, 0⟩
  , ⟨"ANA_PHANTOM", 0x70100, 1, 0x4, 1, 0x4, 0, 0, 0, 0, 0, 0xFFFF, 0, 0, 0⟩
  , ⟨"ANA_PH_CFG", 0x70104, 1, 0x4, 1, 0x4, 0xFF1F, 0, 0, 0, 0, 0, 0, 0, 0x2C0A⟩
  , ⟨"ANA_IN_CFG", 0x70400, 16, 0x20, 1, 0x4, 0x1FFF, 0, 0, 0, 0, 0, 0, 0, 0x50⟩
  , ⟨"ANA_IN_STATUS", 0x70404, 16, 0x20, 1, 0x4, 0, 0x3FF, 0, 0, 0, 0, 0, 0, 0⟩
  , ⟨"ANA_IN_EVENT", 0x70408, 16, 0x20, 1, 0x4, 0, 0, 0, 0x1F, 0, 0, 0, 0, 0⟩
  , ⟨"ANA_IN_EVENT_EN", 0x7040C, 16, 0x20, 1, 0x4, 0x1F, 0, 0, 0, 0, 0, 0, 0, 0⟩
  , ⟨"ANA_IN_CLIP_CNT", 0x70410, 16, 0x20, 1, 0x4, 0, 0xFFFFFFFF, 0, 0, 0, 0, 0, 0, 0⟩
  , ⟨"ANA_IN_XO_CNT", 0x70414, 16, 0x20, 1, 0x4, 0, 0xFFFFFFFF, 0, 0, 0, 0, 0, 0, 0⟩
  , ⟨"ANA_IN_MATCH", 0x70418, 16, 0x20, 1, 0x4, 0, 0xFFFF, 0, 0, 0, 0, 0, 0, 0⟩
  , ⟨"ANA_IN_PEAK", 0x7041C, 16, 0x20, 1, 0x4, 0, 0, 0, 0, 0xFFFFFFFF, 0, 0, 0, 0⟩ ]

def anaOutRows : List RegDesc :=
  [ ⟨"ANA_OUT_CFG", 0x72000, 1, 0x4, 1, 0x4, 0xF3, 0, 0, 0, 0, 0, 0, 0, 0x42⟩
  , ⟨"ANA_OUT_SUM", 0x72004, 1, 0x4, 1, 0x4, 0, 0x3FFFF, 0, 0, 0, 0, 0, 0, 0⟩
  , ⟨"ANA_MUTE[0]", 0x72100, 1, 0x4, 1, 0x4, 0xF, 0x10, 0, 0, 0, 0, 0, 0, 0x19⟩
  , ⟨"ANA_MUTE[1]", 0x72104, 1, 0x4, 1, 0x4, 0xF, 0x10, 0, 0, 0, 0, 0, 0, 0x1A⟩
  , ⟨"ANA_MUTE[2]", 0x72108, 1, 0x4, 1, 0x4, 0xF, 0x10, 0, 0, 0, 0, 0, 0, 0x1B⟩
  , ⟨"ANA_MUTE[3]", 0x7210C, 1, 0x4, 1, 0x4, 0xF, 0x10, 0, 0, 0, 0, 0, 0, 0x1C⟩
  , ⟨"ANA_O_CTRL OUT", 0x72400, 16, 0x20, 1, 0x4, 0, 0, 0x3, 0, 0, 0, 0, 0, 0⟩
  , ⟨"ANA_O_CFG OUT", 0x72404, 16, 0x20, 1, 0x4, 0xF, 0, 0, 0, 0, 0, 0, 0, 0⟩
  , ⟨"ANA_O_STATUS OUT", 0x72408, 16, 0x20, 1, 0x4, 0, 0x7F, 0, 0, 0, 0, 0, 0, 0⟩
  , ⟨"ANA_O_EVENT OUT", 0x7240C, 16, 0x20, 1, 0x4, 0, 0, 0, 0x3F, 0, 0, 0, 0, 0⟩
  , ⟨"ANA_O_EVENT_EN OUT", 0x72410, 16, 0x20, 1, 0x4, 0x3F, 0, 0, 0, 0, 0, 0, 0, 0⟩
  , ⟨"ANA_O_CLIP_CNT OUT", 0x72414, 16, 0x20, 1, 0x4, 0, 0xFFFFFFFF, 0, 0, 0, 0, 0, 0, 0⟩
  , ⟨"ANA_O_CNT OUT", 0x72418, 16, 0x20, 1, 0x4, 0, 0, 0, 0, 0xFFFFFFFF, 0, 0, 0, 0⟩
  , ⟨"ANA_O_CTRL HP", 0x72800, 2, 0x20, 1, 0x4, 0, 0, 0x3, 0, 0, 0, 0, 0, 0⟩
  , ⟨"ANA_O_CFG HP", 0x72804, 2, 0x20, 1, 0x4, 0xFF, 0, 0, 0, 0, 0, 0, 0, 0xA4⟩
  , ⟨"ANA_O_STATUS HP", 0x72808, 2, 0x20, 1, 0x4, 0, 0x7F, 0, 0, 0, 0, 0, 0, 0⟩
  , ⟨"ANA_O_EVENT HP", 0x7280C, 2, 0x20, 1, 0x4, 0, 0, 0, 0x3F, 0, 0, 0, 0, 0⟩
  , ⟨"ANA_O_EVENT_EN HP", 0x72810, 2, 0x20, 1, 0x4, 0x3F, 0, 0, 0, 0, 0, 0, 0, 0⟩
  , ⟨"ANA_O_CLIP_CNT HP", 0x72814, 2, 0x20, 1, 0x4, 0, 0xFFFFFFFF, 0, 0, 0, 0, 0, 0, 0⟩
  , ⟨"ANA_O_CNT HP", 0x72818, 2, 0x20, 1, 0x4, 0, 0, 0, 0, 0xFFFFFFFF, 0, 0, 0, 0⟩ ]

def psRows0 : List RegDesc :=
  [ ⟨"PS_CTRL", 0x74000, 1, 0x4, 1, 0x4, 0, 0, 0, 0, 0, 0xF, 0, 0, 0⟩
  , ⟨"PS_CLEAR", 0x74004, 1, 0x4, 1, 0x4, 0, 0, 0, 0, 0, 0xF, 0, 0, 0⟩
  , ⟨"PS_CFG", 0x74008, 1, 0x4, 1, 0x4, 0x3FFFF, 0, 0, 0, 0, 0, 0, 0, 0x11E74⟩
  , ⟨"PS_STATUS", 0x7400C, 1, 0x4, 1, 0x4, 0, 0x7FFFFF, 0, 0, 0, 0, 0, 0, 0xFF294⟩
  , ⟨"PS_PVDD", 0x74010, 1, 0x4, 1, 0x4, 0, 0xFF0FFF, 0, 0, 0, 0, 0, 0, 0⟩
  , ⟨"PS_SUM", 0x74014, 1, 0x4, 1, 0x4, 0, 0x1F, 0, 0, 0, 0, 0, 0, 0⟩
  , ⟨"PS_EVENT", 0x74018, 1, 0x4, 1, 0x4, 0, 0, 0, 0x7F, 0, 0, 0, 0, 0⟩
  , ⟨"PS_EVENT_EN", 0x7401C, 1, 0x4, 1, 0x4, 0x7F, 0, 0, 0, 0, 0, 0, 0, 0⟩
  , ⟨"PS_AM", 0x74020, 8, 0x4, 1, 0x4, 0xFFF, 0, 0, 0, 0, 0, 0, 0, 0⟩
  , ⟨"PSC_CTRL", 0x74400, 4, 0x100, 1, 0x4, 0, 0, 0x3, 0, 0, 0, 0, 0, 0⟩
  , ⟨"PSC_CFG[0]", 0x74404, 1, 0x4, 1, 0x4, 0xFFFFF, 0, 0, 0, 0, 0, 0, 0, 0x10618⟩
  , ⟨"PSC_LC", 0x74408, 4, 0x100, 1, 0x4, 0xFFFFFFFF, 0, 0, 0, 0, 0, 0, 0, 0⟩
  , ⟨"PSC_ILIM", 0x7440C, 4, 0x100, 1, 0x4, 0xFF7F, 0, 0, 0, 0, 0, 0, 0, 0x323C⟩
  , ⟨"PSC_STATUS", 0x74410, 4, 0x100, 1, 0x4, 0, 0x77FFF, 0, 0, 0, 0, 0, 0, 0⟩
  , ⟨"PSC_EVENT", 0x74414, 4, 0x100, 1, 0x4, 0, 0, 0, 0x3FFF, 0, 0, 0, 0, 0⟩
  , ⟨"PSC_EVENT_EN", 0x74418, 4, 0x100, 1, 0x4, 0x3FFF, 0, 0, 0, 0, 0, 0, 0, 0⟩
  , ⟨"PSC_SHUT_CNT", 0x7441C, 4, 0x100, 1, 0x4, 0, 0xFFFFFFFF, 0, 0, 0, 0, 0, 0, 0⟩
  , ⟨"PSC_ILIM_CNT", 0x74420, 4, 0x100, 1, 0x4, 0, 0xFFFFFFFF, 0, 0, 0, 0, 0, 0, 0⟩
  , ⟨"PSC_CLIP_CNT", 0x74424, 4, 0x100, 1, 0x4, 0, 0xFFFFFFFF, 0, 0, 0, 0, 0, 0, 0⟩
  , ⟨"PSC_GR", 0x74428, 4, 0x100, 1, 0x4, 0, 0xFFFF, 0, 0, 0, 0, 0, 0, 0⟩
  , ⟨"PSC_RE_NOM", 0x74440, 4, 0x100, 1, 0x4, 0xFFFFFFFF, 0, 0, 0, 0, 0, 0, 0, 0⟩
  , ⟨"PSC_BL", 0x74444, 4, 0x100, 1, 0x4, 0xFFFFFFFF, 0, 0, 0, 0, 0, 0, 0, 0⟩
  , ⟨"PSC_MMS", 0x74448, 4, 0x100, 1, 0x4, 0xFFFFFFFF, 0, 0, 0, 0, 0, 0, 0, 0⟩
  , ⟨"PSC_CMS", 0x7444C, 4, 0x100, 1, 0x4, 0xFFFFFFFF, 0, 0, 0, 0, 0, 0, 0, 0⟩ ]

def psRows1 : List RegDesc :=
  [ ⟨"PSC_RMS", 0x74450, 4, 0x100, 1, 0x4, 0xFFFFFFFF, 0, 0, 0, 0, 0, 0, 0, 0⟩
  , ⟨"PSC_XMAX", 0x74454, 4, 0x100, 1, 0x4, 0xFFFFFFFF, 0, 0, 0, 0, 0, 0, 0, 0⟩
  , ⟨"PSC_XLIM_CFG", 0x74458, 4, 0x100, 1, 0x4, 0xFFFF, 0, 0, 0, 0, 0, 0, 0, 0xA5A⟩
  , ⟨"PSC_THERM_CFG", 0x7445C, 4, 0x100, 1, 0x4, 0xFF01FFFF, 0, 0, 0, 0, 0, 0, 0, 0x19009619⟩
  , ⟨"PSC_RTV", 0x74460, 4, 0x100, 1, 0x4, 0xFFFFFFFF, 0, 0, 0, 0, 0, 0, 0, 0⟩
  , ⟨"PSC_TAUV", 0x74464, 4, 0x100, 1, 0x4, 0xFFFFFFFF, 0, 0, 0, 0, 0, 0, 0, 0⟩
  , ⟨"PSC_RTM", 0x74468, 4, 0x100, 1, 0x4, 0xFFFFFFFF, 0, 0, 0, 0, 0, 0, 0, 0⟩
  , ⟨"PSC_TAUM", 0x7446C, 4, 0x100, 1, 0x4, 0xFFFFFFFF, 0, 0, 0, 0, 0, 0, 0, 0⟩
  , ⟨"PSC_PILOT", 0x74470, 4, 0x100, 1, 0x4, 0xFFFF, 0, 0, 0, 0, 0, 0, 0, 0x1064⟩
  , ⟨"PSC_RE_MEAS", 0x74480, 4, 0x100, 1, 0x4, 0, 0xFFFFFFFF, 0, 0, 0, 0, 0, 0, 0⟩
  , ⟨"PSC_T_COIL", 0x74484, 4, 0x100, 1, 0x4, 0, 0xFFFFFFFF, 0, 0, 0, 0, 0, 0, 0⟩
  , ⟨"PSC_X_PEAK", 0x74488, 4, 0x100, 1, 0x4, 0, 0, 0, 0, 0xFFFFFFFF, 0, 0, 0, 0⟩
  , ⟨"PSC_BQ", 0x74490, 4, 0x100, 5, 0x4, 0xFFFFFFFF, 0, 0, 0, 0, 0, 0, 0, 0⟩
  , ⟨"PSC_CFG[1]", 0x74504, 1, 0x4, 1, 0x4, 0xFFFFF, 0, 0, 0, 0, 0, 0, 0, 0x12618⟩
  , ⟨"PSC_CFG[2]", 0x74604, 1, 0x4, 1, 0x4, 0xFFFFF, 0, 0, 0, 0, 0, 0, 0, 0x14618⟩
  , ⟨"PSC_CFG[3]", 0x74704, 1, 0x4, 1, 0x4, 0xFFFFF, 0, 0, 0, 0, 0, 0, 0, 0x16618⟩ ]

def psRows : List RegDesc := psRows0 ++ psRows1

def mcvRows0 : List RegDesc :=
  [ ⟨"MCV_SUM", 0x76000, 1, 0x4, 1, 0x4, 0, 0x1F, 0, 0, 0, 0, 0, 0, 0⟩
  , ⟨"MCV_MAINS", 0x76004, 1, 0x4, 1, 0x4, 0x1FFF, 0, 0, 0, 0, 0, 0, 0, 0x1388⟩
  , ⟨"MCV_REF_CTRL", 0x76008, 1, 0x4, 1, 0x4, 0x1, 0, 0, 0, 0, 0, 0, 0, 0⟩
  , ⟨"MCV_REF_STATUS", 0x7600C, 1, 0x4, 1, 0x4, 0, 0x3F, 0, 0, 0, 0, 0, 0, 0⟩
  , ⟨"MCV_EVENT", 0x76010, 1, 0x4, 1, 0x4, 0, 0, 0, 0x7, 0, 0, 0, 0, 0⟩
  , ⟨"MCV_EVENT_EN", 0x76014, 1, 0x4, 1, 0x4, 0x7, 0, 0, 0, 0, 0, 0, 0, 0⟩
  , ⟨"MCV_OW_CTRL", 0x76020, 1, 0x4, 1, 0x4, 0xFFFFF, 0, 0, 0, 0, 0, 0, 0, 0⟩
  , ⟨"MCV_OW_CFG", 0x76024, 1, 0x4, 1, 0x4, 0x77, 0, 0, 0, 0, 0, 0, 0, 0x72⟩
  , ⟨"MCV_OW_STATUS", 0x76028, 1, 0x4, 1, 0x4, 0, 0xFFFFFFF, 0, 0, 0, 0, 0, 0, 0⟩
  , ⟨"MCV_MTRIG_CFG", 0x76030, 1, 0x4, 1, 0x4, 0xFF00FF, 0, 0, 0, 0, 0, 0, 0, 0xA000A⟩
  , ⟨"MCV_MTRIG_CNT", 0x76034, 1, 0x4, 1, 0x4, 0, 0, 0, 0, 0xFFFFFFFF, 0, 0, 0, 0⟩
  , ⟨"MCV_PLAUS_CFG", 0x76040, 2, 0x8, 1, 0x4, 0xFFFF03FF, 0, 0, 0, 0, 0, 0, 0, 0xA3201F4⟩
  , ⟨"MCV_PLAUS_STATUS", 0x76044, 2, 0x8, 1, 0x4, 0, 0x1, 0, 0, 0xFFFFFF00, 0, 0, 0, 0⟩
  , ⟨"MCVC_CTRL", 0x76100, 4, 0x80, 1, 0x4, 0x2, 0, 0x5, 0, 0, 0, 0, 0, 0⟩
  , ⟨"MCVC_CFG", 0x76104, 4, 0x80, 1, 0x4, 0x7FFFFF, 0, 0, 0, 0, 0, 0, 0, 0x81F⟩
  , ⟨"MCVC_TIMING", 0x76108, 4, 0x80, 1, 0x4, 0xFFFFFFFF, 0, 0, 0, 0, 0, 0, 0, 0x3E8⟩
  , ⟨"MCVC_STATUS", 0x7610C, 4, 0x80, 1, 0x4, 0, 0x3FF, 0, 0, 0, 0, 0, 0, 0⟩
  , ⟨"MCVC_EVENT", 0x76110, 4, 0x80, 1, 0x4, 0, 0, 0, 0x1FF, 0, 0, 0, 0, 0⟩
  , ⟨"MCVC_EVENT_EN", 0x76114, 4, 0x80, 1, 0x4, 0x1FF, 0, 0, 0, 0, 0, 0, 0, 0⟩
  , ⟨"MCVC_RES_LO", 0x76118, 4, 0x80, 1, 0x4, 0, 0, 0, 0, 0, 0, 0xFFFFFFFF, 0, 0⟩
  , ⟨"MCVC_RES_HI", 0x7611C, 4, 0x80, 1, 0x4, 0, 0, 0, 0, 0, 0, 0, 0xFFF03FF, 0⟩
  , ⟨"MCVC_RAW_LO", 0x76120, 4, 0x80, 1, 0x4, 0, 0, 0, 0, 0, 0, 0xFFFFFFFF, 0, 0⟩
  , ⟨"MCVC_RAW_HI", 0x76124, 4, 0x80, 1, 0x4, 0, 0, 0, 0, 0, 0, 0, 0xFFF03FF, 0⟩
  , ⟨"MCVC_TS_LO", 0x76128, 4, 0x80, 1, 0x4, 0, 0, 0, 0, 0, 0, 0xFFFFFFFF, 0, 0⟩ ]

def mcvRows1 : List RegDesc :=
  [ ⟨"MCVC_TS_HI", 0x7612C, 4, 0x80, 1, 0x4, 0, 0, 0, 0, 0, 0, 0, 0xFFFFFFFF, 0⟩
  , ⟨"MCVC_CNT", 0x76130, 4, 0x80, 1, 0x4, 0, 0, 0, 0, 0xFFFFFFFF, 0, 0, 0, 0⟩
  , ⟨"MCVC_DONE_CNT", 0x76134, 4, 0x80, 1, 0x4, 0, 0xFFFFFFFF, 0, 0, 0, 0, 0, 0, 0⟩
  , ⟨"MCVC_CALF_OFS", 0x76140, 4, 0x80, 4, 0x8, 0xFFFFFF, 0, 0, 0, 0, 0, 0, 0, 0⟩
  , ⟨"MCVC_CALF_GAIN", 0x76144, 4, 0x80, 4, 0x8, 0xFFFFFFFF, 0, 0, 0, 0, 0, 0, 0, 0⟩ ]

def mcvRows : List RegDesc := mcvRows0 ++ mcvRows1

def speltRows0 : List RegDesc :=
  [ ⟨"SPELT_CFG", 0x100000, 1, 0x4, 1, 0x4, 0xF, 0, 0, 0, 0, 0, 0, 0, 0x3⟩
  , ⟨"SPELT_RUN", 0x100004, 1, 0x4, 1, 0x4, 0, 0xFFFF, 0, 0, 0, 0, 0, 0, 0⟩
  , ⟨"SPELT_XP_USED", 0x100008, 1, 0x4, 1, 0x4, 0, 0x7FFF, 0, 0, 0, 0, 0, 0, 0⟩
  , ⟨"SPELT_FUSE_VIEW", 0x10000C, 1, 0x4, 1, 0x4, 0, 0x3, 0, 0, 0, 0, 0, 0, 0⟩
  , ⟨"LANE_CTRL", 0x101000, 16, 0x100, 1, 0x4, 0xF38, 0, 0x7, 0, 0, 0, 0, 0, 0x400⟩
  , ⟨"LANE_STATUS", 0x101004, 16, 0x100, 1, 0x4, 0, 0x7FF, 0, 0, 0, 0, 0, 0, 0⟩
  , ⟨"LANE_EVENT", 0x101008, 16, 0x100, 1, 0x4, 0, 0, 0, 0x7FF, 0, 0, 0, 0, 0⟩
  , ⟨"LANE_EVENT_EN", 0x10100C, 16, 0x100, 1, 0x4, 0x7FF, 0, 0, 0, 0, 0, 0, 0, 0⟩
  , ⟨"LANE_XP", 0x101010, 16, 0x100, 1, 0x4, 0x7FFF3FFF, 0, 0, 0, 0, 0, 0, 0, 0⟩
  , ⟨"LANE_CYC_LAST", 0x101014, 16, 0x100, 1, 0x4, 0, 0xFFFFF, 0, 0, 0, 0, 0, 0, 0⟩
  , ⟨"LANE_CYC_MAX", 0x101018, 16, 0x100, 1, 0x4, 0, 0, 0, 0, 0xFFFFF, 0, 0, 0, 0⟩
  , ⟨"LANE_OVR_CNT", 0x10101C, 16, 0x100, 1, 0x4, 0, 0xFFFFFFFF, 0, 0, 0, 0, 0, 0, 0⟩
  , ⟨"LANE_STALL_LAST", 0x101020, 16, 0x100, 1, 0x4, 0, 0xFFFFF, 0, 0, 0, 0, 0, 0, 0⟩
  , ⟨"LANE_NAN_CNT", 0x101024, 16, 0x100, 1, 0x4, 0, 0xFFFFFFFF, 0, 0, 0, 0, 0, 0, 0⟩
  , ⟨"LANE_RUNS_LO", 0x101028, 16, 0x100, 1, 0x4, 0, 0, 0, 0, 0, 0, 0xFFFFFFFF, 0, 0⟩
  , ⟨"LANE_RUNS_HI", 0x10102C, 16, 0x100, 1, 0x4, 0, 0, 0, 0, 0, 0, 0, 0xFFFFFFFF, 0⟩
  , ⟨"LANE_TRAP", 0x101030, 16, 0x100, 1, 0x4, 0, 0xF0FFF, 0, 0, 0, 0, 0, 0, 0⟩
  , ⟨"LANE_DBG_CTRL", 0x101040, 16, 0x100, 1, 0x4, 0x8, 0, 0x7, 0, 0, 0, 0, 0, 0⟩
  , ⟨"LANE_DBG_STATUS", 0x101044, 16, 0x100, 1, 0x4, 0, 0xFFF7F, 0, 0, 0, 0, 0, 0, 0⟩
  , ⟨"LANE_BP", 0x101050, 16, 0x100, 4, 0x4, 0x9FFF, 0, 0, 0, 0, 0, 0, 0, 0⟩
  , ⟨"DQ_CFG", 0x103000, 32, 0x20, 1, 0x4, 0x17F, 0, 0, 0, 0, 0, 0, 0, 0x1⟩
  , ⟨"DQ_BASE", 0x103004, 32, 0x20, 1, 0x4, 0x7FFFFF, 0, 0, 0, 0, 0, 0, 0, 0⟩
  , ⟨"DQ_LEN", 0x103008, 32, 0x20, 1, 0x4, 0xFFFFFF, 0, 0, 0, 0, 0, 0, 0, 0x1000⟩
  , ⟨"DQ_STATUS", 0x10300C, 32, 0x20, 1, 0x4, 0, 0xFFFF001F, 0, 0, 0, 0, 0, 0, 0⟩ ]

def speltRows1 : List RegDesc :=
  [ ⟨"DQ_STALL_CNT", 0x103010, 32, 0x20, 1, 0x4, 0, 0xFFFFFFFF, 0, 0, 0, 0, 0, 0, 0⟩
  , ⟨"DQ_IDLE_CNT", 0x103014, 32, 0x20, 1, 0x4, 0, 0xFFFFFFFF, 0, 0, 0, 0, 0, 0, 0⟩
  , ⟨"DQTAP", 0x104000, 32, 0x100, 64, 0x4, 0xFFFFFF, 0, 0, 0, 0, 0, 0, 0, 0x18⟩ ]

def speltRows : List RegDesc := speltRows0 ++ speltRows1

def xpRows : List RegDesc :=
  [ ⟨"SPELT_XP", 0x110000, 16384, 0x4, 1, 0x4, 0xFFFFF, 0, 0, 0, 0, 0, 0, 0, 0xF8000⟩ ]

/-- The rows of the block that holds address `a` (Table 2.6). -/
def blockRows (a : Nat) : List RegDesc :=
  if a < 0x1000 then sysRows else
  if 0x1000 ≤ a ∧ a < 0x2000 then pwrRows else
  if 0x2000 ≤ a ∧ a < 0x3000 then vetRows else
  if 0x3000 ≤ a ∧ a < 0x4000 then synRows else
  if 0x4000 ≤ a ∧ a < 0x5000 then twinRows else
  if 0x5000 ≤ a ∧ a < 0x6000 then mpRows else
  if 0x6000 ≤ a ∧ a < 0x7000 then fuseRows else
  if 0x10000 ≤ a ∧ a < 0x18000 then netRows else
  if 0x18000 ≤ a ∧ a < 0x1C000 then netcRows else
  if 0x20000 ≤ a ∧ a < 0x30000 then flowRows else
  if 0x30000 ≤ a ∧ a < 0x40000 then routeRows else
  if 0x40000 ≤ a ∧ a < 0x50000 then portRows else
  if 0x50000 ≤ a ∧ a < 0x60000 then siloRows else
  if 0x60000 ≤ a ∧ a < 0x64000 then memRows else
  if 0x80000 ≤ a ∧ a < 0x81000 then msixRows else
  if 0x70000 ≤ a ∧ a < 0x72000 then anaInRows else
  if 0x72000 ≤ a ∧ a < 0x74000 then anaOutRows else
  if 0x74000 ≤ a ∧ a < 0x76000 then psRows else
  if 0x76000 ≤ a ∧ a < 0x80000 then mcvRows else
  if 0x100000 ≤ a ∧ a < 0x110000 then speltRows else
  if 0x110000 ≤ a ∧ a < 0x120000 then xpRows else
  []

end Sys2Proof.Machine
end

