-- ==== Sys2Proof/Machine/RegFile.lean ====
section
/-!
DEFINITION. The storage behind the register map: every register, table, window and memory that a host port reaches
(R54), as one list of (byte address, word) pairs in canonical form. A word that is not listed holds its reset value.
-/
namespace Sys2Proof.Machine

/-- The storage: word addresses strictly rising, no entry equal to what an unlisted address holds. -/
abbrev RegFile := List (Nat × Word)

/-- Whether address `a` is a word of the row's register or array. -/
def RegDesc.holds (d : RegDesc) (a : Nat) : Bool :=
  d.base ≤ a && (a - d.base) / d.s1 < d.c1 &&
    ((a - d.base) % d.s1) % d.s2 == 0 && ((a - d.base) % d.s1) / d.s2 < d.c2

/-- The first row of a list that holds address `a`. -/
def rowIn (a : Nat) : List RegDesc → Option RegDesc
  | [] => none
  | d :: t => if d.holds a then some d else rowIn a t

/-- The register map's row for address `a`: none where no register lies there. -/
def rowOf (a : Nat) : Option RegDesc := rowIn a (blockRows a)

/-- What a word that nothing has written since its reset holds: crosspoint entries 0x000F_8000 (R35, Table 8.3),
registers their table's reset value, memories zero (R35). -/
def resetOf (a : Nat) : Word :=
  match rowOf a with
  | some d => BitVec.ofNat 32 d.reset
  | none => 0

/-- The entry listed for address `a`. -/
def RegFile.find : RegFile → Nat → Option Word
  | [], _ => none
  | (b, w) :: t, a => if a = b then some w else RegFile.find t a

/-- The word at address `a`. -/
def RegFile.get (m : RegFile) (a : Nat) : Word := (m.find a).getD (resetOf a)

/-- Insertion at the entry's place in rising order. -/
def RegFile.put : RegFile → Nat → Word → RegFile
  | [], a, w => [(a, w)]
  | (b, x) :: t, a, w =>
    if a < b then (a, w) :: (b, x) :: t
    else if a = b then (a, w) :: t
    else (b, x) :: RegFile.put t a w

/-- Store word `w` at address `a`: a reset value takes the entry away. -/
def RegFile.set (m : RegFile) (a : Nat) (w : Word) : RegFile :=
  if w = resetOf a then m.filter (fun c => c.1 != a) else m.put a w

/-- Return every address that satisfies `p` to its reset value. -/
def RegFile.clear (m : RegFile) (p : Nat → Bool) : RegFile := m.filter (fun c => !p c.1)

/-- Every address of the file is at least `lo`, they rise strictly, and no entry equals its reset value. -/
def RegFile.wfFrom : Nat → RegFile → Bool
  | _, [] => true
  | lo, (a, w) :: t => decide (lo ≤ a) && decide (w ≠ resetOf a) && RegFile.wfFrom (a + 1) t

/-- The canonical form of the storage. -/
def RegFile.wf (m : RegFile) : Bool := RegFile.wfFrom 0 m

/-- The bits of a word that a field covers. -/
def Field.mask (f : Field) : Word := ((BitVec.allOnes 32) >>> (31 - (f.hi - f.lo))) <<< f.lo

/-- The value of a field in a word. -/
def Field.ofWord (f : Field) (w : Word) : Nat := ((w &&& f.mask) >>> f.lo).toNat

/-- A word with the field replaced by `v`, taken to the field's width. -/
def Field.inWord (f : Field) (w : Word) (v : Nat) : Word :=
  (w &&& ~~~f.mask) ||| ((BitVec.ofNat 32 v <<< f.lo) &&& f.mask)

end Sys2Proof.Machine
end

