-- ==== Sys2Proof/Machine/StAna.lean ====
section
/-!
DEFINITION. State of the analogue inputs and outputs beyond their registers (chapter 12).
-/
namespace Sys2Proof.Machine

/-- A sample in the combiner's delay: h' in 2^-47 of the combined full scale, l in 2^-23, and the weight of path L in eighths (R322). -/
structure CombEl where
  h : Int
  l : Int
  w : Nat
  deriving DecidableEq, Repr

/-- An analogue input (R322 to R332). -/
structure AinSt where
  /-- RANGE, DFILT and INV in use; the others act as written. -/
  range : Nat := 0
  dfilt : Nat := 0
  inv : Nat := 0
  /-- The present fade: whether it fades in, and the samples done. -/
  fade : Option (Bool × Nat) := none
  /-- The half steps of that fade in a core sample: 2, but in the fade-out of a core rate change, whose 64 samples are of the old rate
  (R453), 1 or 4. -/
  pace : Nat := 2
  /-- The input passes through SETTLING for a core rate change, its direct paths held (R453). -/
  rated : Bool := false
  /-- The sample index at which SETTLING began. -/
  settleFrom : Nat := 0
  /-- The source is held at zero for a phantom change, from the fade-out on (R331). -/
  hold : Bool := false
  /-- The combiner's samples, newest first, at most 8; the weight for the next sample; the count c. -/
  pipe : List CombEl := []
  w : Nat := 0
  c : Nat := 0
  /-- The last combined sample, in 2^-50 of full scale (R322). -/
  comb : Int := 0
  /-- The high-pass (R328): the corner in mHz moves from one to another over 64 core samples; its last input and output. -/
  hpFrom : Nat := 1000
  hpTo : Nat := 1000
  hpK : Nat := 64
  hpX : F32 := 0
  hpY : F32 := 0
  /-- The high-passed samples at 8 times the core rate, newest first, and how many belong to the frame in progress. -/
  stream : List F32 := []
  fresh : Nat := 0
  /-- Samples that serve the matching since the last EN or change of RANGE (R324). -/
  matched : Nat := 0
  /-- A sample has clipped in the present engine frame (R326). -/
  clip : Bool := false
  /-- The common-mode monitor: the class last found and how many samples in a row found it (R332). -/
  ph : Nat := 0
  agree : Nat := 4
  deriving DecidableEq, Repr

/-- An output (R334 to R338). -/
structure OutSt where
  /-- The present signal fade: whether it fades in, and the samples done. -/
  fade : Option (Bool × Nat) := none
  /-- Its pace, as in `AinSt.pace`. -/
  pace : Nat := 2
  /-- The output waits for its relay drivers before a ramp: up or down (R337). -/
  want : Option Bool := none
  /-- A STOP or an OFF waits for the ramp or fade in progress (R336). -/
  stopReq : Bool := false
  offReq : Bool := false
  /-- Faded out for a sibling's ramp (R337). -/
  grouped : Bool := false
  /-- HPDET: an interval not yet settled (R338). -/
  unstable : Bool := false
  /-- The jack mute's fade (R338). -/
  jackFade : Option (Bool × Nat) := none
  deriving DecidableEq, Repr

/-- The analogue block beyond its registers. -/
structure AnaSt where
  ins : List (Nat × AinSt) := []
  outs : List (Nat × OutSt) := []
  /-- The sink samples last taken for each channel of the outputs, by sink ID, newest first, for interpolation (R334). -/
  outPast : List (Nat × List F32) := []
  /-- Relay drivers whose last change is less than RELAY_T old (R337). -/
  relayWait : List Nat := []
  /-- A phantom word waits until the inputs it changes have faded out (R331), with those inputs. -/
  phSend : List Nat := []
  deriving DecidableEq, Repr

end Sys2Proof.Machine
end

