-- ==== Sys2Proof/Machine/StClk.lean ====
section
/-!
DEFINITION. State of the CLK domain beyond its registers: media time, Vetiver (chapter 3) and clock synthesis (chapter 4).
-/
namespace Sys2Proof.Machine

/-- The media time count (R99) and the pulse outputs that follow it (R103). -/
structure TimeSt where
  /-- The sample index; media time is this count divided by the core rate (R99). -/
  index : Nat := 0
  /-- Set from a step of media time to the boundary that ends the short frame (R8). -/
  shortFrame : Bool := false
  /-- The engine frame that begins at the present index has begun. -/
  begun : Bool := false
  /-- Core samples for which PPS_OUT still stays high. -/
  ppsLeft : Nat := 0
  /-- Core samples for which FRAME_OUT still stays high. -/
  frameLeft : Nat := 0
  /-- The level of WCLK_OUT. -/
  wclk : Bool := false
  /-- Cycles of ADPLL_0's DCO since CLK powered up, counted at each core sample (R109). -/
  cycles : Nat := 0
  deriving DecidableEq, Repr

/-- What Vetiver holds for one reference slot beyond its registers (R79 to R91). -/
structure VetSlot where
  /-- Media time of the last event seen, in 2^-16 ns. -/
  last : Option Nat := none
  /-- For each glitch within the last 64 periods, how many periods ago it was. -/
  glitches : List Nat := []
  /-- The latest phase offset, in 2^-16 ns. -/
  ofs : Int := 0
  /-- Whether the slot has been qualified for WTR seconds (R91). -/
  wtrDone : Bool := false
  /-- The rate code in use under RATE = AUTO; 1 (48 kHz) until a rate has been found (log entry 272). -/
  rate : Nat := 1
  /-- Video: the number of the last line pulse, counted from the frame pulse on VREF_F; none before the first (R79). -/
  line : Option Nat := none
  /-- Video: the media time of that line pulse. -/
  lineAt : Nat := 0
  /-- The events since the last comparison, as (time, offset), newest first, and the part of a comparison they make up (R79). -/
  group : List (Int × Int) := []
  phase : Nat := 0
  /-- PTP: the slot has been lost by a condition of Table 3.2, and a Sync and a Delay_Resp have come again since (R81; log entry 277). -/
  gone : Bool := false
  syncBack : Bool := false
  respBack : Bool := false
  /-- The absorbed offset the slot had when it last steered, in 2^-16 ns (R97; log entry 274). -/
  absorbed : Int := 0
  deriving DecidableEq, Repr

/-- What Vetiver sees of a PTP port (R81): a selected best master, its grandmaster and clockClass, and the logMessageInterval of
its Syncs (Table 3.2). -/
structure VetPtp where
  present : Bool := false
  gm : Nat := 0
  cls : Nat := 0
  sync : Int := 0
  deriving DecidableEq, Repr

/-- A switch in progress (R89): the target, the offsets collected as (time, offset), and the fit once measured. -/
structure VetSwitch where
  target : Nat
  points : List (Int × Int) := []
  measured : Bool := false
  deriving DecidableEq, Repr

/-- A realignment that is pending or running (R100 to R102). -/
structure VetRealign where
  op : Nat
  timed : Bool := false
  at_ : Nat := 0
  /-- Waiting for a switch to end (R101). -/
  deferred : Bool := false
  /-- Due at the next engine frame boundary (a step), or slewing. -/
  due : Bool := false
  slewing : Bool := false
  /-- What the slew moves VET.OFFSET by, in 2^-16 ns: for a step also what it moves media time by. -/
  remainder : Int := 0
  /-- SLEW_RATE as the operation was written (R101), and the core samples for which the slew has run. -/
  speed : Nat := 1
  ticks : Nat := 0
  deriving DecidableEq, Repr

/-- Vetiver beyond its registers (chapter 3). -/
structure VetSt where
  slots : List (Nat × VetSlot) := []
  ptp : List (Nat × VetPtp) := []
  /-- FW, in units of 2^-40 (R77). -/
  fw : Int := 0
  /-- The loop filter's word with 32 fractional bits, which carries its integral, and the phase error last compared (R93). -/
  integ : Int := 0
  lastErr : Option Int := none
  /-- The word FW moves to under the slew limit (R96), and the part of a unit that its moves have left over (R88, R96). -/
  want : Int := 0
  part : Nat := 0
  /-- The closed-loop word, or none where no slot steered, newest first, with how long each lasted in units of 1/96,000 s (R87). -/
  hist : List (Option Int × Nat) := []
  former : Option Nat := none
  /-- The slots whose FORMER second runs, oldest first (R82). -/
  formers : List Nat := []
  /-- A write of BW with no active slot, which waits for the slot that steers next (R95). -/
  bwDue : Bool := false
  formerOfs : Int := 0
  /-- The next comparison of the active slot is taken into VET.OFFSET (R90, R118). -/
  absorb : Bool := false
  switch : Option VetSwitch := none
  /-- The wait since the last commit or resume has passed (R91). -/
  settled : Bool := false
  /-- Comparisons suspended while ADPLL_0 coasts, and the target of a switch it cancelled (R118). -/
  suspended : Bool := false
  restart : Option Nat := none
  realign : Option VetRealign := none
  deriving DecidableEq, Repr

/-- What a clock output's pins show (R114, R120, R123): both legs low, high-impedance, or toggling: the source, the cycles of the
high and of the low phase, whether inverted, and the delays. -/
inductive CkPin where
  | low
  | highZ
  | toggling (src high low : Nat) (inv : Bool) (coarse fine : Nat)
  deriving DecidableEq, Repr

/-- The fields of a clock output that are in use, apart from those stored for the next enable (R123). -/
structure CkOut where
  src : Nat := 0
  type : Nat := 0
  inv : Bool := false
  stop : Bool := false
  div : Nat := 128
  coarse : Nat := 0
  fine : Nat := 0
  /-- The source cycle of the divider's last restart at a frame boundary, where its phase is known from it (R124). -/
  base : Option Nat := none
  /-- Enabled, and waiting for the divider edge or the aligned edge that starts it. -/
  starting : Bool := false
  /-- The start waits for an armed alignment event (R125). -/
  aligned : Bool := false
  deriving DecidableEq, Repr

/-- Clock synthesis beyond its registers (chapter 4). -/
structure SynSt where
  /-- OSC_SEL as latched when CLK powered up (R113). -/
  oscSel : Nat := 0
  xoOk : Bool := true
  oscOk : Bool := true
  /-- The word applied to ADPLL_0's feedback ratio (R108). -/
  fwApplied : Int := 0
  /-- ADPLL_1's ratio in use: INT, NUM and DEN (R110). -/
  int1 : Nat := 117
  num1 : Nat := 3
  den1 : Nat := 5
  /-- Dither generators of ADPLL_0 and ADPLL_1: the seed loaded, the modulator updates since, and what remains of the next (R111). -/
  lfsr0 : Nat := 1
  lfsr1 : Nat := 1
  upd0 : Nat := 0
  upd1 : Nat := 0
  part0 : Nat := 0
  /-- ADPLL_1 has been LOCKED since it last relocked (R119). -/
  run1 : Bool := false
  /-- ADPLL_1 has relocked since the last core sample, a loss for the units that it clocks (R311). -/
  lost1 : Bool := false
  /-- The DCO control a coasting ADPLL holds (R116). -/
  frozen : List (Nat × Int) := []
  /-- What each clock output's pins show (R118, R123). -/
  pins : List (Nat × CkPin) := []
  /-- What each clock output runs on: its source, divider, start and wait (R119, R123, R124). -/
  outs : List (Nat × CkOut) := []
  deriving DecidableEq, Repr

end Sys2Proof.Machine
end

