-- ==== Sys2Proof/Machine/StFlow.lean ====
section
/-!
DEFINITION. State of the audio flows beyond their registers (chapter 6).
-/
namespace Sys2Proof.Machine

/-- What a receive flow keeps for one port: the highest sequence number and the history of the 64 below it (R166). -/
structure RxSeq where
  high : Option Nat := none
  /-- Bit j − 1 is set where H − j was received. -/
  hist : Nat := 0
  deriving DecidableEq, Repr

/-- A receive flow that is not IDLE. -/
structure RxFlow where
  /-- F: the flow-rate index of the first sample not yet presented (R165). -/
  f : Nat := 0
  /-- The buffer: flow-rate index, and one received word for each channel. -/
  slots : List (Nat × List Nat) := []
  sa : RxSeq := {}
  sb : RxSeq := {}
  /-- Consecutive packets that were LATE or EARLY, and that were neither (R169). -/
  bad : Nat := 0
  good : Nat := 0
  /-- Start index S and stop index E at the flow rate, and where the stop fade begins (R180). -/
  start : Option Nat := none
  stop : Option Nat := none
  fadeFrom : Nat := 0
  /-- START was written with TIMED set, and without COMMON. -/
  timed : Bool := false
  /-- START with COMMON waits for the trigger; START is allocating; a STOP in ARMED; the stop index has passed. -/
  common : Bool := false
  allocating : Bool := true
  cancelled : Bool := false
  ended : Bool := false
  /-- Missing samples faded so far, and the fade back in (R168). -/
  miss : Nat := 0
  ret : Option Nat := none
  last : List F32 := []
  /-- Slots whose data DRAM has not returned in time (R168). -/
  dramLate : List Nat := []
  /-- Arrivals of the last second: sequence number, port, time in 2^-16 ns (R170). -/
  arrivals : List (Nat × Nat × Nat) := []
  /-- The rows last presented by flow-rate index, newest first, for the filter to the core rate (R201). -/
  past : List (Nat × List F32) := []
  deriving DecidableEq, Repr

/-- What the monitor of a receive flow has found in the present second (R170): whether each port delivered, the largest difference between
two copies, the smallest margin, and whether a packet was late. -/
structure RxMon where
  seenA : Bool := false
  seenB : Bool := false
  skew : Nat := 0
  margin : Option Nat := none
  late : Bool := false
  deriving DecidableEq, Repr

/-- A packet that waits for its launch time (R176). -/
structure TxPacket where
  first : Nat
  seq : Nat
  payload : List (BitVec 8)
  /-- L in 2^-16 ns. -/
  launch : Nat
  deriving DecidableEq, Repr

/-- A transmit flow that is not IDLE. -/
structure TxFlow where
  start : Option Nat := none
  timed : Bool := false
  stop : Option Nat := none
  fadeFrom : Nat := 0
  fadeTo : Nat := 0
  common : Bool := false
  allocating : Bool := true
  cancelled : Bool := false
  ended : Bool := false
  /-- The first flow-rate index not yet read from the sinks. -/
  done : Nat := 0
  /-- The payload of the packet being filled. -/
  part : List (BitVec 8) := []
  /-- The sink rows last read by core index, newest first, for the filter from the core rate (R201). -/
  past : List (Nat × List F32) := []
  lfsr : Nat := 1
  /-- Pool granules held, and the cost on each port in kb/s (R175, R178). -/
  granules : Nat := 0
  costA : Nat := 0
  costB : Nat := 0
  deriving DecidableEq, Repr

/-- Both directions; an entry that is not listed is IDLE. -/
structure FlowSt where
  rx : List (Nat × RxFlow) := []
  tx : List (Nat × TxFlow) := []
  /-- Built packets that wait for their launch times, by flow, in order of building. -/
  launches : List (Nat × TxPacket) := []
  /-- Channel-status bits collected so far: none until a B bit has been seen (R162). -/
  csBits : Option (List Bool) := none
  /-- The monitors' figures, by receive flow. -/
  mons : List (Nat × RxMon) := []
  deriving DecidableEq, Repr

end Sys2Proof.Machine
end

