-- ==== Sys2Proof/Machine/StHost.lean ====
section
/-!
DEFINITION. State of the Stalk link, the islands, the power domains and the host ports beyond their registers
(chapters 1 and 2), the strap and interrupt pins, and the record of what leaves the device.
-/
namespace Sys2Proof.Machine

/-- One die's end of the Stalk link (R16 to R20). -/
structure LinkEnd where
  /-- The SEQ the next sequenced flit sent carries. -/
  nextSeq : Nat := 0
  /-- Flits that wait for a free slot: TYPE, TAG, POS and PAYLOAD, in the order given (R17). -/
  waiting : List (Nat × Nat × Nat × Nat) := []
  /-- Flits sent and not yet acknowledged, oldest first, at most 32 (R17). -/
  replay : List (BitVec 256) := []
  /-- The SEQ expected next from the other die. -/
  expected : Nat := 0
  /-- A retry has been requested and not yet answered. -/
  nak : Bool := false
  /-- Audio samples received and not yet used: ID, position in the frame, low 9 bits of the frame index, sample. -/
  audio : List (Nat × Nat × Nat × BitVec 32) := []
  /-- No valid flit or heartbeat has arrived for 2 µs (R20). -/
  silent : Bool := false
  /-- Failed attempts since training or a retrain began (R20). -/
  attempts : Nat := 0
  /-- This die has declared the link LOST (R20). -/
  lost : Bool := false
  deriving DecidableEq, Repr

/-- The Stalk link beyond its registers (chapter 1). -/
structure LinkSt where
  d : LinkEnd := {}
  a : LinkEnd := {}
  /-- The forwarded media clock reaches the A-die, and has done so since it was last absent (R20). -/
  mclk : Bool := false
  /-- The link has come UP since the device reset (SYS.ID.A_STEP). -/
  everUp : Bool := false
  /-- The last temperature comparison found less than 48 °C, and a comparison has been made since the link came UP (R31). -/
  cool : Bool := false
  compared : Bool := false
  /-- Channels crossing the link that are faded to zero because a frame was late (R18): source IDs 1424 to 1439 and sink IDs 1424 to 1447, the latter plus 4,096. -/
  late : List Nat := []
  deriving DecidableEq, Repr

/-- Islands and domains beyond their registers (chapter 1). -/
structure PwrSt where
  /-- For each lane island that has one, the target that applies once the voltage has settled (R29). -/
  target : List (Nat × Nat) := []
  /-- Lanes whose voltage has settled for a higher clock that waits for a boundary (R28, R29). -/
  volted : List Nat := []
  /-- Lanes whose last frame ran capped at 600 MHz (R29). -/
  capped : List Nat := []
  /-- Domain transitions still to come, in order: the domain and whether it powers up (R33). -/
  moves : List (Nat × Bool) := []
  /-- Domains whose registers go only once the outputs of AOUT and PSTAGE have faded out (R339, R352, R449). -/
  fading : List Nat := []
  deriving DecidableEq, Repr

/-- An access that has left a host port and not yet completed: one of the ANA block, a read that waits behind one, or
a write that waits behind such a read (R23, R41, R67). -/
structure AnaAcc where
  port : Nat
  write : Bool
  addr : Nat
  data : BitVec 32 := 0
  size : AccessSize := .word
  split : Bool := false
  /-- The read has been abandoned: its value is lost (R49). -/
  dropped : Bool := false
  /-- The transaction tag of its flits (Table 1.1). -/
  tag : Nat := 0
  /-- Its flit has been given to the link; a write waits while 32 of its port are in flight (R67). -/
  sent : Bool := true
  /-- A write that waits behind a read of the D-die and has not been judged yet (R41). -/
  behind : Bool := false
  deriving DecidableEq, Repr

/-- The quad-SPI target's phase (R48 to R51). -/
inductive QspiPhase where
  | idle
  | read
  | write
  | status
  | ignored
  deriving DecidableEq, Repr

/-- A running abort (R72 to R75): the units it stops, and those of them still to reach their reset state. -/
structure AbortSt where
  cls : Nat
  named : List Nat
  units : List Nat
  deriving DecidableEq, Repr

/-- A capability of the PCIe function (Table 2.2). -/
inductive PcieCap where
  | powerManagement
  | pcie
  | msix
  | aer
  | functionLevelReset
  deriving DecidableEq, Repr

/-- What the PCIe function presents (R42, Table 2.2). -/
structure PcieFunction where
  functions : Nat := 1
  lanes : Nat := 2
  vendorId : BitVec 16 := 0x1F8C
  deviceId : BitVec 16 := 0x1024
  classCode : BitVec 24 := 0x040100
  bar0Bytes : Nat := 2 ^ 24
  bar0Is64Bit : Bool := true
  bar0Prefetchable : Bool := false
  otherBars : BitVec 32 := 0
  msixVectors : Nat := 64
  /-- The largest payload supported, in bytes. -/
  maxPayload : Nat := 256
  outstandingReads : Nat := 32
  tagBits : Nat := 8
  caps : List PcieCap := [.powerManagement, .pcie, .msix, .aer, .functionLevelReset]
  aspmL1 : Bool := true
  aspmL0s : Bool := false
  deriving DecidableEq, Repr

/-- The host ports beyond their registers (chapter 2). -/
structure HostSt where
  /-- For each host port with a pending guarded write: the address and the value (R61). -/
  guard : List (Nat × Nat × BitVec 32) := []
  /-- For each port and ROL address, keyed by address × 4 + port, the high word latched (R59, R60). -/
  shadow : List (Nat × BitVec 32) := []
  qspi : QspiPhase := .idle
  qspiAddr : Nat := 0
  qspiQuad : Bool := false
  /-- The word read for the running quad-SPI transaction, from when it is ready until it has been delivered (R49). -/
  qspiWord : Option (BitVec 32) := none
  /-- ANA accesses in flight and the reads behind them, in issue order (R41, R67). -/
  ana : List AnaAcc := []
  abort : Option AbortSt := none
  /-- Writes held behind a running abort: address, value (R75). -/
  held : List (Nat × BitVec 32) := []
  /-- The vectors whose ACTIVE is 1, one bit each (R70). -/
  irqActive : Nat := 0
  /-- The MSI-X pending-bit array (R43, R70). -/
  pba : Nat := 0
  /-- The MSI-X function mask (PCIe configuration space). -/
  msixMasked : Bool := false
  /-- A core rate change accepted and not yet in effect (R453). -/
  ratePending : Option Nat := none
  /-- A warm reset waits for domain transitions or domain resets to end (R449). -/
  warmPending : Bool := false
  /-- The subsystem vendor ID and subsystem ID of PCIe configuration space, loaded at boot (R42, Table 16.10). -/
  subsystem : BitVec 32 := 0x10241F8C
  pcie : PcieFunction := {}
  /-- The maximum payload and read request sizes the host has programmed, in bytes (R46; log entry 262). -/
  mps : Nat := 128
  mrrs : Nat := 512
  deriving DecidableEq, Repr

/-- Levels of the pins that carry no state elsewhere. -/
structure PinSt where
  /-- HPDET_0 and HPDET_1, high through their pull-ups where nothing drives them (R338, R468). -/
  hpdet0 : Bool := true
  hpdet1 : Bool := true
  /-- MTRIG_0 and MTRIG_1 (R374). -/
  mtrig0 : Bool := false
  mtrig1 : Bool := false
  /-- HOST_IRQ_N is low (R71). -/
  irqLow : Bool := false
  /-- RST_N or the power-on reset holds the device (R441, R443). -/
  inReset : Bool := false
  /-- The A-die has been released from reset. -/
  aReleased : Bool := false
  deriving DecidableEq, Repr

end Sys2Proof.Machine
end

