-- ==== Sys2Proof/Machine/StMeas.lean ====
section
/-!
DEFINITION. State of the loudspeaker power stage (chapter 13) and the measurement converters (chapter 14) beyond their registers.
-/
namespace Sys2Proof.Machine

/-- Where a channel in FAULT_WAIT stands (R357, R358): measuring, ramping its common mode down, or waiting for the retry. -/
inductive PsFault where
  | none
  | classify
  | ramp
  | rest
  deriving DecidableEq, Repr

/-- What drives a channel's two outputs (R343, R350, R354, R357): nothing, the hold drivers at 0 V, at PVDD/2, ramping up or down between
the two in so many ms, at PVDD/2 with 20 mA from PSA to PSB, or the half-bridges. -/
inductive PsDrive where
  | highZ
  | zero
  | ramp (up : Bool) (ms : Nat)
  | hold
  | test
  | bridge
  deriving DecidableEq, Repr

/-- The excursion limiter of an engine frame (R359, R360): the section B0, B1, B2, A1, A2, XL and c_rel. -/
structure PsXlim where
  coef : List F32
  xl : F32
  rel : F32
  deriving DecidableEq, Repr

/-- A power stage channel (R344 to R363). -/
structure PsCh where
  /-- What drives the outputs. -/
  drive : PsDrive := .highZ
  /-- The excursion limiter in force; none while XLIM_EN is clear. -/
  xlim : Option PsXlim := none
  /-- The signal fade: whether it fades in, and the core samples done. -/
  fade : Option (Bool × Nat) := none
  /-- Its pace, as in `AinSt.pace`, and a half step done towards the next of its samples. -/
  pace : Nat := 2
  half : Nat := 0
  /-- Switching periods at zero signal since STARTING began. -/
  periods : Nat := 0
  /-- The last 64 switching periods, bit 0 the latest: set where the current limit acted (R356). -/
  limited : Nat := 0
  stopReq : Bool := false
  offReq : Bool := false
  /-- A START or a retry waits for a relock (R349). -/
  waits : Bool := false
  fault : PsFault := .none
  /-- V_A and V_B as measured, and whether they could not be measured (R357). -/
  meas : Option (F32 × F32) := none
  unmeasured : Bool := false
  /-- The retries of the last 60 s: the age of each in units of 1/96,000 s, latest first (R358). -/
  retries : List Nat := []
  /-- State of the excursion model's section (R359). -/
  s1 : F32 := 0
  s2 : F32 := 0
  /-- The 1 ms look-ahead, newest first: command u and the gain it needs (R360). -/
  look : List (F32 × F32) := []
  /-- The gain a of the sample that left the look-ahead last. -/
  a : F32 := 0x3F800000
  /-- The magnet's temperature; the coil's is in T_COIL (R363). -/
  tm : F32 := 0
  /-- The thermal reduction, in units of 1/480,000 dB (R363). -/
  red : Nat := 0
  /-- The pilot cycle (R361): 0 none, 1 settling at +A, 2 measuring there, 3 settling at −A, 4 measuring there, 5 all measured. -/
  pilot : Nat := 0
  vals : List F32 := []
  /-- Something that discards the cycle occurred during it. -/
  spoiled : Bool := false
  /-- The pilot's level and where it ramps to, in steps of A over 50 ms of core samples. -/
  level : Int := 0
  goal : Int := 0
  /-- A of the cycle, in mV, taken from PILOT.AMP as the cycle begins (R361). -/
  amp : Nat := 100
  deriving DecidableEq, Repr

/-- The power stage beyond its registers. -/
structure PsSt where
  chans : List (Nat × PsCh) := []
  /-- The k the PLL is relocking to (R349). -/
  relock : Option Nat := none
  /-- The die reduction, in units of 1/480,000 dB (R364). -/
  red : Nat := 0
  deriving DecidableEq, Repr

/-- What a conversion set is made for (Table 14.4). -/
inductive McvKind where
  | host
  | cal
  | plaus (k : Nat)
  deriving DecidableEq, Repr

/-- A conversion set in progress (R371, R373, R383). -/
structure McvSet where
  kind : McvKind
  /-- CFG as latched at the trigger. -/
  cfg : BitVec 32
  /-- The trigger's DELAY still runs. -/
  delay : Bool := false
  /-- The class's factors as the set began. -/
  ofs : BitVec 32 := 0
  gain : F32 := 0x3F800000
  /-- The codes so far, oldest first. -/
  codes : List Int := []
  ovr : Bool := false
  fb : Bool := false
  restarted : Bool := false
  /-- The first settle is over, and the set waits for the other converter of its plausibility check (R380). -/
  ready : Bool := false
  ts : Nat := 0
  deriving DecidableEq, Repr

/-- The phases of a conversion (R368). -/
inductive McvPhase where
  | idle
  | delay
  | settle
  | integrate
  | rundown
  deriving DecidableEq, Repr

/-- A measurement converter (R368 to R387). -/
structure McvSt where
  phase : McvPhase := .idle
  /-- The class being served: 0 none, 1 URGENT, 2 PRIORITY, 3 CAL, 4 HOST, 5 PLAUS, 6 SCAN. -/
  serving : Nat := 0
  set : Option McvSet := none
  calReq : Bool := false
  /-- The plausibility check it is reserved for. -/
  reserved : Option Nat := none
  /-- Urgent requests by power stage channel, the one served first, with its V_A once converted (R377). -/
  urgent : List Nat := []
  va : Option F32 := none
  /-- Priority requests: power stage channel and multiplexer channel (R378). -/
  prio : List (Nat × Nat) := []
  /-- The input a scan request converts, and the last input scanned (R379). -/
  scan : Option Nat := none
  scanned : Nat := 15
  /-- Classes whose conversion was preempted and restarts (R376). -/
  cut : List Nat := []
  /-- The running integration uses the fallback reference (R381), and its length in ISL_MEAS cycles (R369). -/
  useFb : Bool := false
  tint : Nat := 0
  /-- The A-die temperature at the last calibration (R383), in millidegrees. -/
  calTemp : Int := 0
  deriving DecidableEq, Repr

/-- A plausibility check (R380): running on converters A and B, their results, and the mismatches in a row. -/
structure PlausSt where
  on : Option (Nat × Nat) := none
  va : Option F32 := none
  vb : Option F32 := none
  fails : Nat := 0
  deriving DecidableEq, Repr

/-- An MTRIG pin (R374): its level, the accepted level, and a debounce in progress. -/
structure MtrigSt where
  level : Bool := false
  accepted : Bool := false
  unstable : Bool := false
  deriving DecidableEq, Repr

/-- The measurement block beyond its registers. -/
structure MeasSt where
  mcvs : List (Nat × McvSt) := []
  plaus : List (Nat × PlausSt) := []
  mtrig : List (Nat × MtrigSt) := []
  /-- Inputs whose open-wire currents are on or ramping on, and those whose currents ramp (R384). -/
  owOn : List Nat := []
  owRamp : List Nat := []
  /-- The band of each input's last scan (R379). -/
  bands : List (Nat × Nat) := []
  /-- The A-die temperature last read, in millidegrees (R364). -/
  temp : Int := 0
  deriving DecidableEq, Repr

end Sys2Proof.Machine
end

