-- ==== Sys2Proof/Machine/StMgmt.lean ====
section
/-!
DEFINITION. State of the management processor, the log, GPIO and the fuses beyond their registers (chapter 16).
-/
namespace Sys2Proof.Machine

/-- A log entry (R420, Table 16.5); of its CRC, whether it is good. -/
structure LogEntry where
  seq : Nat
  code : Nat
  sev : Nat
  timeValid : Bool
  gap : Bool
  /-- Media time when written, in whole nanoseconds. -/
  ns : Nat
  boot : Nat
  arg0 : BitVec 32
  arg1 : BitVec 32
  arg2 : Nat := 0
  /-- Its CRC is good: one torn by a power loss on its way to flash has a bad one (R420). -/
  good : Bool := true
  deriving DecidableEq, Repr

/-- A boot record in the flash (R428): its generation count, the state of each slot (0 EMPTY, 1 VALID, 2 TRIAL, 3 TRIED, 4 ACTIVE,
5 FAILED), and whether its CRC-32 is good. -/
structure BootRec where
  generation : Nat := 0
  a : Nat := 0
  b : Nat := 0
  good : Bool := true
  deriving DecidableEq, Repr

/-- A firmware slot in the flash (R427): the words programmed since it was erased, by byte offset. `torn` numbers the free words it holds
instead after a failed erase. -/
structure FwSlot where
  words : List (Nat × BitVec 32) := []
  torn : Option Nat := none
  deriving DecidableEq, Repr

/-- A GPIO pin (R422). -/
structure GpioPin where
  /-- The level after the 1 µs filter, and the debounced level. -/
  level : Bool := false
  settled : Bool := false
  /-- A debounce interval runs. -/
  running : Bool := false
  deriving DecidableEq, Repr

/-- A GPIO timestamp (R423): pin, edge (true active), whole nanoseconds of media time, and whether an entry was lost before it. -/
structure GpioEvt where
  pin : Nat
  edge : Bool
  ns : Nat
  lost : Bool
  deriving DecidableEq, Repr

/-- The management processor, the flash and the fuses beyond their registers (chapter 16). -/
structure MgmtSt where
  /-- The RAM ring, newest first, at most 256 entries (R420). -/
  ring : List LogEntry := []
  /-- The flash ring, newest first, at most 8,192 entries. -/
  flash : List LogEntry := []
  /-- Entries of the RAM ring not yet copied to flash. -/
  uncopied : Nat := 0
  /-- Events of other blocks while the processor did not run: CODE, SEV and the arguments, oldest first (R421). -/
  unseen : List (Nat × Nat × BitVec 32 × BitVec 32) := []
  /-- The next entry's FLAGS.GAP. -/
  gap : Bool := false
  /-- Management processor starts, modulo 2^16. -/
  boots : Nat := 0
  /-- The ROM runs and has not yet chosen a slot (R428). -/
  booting : Bool := true
  /-- The next boot is one of RECOVERY; the ROM serves the mailbox (R444). -/
  recovery : Bool := false
  serving : Bool := false
  /-- STATUS.STATE before HALT. -/
  before : Nat := 0
  /-- The watchdog expired: its entry is due, with the last program counter (R415). -/
  wdog : Option (BitVec 32) := none
  /-- The mailbox command in progress: OP, LEN, TAG (R416). -/
  cmd : Option (Nat × Nat × Nat) := none
  /-- The draw that numbers the two words of the running build's identifier (GET_INFO). -/
  build : Nat := 0
  slotA : FwSlot := {}
  slotB : FwSlot := {}
  /-- Boot records 0 and 1 (R428). -/
  boot0 : BootRec := {}
  boot1 : BootRec := { good := false }
  /-- FW_BEGIN has been carried out: the slot and the image length. FW_VERIFY has succeeded since. -/
  begun : Option (Nat × Nat) := none
  verified : Bool := false
  /-- The nominal of SMON_4 in mV, once its first reading has been taken (Table 16.3). -/
  smon4 : Option Nat := none
  /-- Consecutive breaching, and clearing, readings by bit of ALARM_STATUS (R419). -/
  breach : List (Nat × Nat) := []
  clear : List (Nat × Nat) := []
  pins : List (Nat × GpioPin) := []
  /-- The GPIO timestamps, oldest first, at most 32, and whether an entry has been lost since (R423). -/
  evts : List GpioEvt := []
  lost : Bool := false
  /-- The fuse bits being programmed: word and bits, lowest word first (R433, R434). -/
  fusing : List (Nat × BitVec 32) := []
  /-- SVN bits still to be blown (R431). -/
  svnDue : BitVec 32 := 0
  deriving DecidableEq, Repr

end Sys2Proof.Machine
end

