-- ==== Sys2Proof/Machine/StNet.lean ====
section
/-!
DEFINITION. State of the network ports, the PTP clocks, the host frame path and IGMP beyond their registers (chapter 5).
-/
namespace Sys2Proof.Machine

/-- What a transmitted frame is to the device beyond its bytes. -/
inductive TxKind where
  | plain
  /-- originTimestamp is inserted as it leaves (R145). -/
  | oneStep
  /-- A two-step Sync, whose Follow_Up carries the time it left (R151). -/
  | syncTwoStep (seq : Nat)
  /-- A Delay_Req, whose departure is t3 (R150). -/
  | delayReq (seq : Nat)
  /-- An audio packet of transmit flow `n`, with its launch time in 2^-16 ns (R176). -/
  | audio (n : Nat) (launch : Nat)
  /-- A host frame; `both` where it names both ports, `tag` where its timestamp is reported (R144). -/
  | host (both : Bool) (oneStep : Bool) (tag : Option Nat)
  deriving DecidableEq, Repr

/-- A frame waiting to leave a port: its class (R141) and its bytes from destination address to last data byte. -/
structure TxFrame where
  cls : Nat
  kind : TxKind := .plain
  bytes : List (BitVec 8)
  deriving DecidableEq, Repr

/-- An entry of the foreign master table (R147). -/
structure Foreign where
  source : Nat
  ds : PtpDs
  logInterval : Int
  /-- When its last Announce came, in 2^-16 ns. -/
  last : Nat
  qualified : Bool := false
  deriving DecidableEq, Repr

/-- A transmit timestamp: its time in whole nanoseconds and its TAGID (R144). -/
structure TxStamp where
  ns : Nat
  tag : Nat
  deriving DecidableEq, Repr

/-- One network port beyond its registers. -/
structure NetPort where
  /-- Frames queued in the order they arrived, and whether one is leaving. -/
  queue : List TxFrame := []
  busy : Bool := false
  /-- In loopback, the frame that is leaving and returns to the port's own receiver, with the time it left (R132). -/
  looped : Option (List (BitVec 8) × Nat) := none
  /-- The level of the port's LOS pin (R132). -/
  los : Bool := false
  /-- The IPv4 identification of the next frame (R136). -/
  ident : Nat := 0
  foreign : List Foreign := []
  ebest : Option Nat := none
  /-- sequenceId of the last accepted Sync (R148). -/
  lastSync : Option Nat := none
  /-- A two-step Sync that waits for its Follow_Up: sequenceId, t2, correction. -/
  waiting : Option (Nat × Nat × Int) := none
  /-- The last complete Sync: t1 in ns, t2 in 2^-16 ns, cS in 2^-16 ns (R150). -/
  sync : Option (Nat × Nat × Int) := none
  /-- Addresses of Ebest's last Sync (R149). -/
  masterIp : Nat := 0
  masterMac : Nat := 0
  /-- A Sync has been accepted since the last Delay_Req. -/
  dreqDue : Bool := false
  dreqSeq : Nat := 0
  /-- The outstanding Delay_Req: its sequenceId, and t3 in 2^-16 ns once it has left. -/
  dreq : Option (Nat × Option Nat) := none
  /-- logMessageInterval of the last Delay_Resp (R149). -/
  dreqLog : Option Int := none
  /-- MPD in 2^-16 ns, exact (R150). -/
  mpd : Option Rat := none
  rejects : Nat := 0
  syncSeq : Nat := 0
  annSeq : Nat := 0
  /-- Delay_Req answered in the present second: the second and the count (R151). -/
  answered : Nat × Nat := (0, 0)
  /-- Timestamps taken and not yet in the FIFO, then the FIFO, oldest first; one was lost since the last read (R144). -/
  taken : List TxStamp := []
  stamps : List TxStamp := []
  stampLost : Bool := false
  /-- IGMP queries whose answers are due, oldest first (R155). -/
  queries : List IgmpQuery := []
  deriving DecidableEq, Repr

/-- A run of repeated reports (R133, R154): what to send, for which entry, on which ports, how many remain. -/
structure IgmpJob where
  leave : Bool
  index : Nat
  group : Nat
  source : Nat
  ports : Nat
  left : Nat
  /-- It belongs to the running command. -/
  cmd : Bool
  deriving DecidableEq, Repr

/-- Both ports, the host frame path, MDIO and IGMP. -/
structure NetSt where
  a : NetPort := {}
  b : NetPort := {}
  /-- The host frame held for launch: its prefix word 0, launch time in ns, and bytes. -/
  held : Option (Nat × Nat × List (BitVec 8)) := none
  jobs : List IgmpJob := []
  /-- The running MDIO frame reads. -/
  mdioRead : Bool := false
  deriving DecidableEq, Repr

end Sys2Proof.Machine
end

