-- ==== Sys2Proof/Machine/StOut.lean ====
section
/-!
DEFINITION. What leaves the device at its pins and buses: one constructor per kind of thing that another party can see.
-/
namespace Sys2Proof.Machine

/-- One thing that left the device. -/
inductive Output where
  /-- A host port's read returned a word: port, address, word. -/
  | hostData (port addr : Nat) (w : BitVec 32)
  /-- The quad-SPI target drives its four lines (true) or its one data output, clock by clock (R48, R52). -/
  | qspiLines (quad : Bool) (lines : List Nat)
  /-- The quad-SPI target drives `n` wait bytes 0xFF: every line high for 2 clocks a byte on four lines, for 8 on one (R49). -/
  | qspiWait (quad : Bool) (n : Nat)
  /-- The endpoint requests `bytes` bytes of host memory, under a tag (R42, R46). -/
  | dmaRead (addr bytes tag : Nat)
  /-- An MSI-X message (R70). -/
  | msix (vector : Nat)
  /-- A sideband heartbeat from the D-die (true) or the A-die (R15). -/
  | heartbeat (fromD : Bool)
  /-- A flit sent or sent again by the D-die (true) or the A-die (R17). -/
  | flitSent (fromD : Bool) (flit : BitVec 256)
  /-- A flit delivered in order at the D-die (true) or the A-die (R16, R17). -/
  | flitDelivered (atD : Bool) (flit : BitVec 256)
  /-- A DMA drain writes a word to host memory (R287). -/
  | dmaWrite (addr : Nat) (w : BitVec 32)
  /-- A frame leaves network port A (0) or B (1), from destination address to last data byte (R141). -/
  | frame (port : Nat) (bytes : List (BitVec 8))
  /-- An MDIO frame is issued: its preamble, the command word, and the divider that makes MDC of 500 MHz (R131). -/
  | mdio (preamble : List Bool) (w : BitVec 32) (div : Nat)
  /-- A port begins clause 37 negotiation with what it advertises: full duplex, and pause (R130). -/
  | advert (port : Nat) (fullDuplex pause : Bool)
  /-- A port's lane leaves electrical idle and sends idle (true), or enters electrical idle (false) (Table 5.2). -/
  | lane (port : Nat) (on : Bool)
  /-- A serial unit, by its abort index, sends a frame; none but synchronisation while it lists no slot (R297, R307, R309). -/
  | portFrame (unit : Nat) (slots : List PortSlot)
  /-- The subframes of such a frame as an AES3 or MADI unit's line carries them: mode bits or preamble in [3:0], 24 audio bits, V, U, C
  and parity (R307 to R309). -/
  | portLine (unit : Nat) (words : List (BitVec 32))
  /-- A MADI unit's line, bit by bit, over such a frame and the synchronisation symbols after it: 4B5B as NRZI levels (R308). -/
  | madiLine (unit : Nat) (levels : List Bool)
  /-- Such a frame on a TDM unit's pins, bit clock by bit clock from the frame start: whether outputs change on the falling edge of BCLK,
  the levels of FS where the unit drives it, the delay from the frame start to the first bit of slot 0, and the bits of DOUT from that one
  (R302). -/
  | tdmLine (unit : Nat) (falling : Bool) (fs : List Bool) (delay : Nat) (dout : List Bool)
  /-- A word is sent to the phantom latch, bit i for input i (R330). -/
  | phantom (w : BitVec 16)
  /-- The levels of PH_SCLK, PH_SDO and PH_LE in each half period of PH_SCLK while a word is sent (R330). -/
  | phantomPins (halves : List (Bool × Bool × Bool))
  /-- An output channel (0 to 15 line outputs, 16 to 19 HP_0 L, HP_0 R, HP_1 L, HP_1 R) drives these samples at 8 times the core rate, in
  parts of its full scale, which is so many mV rms, in an engine frame (R205, R334, R335). -/
  | analog (ch mv : Nat) (xs : List (BitVec 32))
  /-- A power stage channel's outputs change what drives them (R343, R350, R354). -/
  | psDrive (ch : Nat) (d : PsDrive)
  /-- A power stage channel switches over an engine frame: f_sw in Hz, how many of a period's 512 counts its carrier leads channel 0's, and
  the voltage command of each core sample in volts (R344, R347). PSB is the complement of PSA (R343). -/
  | psBridge (ch fsw lead : Nat) (v : List (BitVec 32))
  /-- The power stage's PLL runs at this frequency in Hz, and with it every f_sw (R347). -/
  | psPll (hz : Nat)
  /-- A frame leaves on the two lanes of the twin link, with the octet of each symbol and whether it is a control symbol (R392). -/
  | twinFrame (lane0 lane1 : List (Bool × BitVec 8))
  /-- An edge of PPS_OUT (0), FRAME_OUT (1) or WCLK_OUT (2): rising or falling (R103). -/
  | pulse (pin : Nat) (rise : Bool)
  /-- The pins of a clock output change what they show (R114, R120, R123). -/
  | clockPin (n : Nat) (p : CkPin)
  deriving DecidableEq, Repr

end Sys2Proof.Machine
end

