-- ==== Sys2Proof/Machine/StPort.lean ====
section
/-!
DEFINITION. State of the serial ports beyond their registers (chapter 11).
-/
namespace Sys2Proof.Machine

/-- What is collected of the channel status or user bits of one subframe since its last Z preamble (R306). -/
structure BlockRx where
  bits : List Bool := []
  /-- A Z preamble has been seen and no frame was missed since. -/
  open_ : Bool := false
  /-- A block has been latched since the monitor entered OK. -/
  latched : Bool := false
  deriving DecidableEq, Repr

/-- A serial unit that is not IDLE, or a receiver that is decoding. -/
structure PortUnit where
  /-- Start index S, stop index E, where the stop fade begins; START waits for the trigger; a STOP in ARMED (R314, R317). -/
  start : Option Nat := none
  stop : Option Nat := none
  fadeFrom : Nat := 0
  common : Bool := false
  cancelled : Bool := false
  /-- The rate code in use under AUTO (R311). -/
  rate : Nat := 7
  /-- How many frames ago each recent glitch was (R311). -/
  glitches : List Nat := []
  /-- Received frames by unit-rate index, and the last index a frame was assigned to (R297, R298). -/
  rx : List (Nat × List PortSlot) := []
  lastRx : Option Nat := none
  lastTx : Option Nat := none
  /-- SLIP (R299): the FIFOs, oldest first, the transmit one's with the core index of their samples; reading has begun; the first source
  index delivered; what was read since the last boundary. -/
  rxFifo : List (List PortSlot) := []
  rxOn : Bool := false
  slipFrom : Option Nat := none
  /-- SRC: the frames last received, each with the core index at which it came, newest first; SRC and SYNC at another rate: the sink rows last taken by core index, newest first. -/
  rxPast : List (Nat × List PortSlot) := []
  txPast : List (Nat × List F32) := []
  rxRead : List (List PortSlot) := []
  txFifo : List (Nat × List F32) := []
  txOn : Bool := false
  /-- A MADI line (R308): its level, and what remains of a bit period between frames, in bit periods times the frame rate. -/
  level : Bool := false
  rest : Nat := 0
  /-- The dither generator (R303). -/
  lfsr : Nat := 1
  /-- AES3 receive blocks: C of A and B, U of A and B. -/
  blocks : List (Nat × BlockRx) := []
  /-- Transmit blocks (R307, R316): frames sent of the block, CFG as captured at its start, and its C and U bits for A and B. -/
  sent : Nat := 0
  blkCfg : BitVec 32 := 0
  blkC : List Nat := []
  blkU : List Nat := []
  /-- The C bits captured so far of a MADI channel (R310). -/
  cap : Option (List Bool) := none
  deriving DecidableEq, Repr

/-- The ports beyond their registers. -/
structure PortSt where
  units : List (Nat × PortUnit) := []
  /-- The boundary at which an armed trigger fires; none while it waits for SYNC_IN (R317). -/
  trig : Option (Option Nat) := none
  deriving DecidableEq, Repr

end Sys2Proof.Machine
end

