-- ==== Sys2Proof/Machine/StRoute.lean ====
section
/-!
DEFINITION. State of the route fabric beyond its registers (chapter 7), and the audio of the present engine frame.
-/
namespace Sys2Proof.Machine

/-- A source's fast mute (R198): the last value before it, the samples done, and whether the source is coming back. -/
structure SrcMute where
  v : F32
  k : Nat := 0
  returning : Bool := false
  deriving DecidableEq, Repr

/-- A crossfade at a sink (R190): the old source and its amplitude, the samples done, the length, the shape. -/
structure XFade where
  src0 : Nat
  amp0 : F32
  k : Nat := 0
  n : Nat
  lin : Bool
  deriving DecidableEq, Repr

/-- A ramp of an amplitude (R191). -/
structure SinkRamp where
  aS : F32
  aT : F32
  k : Nat := 0
  n : Nat
  deriving DecidableEq, Repr

/-- What the fabric holds for one sink (R189 to R195, R199). -/
structure SinkSt where
  /-- The source the sink carries, or crossfades to. -/
  src : Nat := 2047
  /-- The amplitude applied to it when no ramp runs. -/
  amp : F32 := 0x3F800000
  ramp : Option SinkRamp := none
  xf : Option XFade := none
  /-- A source change that waits for the crossfade's end: the ROUTE.CFG captured by its commit (R194). -/
  defer : Option (BitVec 32) := none
  /-- A mute fade in progress: whether it fades out, and the samples done (R199). -/
  fade : Option (Bool × Nat) := none
  deriving DecidableEq, Repr

/-- A commit that waits for its boundary, with its inputs as they stood at GO (R188). -/
structure Commit where
  /-- The shadow table and the CUT bitmap: the words that differed from reset. -/
  shadow : List (Nat × BitVec 32)
  cut : List (Nat × BitVec 32)
  dp : List (BitVec 32)
  swap : Nat
  cfg : BitVec 32
  at_ : Nat
  timed : Bool
  deriving DecidableEq, Repr

/-- A setting of a direct path that fades out: the setting, the amplitude it had reached, the sample periods done (R206). -/
structure DPathOld where
  cfg : BitVec 32
  amp : F32
  k : Nat := 0
  deriving DecidableEq, Repr

/-- A direct path at the A-die (R206): the setting in use, old ones fading out, the sample periods of a fade-in done, the amplitude. -/
structure DPath where
  cfg : BitVec 32 := 0x0000F000
  olds : List DPathOld := []
  fade : Option Nat := none
  amp : F32 := 0x3F800000
  ramp : Option SinkRamp := none
  deriving DecidableEq, Repr

/-- The route fabric beyond its registers. -/
structure RouteSt where
  sinks : List (Nat × SinkSt) := []
  muted : List (Nat × SrcMute) := []
  commit : Option Commit := none
  /-- Mute writes that act at a boundary, oldest first: sink, whether it mutes, and the boundary (R199). -/
  mutes : List (Nat × Bool × Nat) := []
  /-- The tone settings in use (R200) and the ramp of its amplitude. -/
  tone : BitVec 32 := 0xF8F803E8
  toneRamp : Option SinkRamp := none
  dps : List (Nat × DPath) := []
  /-- Every sink is faded out, or fading, for a handover (R394, R409). -/
  hold : Bool := false
  /-- Direct path settings on their way to the A-die: the index they act at, ROUTE.CFG as their commit captured it, and the eight
  words (R188, R206). -/
  dpMoves : List (Nat × BitVec 32 × List (BitVec 32)) := []
  /-- The ratio each SRC channel locked to (R204). -/
  ratios : List (Nat × BitVec 32) := []
  deriving DecidableEq, Repr

/-- The audio of the engine frame that has begun: its first index, its samples, and what sources and sinks carry in it. A
source or sink that is not listed carries zeros. -/
structure AudioSt where
  first : Nat := 0
  /-- The first index of the frame whose sinks `sinks` lists: the frame that ended last. -/
  sinkFirst : Nat := 0
  len : Nat := 8
  src : List (Nat × List F32) := []
  sinks : List (Nat × List F32) := []
  /-- What the analogue inputs delivered at the A-die in the frame that ended last (R18), and what they give direct paths there, at 8
  times the core rate (R205). -/
  ins : List (Nat × List F32) := []
  direct : List (Nat × List F32) := []
  /-- The sink samples that the A-die uses in the frame that runs, those of the frame before it, in their 8 places (R18). -/
  held : List (Nat × List F32) := []
  deriving DecidableEq, Repr

end Sys2Proof.Machine
end

