-- ==== Sys2Proof/Machine/StSilo.lean ====
section
/-!
DEFINITION. State of the silos and of the DMA channels beyond their registers (chapter 10).
-/
namespace Sys2Proof.Machine

/-- A word in a silo: its bytes, its count of valid bytes (R275), and whether it ends a packet. -/
structure SiloWord where
  data : BitVec 32
  tag : Nat := 4
  last : Bool := false
  /-- On the last word of a packet: the packet was truncated. -/
  trunc : Bool := false
  deriving DecidableEq, Repr

/-- The open packet of a silo (R277). -/
structure SiloPkt where
  bytes : List (BitVec 8) := []
  seq : Nat := 0
  lost : Bool := false
  trunc : Bool := false
  deriving DecidableEq, Repr

/-- One silo (R270 to R282). -/
structure SiloQ where
  /-- Visible words, oldest first (R276, R278). -/
  words : List SiloWord := []
  pkt : Option SiloPkt := none
  /-- The bytes of a partial word in stream mode, first written first. -/
  part : List (BitVec 8) := []
  /-- An open has been refused since the previous packet (Table 10.3, LOST). -/
  lost : Bool := false
  /-- Bytes held by the head, by the middle region and by the tail. -/
  head : Nat := 0
  mid : Nat := 0
  tail : Nat := 0
  deriving DecidableEq, Repr

/-- A DMA descriptor (R286). -/
structure DmaDesc where
  addr : Nat
  user : BitVec 32
  len : Nat
  irq : Bool
  pktStart : Bool
  pktEnd : Bool
  tag : Nat
  deriving DecidableEq, Repr

/-- One DMA channel (R286 to R289). -/
structure DmaCh where
  /-- Descriptors that wait or run, oldest first. -/
  descs : List DmaDesc := []
  /-- The DONE FIFO, oldest first. -/
  done : List (BitVec 32) := []
  /-- Of the running descriptor: bytes of host memory passed, and the valid ones among them. -/
  passed : Nat := 0
  valid : Nat := 0
  /-- The running fill descriptor has opened its packet; it has been truncated under R288. -/
  opened : Bool := false
  truncated : Bool := false
  /-- The silo in which the channel has a packet open (R279). -/
  holds : Option Nat := none
  /-- Stopped under R47. -/
  stopped : Bool := false
  deriving DecidableEq, Repr

/-- The silos and the DMA channels. -/
structure SiloSt where
  q : List (Nat × SiloQ) := []
  dma : List (Nat × DmaCh) := []
  deriving DecidableEq, Repr

end Sys2Proof.Machine
end

