-- ==== Sys2Proof/Machine/StSpelt.lean ====
section
/-!
DEFINITION. State of the Spelt engine beyond its registers (chapters 8 and 9): the lanes, the crosspoints' hidden
amplitudes and the DRAM queues.
-/
namespace Sys2Proof.Machine

/-- An entry of a lane's loop stack (R267): the counter, the body's start and its last instruction. -/
structure LoopEnt where
  n : Nat
  start : Nat
  tgt : Nat
  deriving DecidableEq, Repr

/-- An instruction word by its fields (Table 9.1); `z` is bits [36:32]. -/
structure Insn where
  op : Nat := 0
  d : Nat := 0
  a : Nat := 0
  b : Nat := 0
  m : Nat := 0
  z : Nat := 0
  imm : BitVec 32 := 0
  deriving DecidableEq, Repr

/-- A lane (Table 8.1, R211 to R220, R239, R247). A register that is not listed holds 0. -/
structure Lane where
  /-- Element j of vector register v is under 8·v + j. -/
  v : List (Nat × F32) := []
  s : List (Nat × BitVec 32) := []
  a : List (Nat × BitVec 32) := []
  lc : List (Nat × Nat) := []
  pc : Nat := 8
  flags : BitVec 32 := 4
  /-- The loop stack, innermost first (R267). -/
  loops : List LoopEnt := []
  /-- A run has begun and its FEND has not retired. -/
  active : Bool := false
  /-- The cycle at which the run's FEND retired, once it has. -/
  retired : Option Nat := none
  /-- A boundary has passed while the run was halted (R240). -/
  skipped : Bool := false
  /-- R247: the cycle at which the last issue ended; the ready times of the registers written; the last completion. -/
  cyc : Nat := 0
  ready : List (Nat × Nat) := []
  done : Nat := 0
  /-- Stall cycles of the run (R233). -/
  stalls : Nat := 0
  /-- The index of the last instruction executed. -/
  last : Nat := 0
  /-- A pop that waits for its data: its queue, line and destination (R233). -/
  waiting : Option Insn := none
  /-- Input slots the run can read, and output slots it has written. -/
  ins : List (Nat × List F32) := []
  outs : List (Nat × List F32) := []
  /-- The last sample presented by each output slot. -/
  lastOut : List (Nat × F32) := []
  /-- Commands being verified, oldest first: whether it is a SWAP, and the bank (R226). -/
  verify : List (Bool × Nat) := []
  /-- A STOP acts at the next boundary (R228), or at the one after it while `wait` is set (t_LSTOP). -/
  stopReq : Bool := false
  wait : Bool := false
  /-- Consecutive overruns (R220). -/
  overs : Nat := 0
  /-- The lane halts again after one instruction; the next instruction runs whatever breakpoint names it. -/
  stepping : Bool := false
  pastBp : Bool := false
  /-- A commit has named the lane, and its swap waits for SETTLING alone (R197, R229). -/
  released : Bool := false
  /-- An instruction that issues in the boundary's own cycle traps: its index and the cause (R269). -/
  trapDue : Option (Nat × Nat) := none
  deriving DecidableEq, Repr

/-- A crosspoint's hidden amplitude (R222, R223, R259): the ramp from `aS` to `aT` over `n` samples at count `k`; the last write that
takes effect at the next run; and one for which the boundary at an index comes too soon. -/
structure XPoint where
  aS : F32
  aT : F32
  k : Nat := 0
  n : Nat := 0
  wait : Option (BitVec 32) := none
  soon : Option (Nat × BitVec 32) := none
  deriving DecidableEq, Repr

/-- A tap in use: its delay, and a crossfade from an older delay with the samples done (R234). -/
structure TapSt where
  delay : Nat := 24
  xf : Option (Nat × Nat) := none
  deriving DecidableEq, Repr

/-- A DRAM queue (R232 to R235). -/
structure DQueue where
  /-- For each line, the samples it has received, newest first. -/
  lines : List (Nat × List F32) := []
  /-- What the present run has pushed, line by line. -/
  pushed : List (Nat × List F32) := []
  taps : List (Nat × TapSt) := []
  /-- The data of the present run's pops has not arrived (R233). -/
  late : Bool := false
  /-- A prefetch for the next run has completed late (R237). -/
  lateNext : Bool := false
  /-- The queue stops at the next boundary; that boundary is too near for the queue to start or stop at it (t_DQ). -/
  stopReq : Bool := false
  wait : Bool := false
  deriving DecidableEq, Repr

/-- The Spelt engine beyond its registers. -/
structure SpeltSt where
  lanes : List (Nat × Lane) := []
  xps : List (Nat × XPoint) := []
  dqs : List (Nat × DQueue) := []
  deriving DecidableEq, Repr

end Sys2Proof.Machine
end

