-- ==== Sys2Proof/Machine/StTwin.lean ====
section
/-!
DEFINITION. State of the twin controller beyond its registers (chapter 15).
-/
namespace Sys2Proof.Machine

/-- A heartbeat channel (R398, R399). -/
structure TwinChan where
  /-- HB_SEQ of the last heartbeat accepted, and of the next one sent. -/
  last : Option Nat := none
  sent : Nat := 0
  /-- A heartbeat has been accepted within the window. -/
  heard : Bool := false
  /-- Heartbeats in a row that report the partner's OWN differently from OWN_IN (R397). -/
  mismatch : Nat := 0
  /-- The partner's state as last reported here. -/
  state : Nat := 0
  deriving DecidableEq, Repr

/-- What a TAKEOVER or a PREPARE carries out (R407, R409). -/
structure TwinTake where
  /-- The run record (Table 15.6); empty where none is held. -/
  record : List (BitVec 32) := []
  /-- The next region to restore. -/
  next : Nat := 0
  /-- Every region is restored and MEM.CTRL.EN is set; the rest of step 5 waits for READY. -/
  restored : Bool := false
  /-- Step 5 has been carried out. -/
  ran : Bool := false
  /-- Power stage channels are still to be started. -/
  psDue : Bool := false
  /-- H, once READY has been sent. -/
  ready : Option Nat := none
  /-- S, once the trigger is armed, and the time from declaration to it. -/
  start : Option Nat := none
  time : Nat := 0
  deriving DecidableEq, Repr

/-- The twin controller. -/
structure TwinSt where
  /-- A guarded write of TWIN.CTRL has been accepted since the device reset (R446). -/
  written : Bool := false
  /-- The level of OWN_OUT; its guard runs; it is to rise once OWN_IN is low (R396). -/
  ownOut : Bool := false
  guard : Bool := false
  want : Bool := false
  chans : List (Nat × TwinChan) := []
  /-- The partner has failed, and the failure has been declared (R400). -/
  failed : Bool := true
  declared : Bool := false
  /-- The partner's state, FLAGS and UID as last heard. -/
  peerState : Nat := 0
  peerFlags : Nat := 0
  peerUid : Nat := 0
  /-- Standby: the pages committed, those staged, the push being staged, its COMMIT, and the configured pages it names (R406). -/
  store : List (List (BitVec 32)) := []
  staged : List (List (BitVec 32)) := []
  stagedPush : Nat := 0
  commit : Option (Nat × Nat × Nat) := none
  total : Nat := 0
  /-- Active: dirty pages as (region, page), the rotation's next page, and the push that waits for its ACK: its sequence
  number, the dirty pages it carries and its STAMP. -/
  dirty : List (Nat × Nat) := []
  rotation : Nat := 0
  sent : Option (Nat × List (Nat × Nat) × Nat) := none
  /-- Pages captured and not yet acknowledged, each with the STAMP of its last capture; (32, 0) is the run record (R406). -/
  unacked : List ((Nat × Nat) × Nat) := []
  /-- A push waits for the next engine frame boundary, where it captures its pages (R406). -/
  pushDue : Bool := false
  /-- Engine frames until the fades of an entry into STANDBY are over and the rest of R394 follows. -/
  standby : Option Nat := none
  take : Option TwinTake := none
  /-- Y: index H. -/
  yieldAt : Option Nat := none
  /-- Control was gained, or is being gained, by a health handover (R411). -/
  byHealth : Bool := false
  /-- HEALTH.UNITS: no recorded unit was refused. -/
  units : Bool := true
  /-- MEM_EN stood in the run record carried out. -/
  memRecorded : Bool := false
  /-- Engine frames since a lane last overran; none since the last reset. -/
  overran : Option Nat := none
  /-- After a warm reset (R450): no heartbeats are sent; PAIRING may resume. -/
  silence : Bool := false
  warm : Bool := false
  deriving DecidableEq, Repr

end Sys2Proof.Machine
end

