-- ==== Sys2Proof/Machine/State.lean ====
section
/-!
DEFINITION. The state of the device: every register and memory of the map in one store, and block by block the state
the chapters describe behind the registers; the commands that wait; what has left the device.
-/
namespace Sys2Proof.Machine

/-- Why the device could stop with a fault. No command of this spec leaves its outcome open, so no meaning raises it. -/
inductive Fault where
  /-- Kept for a behaviour to which the spec gives no effect; raised by no meaning (safe). -/
  | unstated
  deriving DecidableEq, Repr

/-- Why the model could refuse a command. -/
inductive Refusal where
  /-- Raised only by an arm of `exec` whose command has no meaning yet (safe: the model stops where the device goes on). -/
  | notModelled (mnemonic : String)
  deriving DecidableEq, Repr

/-- The device. -/
structure State where
  /-- Every register, table, window and memory of the register map (R54). -/
  regs : RegFile := []
  pins : PinSt := {}
  host : HostSt := {}
  link : LinkSt := {}
  pwr : PwrSt := {}
  time : TimeSt := {}
  vet : VetSt := {}
  syn : SynSt := {}
  mgmt : MgmtSt := {}
  silos : SiloSt := {}
  net : NetSt := {}
  flow : FlowSt := {}
  route : RouteSt := {}
  audio : AudioSt := {}
  spelt : SpeltSt := {}
  ports : PortSt := {}
  ana : AnaSt := {}
  ps : PsSt := {}
  meas : MeasSt := {}
  twin : TwinSt := {}
  /-- The model's own: how many free values have been drawn (log entry 1). -/
  drawn : Nat := 0
  /-- The model's own: what has left the device, newest first (log entry 5). -/
  out : List Output := []
  /-- The commands that are waiting, first in, first out. -/
  pending : List Instr := []
  deriving DecidableEq, Repr

/-- The device as a power-on reset leaves it at its release, with every strap low (R441, R443): every register at its reset
value, SYS.RESET_CAUSE holding bit 0, memories empty, the A-die still in reset, the management processor in ROM. What the
spec leaves open here is named in log entries 2 and 3. -/
def State.reset : State := { regs := [(0x10, 1)], mgmt := { gap := true } }

end Sys2Proof.Machine
end

