-- ==== Sys2Proof/Machine/Ops.lean ====
section
/-!
DEFINITION. The operations every block shares: reading and writing registers and fields, the register map's regions and
domains (R54 to R56, R481), free values, the event log (R420), interrupts (R69 to R71) and the end of a command.
-/
namespace Sys2Proof.Machine

/-- The outcome of a command. -/
abbrev Result := Host.Outcome State Fault Refusal

/-- The word stored at address `a`. -/
def State.rd (s : State) (a : Nat) : Word := s.regs.get a

/-- Store a word at address `a`. -/
def State.wr (s : State) (a : Nat) (w : Word) : State := { s with regs := s.regs.set a w }

/-- The value of a field. -/
def State.get (s : State) (f : Field) : Nat := f.ofWord (s.rd f.addr)

/-- Set a field, taking the value to the field's width. -/
def State.put (s : State) (f : Field) (v : Nat) : State := s.wr f.addr (f.inWord (s.rd f.addr) v)

/-- Whether a field is not zero. -/
def State.flag (s : State) (f : Field) : Bool := s.get f != 0

/-- A truth value as a field value. -/
def toBit (b : Bool) : Nat := if b then 1 else 0

/-- Set a one-bit field. -/
def State.raise (s : State) (f : Field) : State := s.put f 1

/-- Clear a field. -/
def State.clr (s : State) (f : Field) : State := s.put f 0

/-- Count one more, modulo the field's width. -/
def State.count (s : State) (f : Field) : State := s.put f (s.get f + 1)

/-- Count one more, saturating at the field's largest value. -/
def State.countSat (s : State) (f : Field) : State :=
  if s.get f + 1 < 2 ^ f.width then s.put f (s.get f + 1) else s

/-- A 64-bit value held in two words. -/
def State.get64 (s : State) (lo hi : Nat) : Nat := (s.rd lo).toNat + (s.rd hi).toNat * 2 ^ 32

/-- Store a 64-bit value in two words. -/
def State.put64 (s : State) (lo hi : Nat) (v : Nat) : State :=
  (s.wr lo (BitVec.ofNat 32 v)).wr hi (BitVec.ofNat 32 (v / 2 ^ 32))

/-- Something leaves the device. -/
def State.emit (s : State) (o : Output) : State := { s with out := o :: s.out }

/-- Draw a free value: the number of the draw, and the state after it (log entry 1). -/
def State.draw (s : State) : Nat × State := (s.drawn, { s with drawn := s.drawn + 1 })

/-- The core rate in samples per second (R11): CORE_RATE.RATE, or the other one while an accepted change waits (R453). -/
def State.rate (s : State) : Nat := if s.flag R.SYS_CORE_RATE_RATE != s.host.ratePending.isSome then 96000 else 48000

/-- The device owns its outputs (R354, R393). -/
def State.owns (s : State) : Bool := s.flag R.TWIN_STATUS_OWN

/-- Media time in whole nanoseconds since the PTP epoch: the sample index divided by the core rate (R6, R99). -/
def State.mediaNs (s : State) : Nat := s.time.index * 1000000000 / s.rate

/-- Whether the sample index stands at the start of an engine frame (R8). -/
def State.atBoundary (s : State) : Bool := s.time.index % 8 == 0 || s.time.shortFrame

/-- The domains, by their numbers in Table 1.5. -/
inductive Dom where
  | aon | neta | netb | flowptp | speltLo | speltHi | memc | host | ports | clk | ainLo | ainHi | aout | pstage | meas
  deriving DecidableEq, Repr

/-- The number of a domain (Table 1.5). -/
def Dom.num : Dom → Nat
  | .aon => 1 | .neta => 2 | .netb => 3 | .flowptp => 4 | .speltLo => 5 | .speltHi => 6 | .memc => 7 | .host => 8
  | .ports => 9 | .clk => 10 | .ainLo => 11 | .ainHi => 12 | .aout => 13 | .pstage => 14 | .meas => 15

/-- Whether domain number `d` is powered and released from isolation (Table 1.7) and has not begun to turn off (R481). -/
def State.domOn (s : State) (d : Nat) : Bool :=
  (s.rd R.PWR_DOMAIN_STATE).toNat.testBit d && s.pwr.moves.head? != some (d, false)

/-- Whether a domain is on. -/
def State.on (s : State) (d : Dom) : Bool := s.domOn d.num

/-- A domain has power: it is on, or turning off (R32). -/
def State.powered (s : State) (d : Dom) : Bool := (s.rd R.PWR_DOMAIN_STATE).toNat.testBit d.num

/-- The domain that holds Spelt lane `n` (Table 2.19). -/
def laneDom (n : Nat) : Nat := if n < 8 then 5 else 6

/-- The power domain of the register region that holds address `a` (Table 2.19, R342, R367, R390). -/
def regDomain (a : Nat) : Nat :=
  if a = 0x3000 then 1
  else if a < 0x2000 then 1
  else if a < 0x4000 then 10
  else if a < 0x10000 then 1
  else if a < 0x14000 then 2
  else if a < 0x18000 then 3
  else if a < 0x40000 then 4
  else if a < 0x50000 then 9
  else if 0x58000 ≤ a ∧ a < 0x58200 then 8
  else if a < 0x60000 then 4
  else if a < 0x70000 then 7
  else if a < 0x70400 then 1
  else if a < 0x70500 then 11
  else if a < 0x70600 then 12
  else if 0x72100 ≤ a ∧ a < 0x72110 then 1
  else if a < 0x72000 then 1
  else if a < 0x74000 then 13
  else if a < 0x76000 then 14
  else if a < 0x80000 then 15
  else if a < 0x90000 then 8
  else if a < 0x101000 then 4
  else if a < 0x103000 then laneDom ((a - 0x101000) / 0x100)
  else if a < 0x104000 then laneDom ((a - 0x103000) / 64)
  else if a < 0x108000 then laneDom ((a - 0x104000) / 512)
  else if a < 0x110000 then laneDom ((a - 0x108000) / 0x800)
  else if a < 0x120000 then 4
  else if a < 0x300000 then laneDom ((a - 0x200000) / 0x10000)
  else if a < 0x800000 then laneDom ((a - 0x400000) / 0x40000)
  else 4

/-- Return every register and memory of a domain to its reset value (R35). -/
def State.clearDomain (s : State) (d : Nat) : State :=
  { s with regs := s.regs.clear (fun a => regDomain a == d) }

/-- The regions of the map that repeat under a decode mask (Table 2.6): first address, size, mask. -/
def maskedRegions : List (Nat × Nat × Nat) :=
  [ (0x00000, 0x1000, 0x1FC), (0x01000, 0x1000, 0x3FC), (0x02000, 0x1000, 0xFFC), (0x03000, 0x1000, 0x7FC)
  , (0x04000, 0x1000, 0x3FC), (0x05000, 0x1000, 0xFFC), (0x06000, 0x1000, 0xFFC), (0x10000, 0x4000, 0x3FFC)
  , (0x14000, 0x4000, 0x3FFC), (0x18000, 0x4000, 0x3FFC), (0x20000, 0x10000, 0xFFFC), (0x30000, 0x10000, 0xFFFC)
  , (0x40000, 0x10000, 0xFFFC), (0x50000, 0x10000, 0xFFFC), (0x60000, 0x4000, 0x1FFC), (0x70000, 0x10000, 0xFFFC)
  , (0x100000, 0x10000, 0xFFFC), (0x110000, 0x10000, 0xFFFC) ]

/-- The address of the register that byte address `a` decodes to (R55): the aliases of a block fold onto its image. -/
def canonIn (a : Nat) : List (Nat × Nat × Nat) → Nat
  | [] => a / 4 * 4
  | (lo, size, mask) :: t => if lo ≤ a ∧ a < lo + size then lo + ((a - lo) &&& mask) else canonIn a t

/-- The canonical address of a register access (R54, R55). -/
def canon (a : Nat) : Nat := canonIn a maskedRegions

/-- Whether an address lies in a region of Table 2.6 for host port `p` (R43, R56). -/
def assigned (p a : Nat) : Bool :=
  decide (a < 0x7000) || (decide (0x10000 ≤ a) && decide (a < 0x1C000)) || (decide (0x20000 ≤ a) && decide (a < 0x64000))
    || (decide (0x70000 ≤ a) && decide (a < 0x80000))
    || (p == 0 && ((decide (0x80000 ≤ a) && decide (a < 0x80400)) || (decide (0x80800 ≤ a) && decide (a < 0x80808))))
    || (decide (0x100000 ≤ a) && decide (a < 0x120000)) || (decide (0x200000 ≤ a) && decide (a < 0x300000))
    || (decide (0x400000 ≤ a) && decide (a < 0x880000)) || (decide (0x900000 ≤ a) && decide (a < 0x940000))
    || (decide (0xC00000 ≤ a) && decide (a < 0xE00000))

/-- Whether an address lies in the ANA block (Table 2.6). -/
def isAna (a : Nat) : Bool := decide (0x70000 ≤ a) && decide (a < 0x80000)

/-- Whether the region of address `a` is accessible: its domain is on (R481). -/
def State.accessible (s : State) (a : Nat) : Bool := s.domOn (regDomain a)

/-- The Stalk link's state (Table 1.12): 0 RESET, 1 TRAIN, 2 UP, 3 RETRAIN, 4 LOST. -/
def State.linkState (s : State) : Nat := s.get R.PWR_STALK_STATUS_STATE

/-- Whether the Stalk link is UP. -/
def State.linkUp (s : State) : Bool := s.linkState == 2

/-- The EVENT register, and its bits, in which the management processor observes an event of another block; `k` is the channel (R421). -/
def seenIn (code k : Nat) : Nat × Nat :=
  look (0, 0) [(0x20, (R.PWR_STALK_ERR, 8)), (0x21, (R.SYN_EVENT, 0x40)), (0x22, (R.SYN_EVENT, 0x80)), (0x23, (R.VET_EVENT, 1))
    , (0x30, (R.PSC_EVENT (k % 4), 8)), (0x31, (R.PSC_EVENT (k % 4), 0x10)), (0x32, (R.PSC_EVENT (k % 4), 1))
    , (0x33, (R.PSC_EVENT (k % 4), 0x20)), (0x40, (R.TWIN_EVENT, 1)), (0x41, (R.TWIN_EVENT, 1)), (0x50, (R.MP_EVENT, 0x40000))
    , (0x63, (R.FUSE_EVENT, 3))] code

/-- Write an entry to the event log while the management processor runs (R420, Table 16.5). An event of another block that comes while
it does not run waits to be observed (R421; log entry 329). -/
def State.log3 (s : State) (code sev : Nat) (a0 a1 : Word) (a2 : Nat) : State :=
  if s.get R.MP_STATUS_STATE = 1 then
    let seq := (s.get R.MP_LOG_HEAD_SEQ + 1) % 2 ^ 32
    let st := s.get R.VET_STATUS_STATE
    let e : LogEntry :=
      { seq, code, sev, timeValid := s.on .clk && (st == 2 || st == 3), gap := s.mgmt.gap, ns := s.mediaNs,
        boot := s.mgmt.boots, arg0 := a0, arg1 := a1, arg2 := a2 }
    let ring := (e :: s.mgmt.ring).take 256
    let s := { s with mgmt := { s.mgmt with ring, gap := false, uncopied := min (s.mgmt.uncopied + 1) 256 } }
    let s := s.raise (R.MP_EVENT_EVENT.bit 12)
    (s.put R.MP_LOG_HEAD_SEQ seq).put R.MP_LOG_OLDEST_SEQ ((ring.getLast?.map (·.seq)).getD seq)
  else if (seenIn code a0.toNat).2 = 0 then s
  else
    let same (e : Nat × Nat × Word × Word) : Bool := e.1 == code && e.2.2.1 == a0
    { s with mgmt := { s.mgmt with unseen := (s.mgmt.unseen.filter (fun e => !same e)) ++ [(code, sev, a0, a1)] } }

/-- The management processor runs: it writes the events that it finds still standing in their EVENT registers (R421). -/
def State.logSeen (s : State) : State :=
  if s.get R.MP_STATUS_STATE = 1 then
    s.mgmt.unseen.foldl (fun s e =>
      let f := seenIn e.1 e.2.2.1.toNat
      if (s.rd f.1).toNat &&& f.2 = 0 then s else s.log3 e.1 e.2.1 e.2.2.1 e.2.2.2 0) { s with mgmt := { s.mgmt with unseen := [] } }
  else s

/-- Write an entry with two arguments to the event log. -/
def State.log (s : State) (code sev : Nat) (a0 a1 : Nat) : State :=
  s.log3 code sev (BitVec.ofNat 32 a0) (BitVec.ofNat 32 a1) 0

/-- The interrupt sources an EVENT register reports to: source, enable register, mask of its bits (R69, Table 2.11). -/
def eventSources (a : Nat) : List (Nat × Nat × Nat) :=
  if a = R.SYS_EVENT then [(0, R.SYS_EVENT_EN, 0xF)]
  else if a = R.PWR_STALK_ERR then [(1, R.PWR_STALK_ERR_EN, 0x7F)]
  else if a = R.PWR_ALARM then [(1, R.PWR_ALARM_EN, 0xF)]
  else if a = R.VET_EVENT then [(2, R.VET_EVENT_EN, 0x7FF)]
  else if a = R.SYN_EVENT then [(3, R.SYN_EVENT_EN, 0x7FF)]
  else if a = R.TWIN_EVENT then [(4, R.TWIN_EVENT_EN, 0x1FFF)]
  else if a = R.MP_EVENT then [(5, R.MP_EVENT_EN, 0x3), (6, R.MP_EVENT_EN, 0x3F00), (7, R.MP_EVENT_EN, 0x70000)]
  else if a = R.NET_EVENT 0 then [(8, R.NET_EVENT_EN 0, 0x1FF)]
  else if a = R.NET_EVENT 1 then [(9, R.NET_EVENT_EN 1, 0x1FF)]
  else if a = R.NETC_HFP_EVENT then [(10, R.NETC_HFP_EVENT_EN, 0x3F)]
  else if a = R.FLOW_EVENT then [(11, R.FLOW_EVENT_EN, 0xFF), (12, R.FLOW_EVENT_EN, 0x7F00)]
  else if a = R.ROUTE_EVENT then [(13, R.ROUTE_EVENT_EN, 0x3F)]
  else if a = R.PORT_EVENT then [(14, R.PORT_EVENT_EN, 0x7)]
  else if 0x40000 ≤ a ∧ a < 0x41000 ∧ a % 0x200 = 8 then [(14, a + 4, 0xFFF)]
  else if 0x44000 ≤ a ∧ a < 0x46000 ∧ a % 0x200 = 8 then [(15, a + 4, 0xFFF)]
  else if 0x48000 ≤ a ∧ a < 0x48800 ∧ a % 0x400 = 8 then [(16, a + 4, 0xFFF)]
  else if a = R.MEM_EVENT then [(17, R.MEM_EVENT_EN, 0xF)]
  else if 0x70400 ≤ a ∧ a < 0x70600 ∧ a % 32 = 8 then [(18, a + 4, 0x1F)]
  else if 0x72400 ≤ a ∧ a < 0x72840 ∧ a % 32 = 12 then [(19, a + 4, 0x3F)]
  else if a = R.PS_EVENT then [(20, R.PS_EVENT_EN, 0x7F)]
  else if 0x74400 ≤ a ∧ a < 0x74800 ∧ a % 0x100 = 0x14 then [(20, a + 4, 0x3FFF)]
  else if a = R.MCV_EVENT then [(21, R.MCV_EVENT_EN, 0x7)]
  else if 0x76100 ≤ a ∧ a < 0x76300 ∧ a % 0x80 = 0x10 then [(21, a + 4, 0x1FF)]
  else if 0x101000 ≤ a ∧ a < 0x102000 ∧ a % 0x100 = 8 then [(22 + (a - 0x101000) / 0x100, a + 4, 0x7FF)]
  else if 0x58000 ≤ a ∧ a < 0x58200 ∧ a % 64 = 0x1C then [(38 + (a - 0x58000) / 64, a + 4, 0xF)]
  else if 0x50000 ≤ a ∧ a < 0x51000 ∧ a % 64 = 0x18 then [(46, a + 4, 0x1FF)]
  else if a = R.FUSE_EVENT then [(47, R.FUSE_EVENT_EN, 0x3)]
  else []

/-- The raw sources that one stored word makes active. -/
def State.rawOf (s : State) (a : Nat) (w : Word) : Nat :=
  (eventSources a).foldl
    (fun acc e => if (w &&& s.rd e.2.1 &&& BitVec.ofNat 32 e.2.2) = 0 then acc else acc ||| 2 ^ e.1) 0

/-- RAW (R69): bit n is set while source n is active. Only a listed word can hold an event, as every EVENT register resets to 0. -/
def State.raw (s : State) : Nat := s.regs.foldl (fun acc c => acc ||| s.rawOf c.1 c.2) 0

/-- The enabled sources that are active (R69). -/
def State.enabledRaw (s : State) : Nat := s.raw &&& s.get64 R.SYS_IRQ_EN_LO R.SYS_IRQ_EN_HI

/-- The vectors whose ACTIVE is 1, one bit each (R70). -/
def State.activeVectors (s : State) : Nat :=
  forN 48 (fun n acc => if s.enabledRaw.testBit n then acc ||| 2 ^ s.get (R.SYS_IRQ_MAP_VECTOR n) else acc) 0

/-- HOST_IRQ_N is low: PIN_EN is set and an enabled source is active (R71). -/
def State.irqPinLow (s : State) : Bool := s.flag R.SYS_IRQ_CFG_PIN_EN && s.enabledRaw != 0

/-- Whether vector `v` or the function is masked (R70). -/
def State.vectorMasked (s : State) (v : Nat) : Bool := s.host.msixMasked || s.flag (R.MSIX_VCTRL_MASK v)

/-- Send vector `v`'s message, or set its pending bit while it is masked (R70). In D3hot no message is sent (R44);
the PCIe port exists only while HOST_SEL is low (R40). -/
def State.sendVector (s : State) (v : Nat) : State :=
  if s.flag R.SYS_STRAPS_HOST_SEL then s
  else if s.vectorMasked v then { s with host := { s.host with pba := s.host.pba ||| 2 ^ v } }
  else if s.get R.SYS_PCIE_STATUS_DSTATE = 3 then s
  else s.emit (.msix v)

/-- Bring the messages, the pending bits and HOST_IRQ_N to the sources' present levels (R70, R71). -/
def State.settleIrq (s : State) : State :=
  let now := s.activeVectors
  let was := s.host.irqActive
  let s := if now = was then s else
    forN 64 (fun v s =>
      if now.testBit v && !was.testBit v then s.sendVector v
      else if was.testBit v && !now.testBit v && s.vectorMasked v then
        { s with host := { s.host with pba := s.host.pba &&& (2 ^ 64 - 1 - 2 ^ v) } }
      else s) s
  { s with host := { s.host with irqActive := now }, pins := { s.pins with irqLow := s.irqPinLow } }

/-- Whether a stored word is the status of a flow, serial unit or Spelt lane that is running: not IDLE or STOPPED,
a lane in FAULT counting as stopped (R11, R231, R453). -/
def runsHere (a : Nat) (w : Word) : Bool :=
  if 0x20000 ≤ a ∧ a < 0x28000 ∧ a % 64 = 0x38 then bitsOf w.toNat 1 0 != 0
  else if 0x40000 ≤ a ∧ a < 0x41000 ∧ a % 0x200 = 4 then bitsOf w.toNat 1 0 != 0
  else if 0x44000 ≤ a ∧ a < 0x46000 ∧ a % 0x200 = 4 then bitsOf w.toNat 1 0 != 0
  else if 0x48000 ≤ a ∧ a < 0x48800 ∧ a % 0x400 = 4 then bitsOf w.toNat 1 0 != 0
  else if 0x101000 ≤ a ∧ a < 0x102000 ∧ a % 0x100 = 4 then
    (let v := bitsOf w.toNat 2 0; v == 1 || v == 2 || v == 3)
  else false

/-- The condition of R11: a flow, serial port or Spelt lane is running. -/
def State.anyRunning (s : State) : Bool := s.regs.any (fun c => runsHere c.1 c.2)

/-- Whether address `a` belongs to a unit that is being aborted (R75): its control registers, and a silo's
window (R291). -/
def abortOwns (cls i a : Nat) : Bool :=
  let at_ (base size : Nat) : Bool := decide (base ≤ a) && decide (a < base + size)
  match cls with
  | 1 => at_ (0x101000 + 0x100 * i) 0x100 || at_ (0x108000 + 0x800 * i) 0x800
  | 2 => at_ (0x20000 + 64 * i) 64 || at_ (0x28000 + 64 * i) 64
  | 3 => at_ (0x24000 + 64 * i) 64 || at_ (0x2C000 + 16 * i) 16
  | 4 => at_ (0x50000 + 64 * i) 64 || at_ (0x900000 + 0x1000 * i) 0x1000
  | 5 => at_ (R.portBase i) (if 24 ≤ i then 0x400 else 0x200)
  | 6 => at_ (0x76100 + 0x80 * i) 0x80
  | 7 => at_ (0x58000 + 64 * i) 64
  | 8 => at_ (R.DQ_CFG i) 32 || at_ (0x104000 + 256 * i) 256
  | 9 => at_ (0x74400 + 0x100 * i) 0x100
  | _ => false

/-- Whether a write to address `a` is held behind the running abort: until the whole abort completes (R75). -/
def State.abortHolds (s : State) (a : Nat) : Bool :=
  match s.host.abort with
  | some x => x.named.any (fun i => abortOwns x.cls i a)
  | none => false

/-- A host write to word `a` of an enabled region that is not CYCLIC marks its page dirty in TWIN mode (R406). -/
def State.markDirty (s : State) (a : Nat) : State :=
  if s.get R.TWIN_STATUS_STATE = 0 then s
  else forN 32 (fun k s =>
    if s.flag (R.REGION_BASE_EN k) && !s.flag (R.REGION_BASE_CYCLIC k) then
      let base := s.get (R.REGION_BASE_BASE k) / 4 * 4
      let words := s.get (R.REGION_WORDS_WORDS k)
      let pages := sel ((words + 251) / 252) (fun i =>
        (List.range (min 252 (words - 252 * i))).any (fun j => canon (base + 1008 * i + 4 * j) == a))
      let pages := (pages.map (fun i => (k, i))).filter (fun e => !s.twin.dirty.contains e)
      { s with twin := { s.twin with dirty := s.twin.dirty ++ pages } }
    else s) s

/-- A host port writes word `w` at address `a`, with effect `f`: held while its unit is being aborted (R75). -/
def State.hostPut (s : State) (a : Nat) (w : Word) (f : State → State) : State :=
  if s.pins.inReset then s
  else if s.abortHolds a then { s with host := { s.host with held := s.host.held ++ [(a, w)] } }
  else (f s).markDirty a

/-- The end of a command: the interrupts follow, and the device goes on. -/
def finish (s : State) : Result := .next s.settleIrq

end Sys2Proof.Machine
end

