-- ==== Sys2Proof/Machine/OpenWire.lean ====
section
/-!
DEFINITION. The open-wire currents of the analogue inputs and what they report (R333, R384).
-/
namespace Sys2Proof.Machine

/-- STATUS.PRESENCE takes a value: 0 UNKNOWN, 1 CONNECTED, 2 OPEN, 3 SHORT (R333). -/
def State.setPresence (s : State) (i v : Nat) : State :=
  if s.get (R.ANA_IN_STATUS_PRESENCE i) = v ∨ ¬ s.domOn (if i < 8 then 11 else 12) then s
  else (s.put (R.ANA_IN_STATUS_PRESENCE i) v).raise (R.ANA_IN_EVENT_PRESENCE i)

/-- Whether an input is to have its currents: its bit of IN_EN set, its PHANTOM bit clear and no settle running (R384). -/
def State.owWanted (s : State) (i : Nat) : Bool :=
  s.on .meas && (s.get R.MCV_OW_CTRL_IN_EN).testBit i && !(s.rd R.ANA_PHANTOM).toNat.testBit i
    && !(look {} s.ana.ins i).hold

/-- Currents begin to ramp on or off where what is wanted has changed; an input whose currents ramp off reads UNKNOWN. -/
def State.owCheck (s : State) : State :=
  forN 16 (fun i s =>
    let on := s.meas.owOn.contains i
    if s.owWanted i = on then s
    else if on then
      let s := s.put (R.MCV_OW_STATUS_ON.bit i) 0
      ({ s with meas := { s.meas with owOn := dropFrom s.meas.owOn i
                                      owRamp := addTo s.meas.owRamp i
                                      bands := del s.meas.bands i } }).setPresence i 0
    else { s with meas := { s.meas with owOn := addTo s.meas.owOn i
                                        owRamp := addTo s.meas.owRamp i } }) s

/-- A ramp of an input's currents ends (R384). -/
def State.owRamped (s : State) (i : Nat) : State :=
  if s.meas.owRamp.contains i then
    let s := { s with meas := { s.meas with owRamp := dropFrom s.meas.owRamp i } }
    if s.meas.owOn.contains i then s.put (R.MCV_OW_STATUS_ON.bit i) 1 else s
  else s

/-- A write of OW_CTRL (R384, R386). -/
def State.owCtrlWrite (s : State) (w : Word) : State :=
  if s.on .meas then
    let s := s.wr R.MCV_OW_CTRL (w &&& 0xFFFFF)
    let t := s.get R.MCV_OW_CTRL_THERM_EN
    let s := s.put R.MCV_OW_STATUS_THERM_ON t
    s.owCheck
  else s

end Sys2Proof.Machine
end

