-- ==== Sys2Proof/Machine/Audio.lean ====
section
/-!
DEFINITION. Audio common to every unit: the next boundary, what sources and sinks carry in the present frame, and the
fast mute of a source (R8, R198).
-/
namespace Sys2Proof.Machine

/-- The first index of the next engine frame to begin (R8). -/
def State.nextBoundary (s : State) : Nat :=
  if s.time.index % 8 = 0 ∧ ¬ s.time.begun then s.time.index else (s.time.index / 8 + 1) * 8

/-- The boundary at which an untimed command takes effect: the first that lies one engine frame or more ahead (t_CMD, t_COMMIT and
t_MUTE of Tables 6.8 and 7.10; log entry 284). -/
def State.cmdBoundary (s : State) : Nat := (s.time.index + 8 + 7) / 8 * 8

/-- Whether the next boundary lies less than an engine frame ahead, so that an untimed command acts at the one after it. -/
def State.tooSoon (s : State) : Bool := decide (s.nextBoundary < s.cmdBoundary)

/-- Whether an index has passed: its sample began before now. The sample at a boundary begins with the frame. -/
def State.passed (s : State) (at_ : Nat) : Bool :=
  decide (at_ < s.time.index) || (at_ == s.time.index && !(s.time.index % 8 == 0 && !s.time.begun))

/-- The samples of a source in the present frame; none listed where it is silent. -/
def State.srcNow (s : State) (id : Nat) : List F32 := look [] s.audio.src id

/-- The samples of a sink in the present frame. -/
def State.sinkNow (s : State) (id : Nat) : List F32 := look [] s.audio.sinks id

/-- The samples of a sink that the A-die uses in the present frame: those the D-die made in the frame before it (R18). -/
def State.sinkThere (s : State) (id : Nat) : List F32 := (look (List.replicate 8 0) s.audio.held id).drop (8 - s.audio.len)

/-- The last sample a source presented. -/
def State.srcLast (s : State) (id : Nat) : F32 := ((s.srcNow id).getLast?).getD 0

/-- A source stops (R198): from the next sample presented it fades from its last value, `v`, to zero over 64 samples. -/
def State.srcStopAt (s : State) (id : Nat) (v : F32) : State :=
  match s.route.muted.find? (fun e => e.1 == id) with
  | some (_, m) => if m.returning then { s with route := { s.route with muted := upd s.route.muted id { v } } } else s
  | none => { s with route := { s.route with muted := upd s.route.muted id { v } } }

def State.srcStop (s : State) (id : Nat) : State := s.srcStopAt id (s.srcLast id)

/-- A stopped source returns: it fades in over 64 samples (R198). -/
def State.srcReturn (s : State) (id : Nat) : State :=
  match s.route.muted.find? (fun e => e.1 == id) with
  | some (_, m) =>
    if m.returning then s
    else { s with route := { s.route with muted := upd s.route.muted id { v := 0, returning := true } } }
  | none => s

/-- A source that begins fades in over 64 samples (R198, R228). -/
def State.srcFadeIn (s : State) (id : Nat) : State :=
  { s with route := { s.route with muted := upd s.route.muted id { v := 0, returning := true } } }

/-- Several sources stop, or return. -/
def State.srcsStop (s : State) (first count : Nat) : State := forN count (fun i s => s.srcStop (first + i)) s

def State.srcsReturn (s : State) (first count : Nat) : State := forN count (fun i s => s.srcReturn (first + i)) s

/-- One sample of a source under its fast mute (R198), and the mute after it; none once it has ended. -/
def muteSample (m : SrcMute) (x : F32) : F32 × Option SrcMute :=
  if m.returning then
    ((fmul x (fadeIn64 m.k)).v, if 64 ≤ m.k + 1 then none else some { m with k := m.k + 1 })
  else if 64 ≤ m.k then (0, some m)
  else ((fmul m.v (fadeOut64 m.k)).v, some { m with k := m.k + 1 })

/-- The samples of a source under its fast mute. -/
def muteRun : List F32 → Option SrcMute → List F32 × Option SrcMute
  | [], m => ([], m)
  | x :: t, none => let r := muteRun t none; (x :: r.1, r.2)
  | x :: t, some m =>
    let p := muteSample m x
    let r := muteRun t p.2
    (p.1 :: r.1, r.2)

/-- A unit delivers the samples of a source for the frame that begins. -/
def State.present (s : State) (id : Nat) (xs : List F32) : State :=
  { s with audio := { s.audio with src := upd s.audio.src id xs } }

/-- Free samples: what a rate converter delivers (R201 to R204); the spec gives its response, not its arithmetic (log entry 35). -/
def State.freeSamples : Nat → State → List F32 × State
  | 0, s => ([], s)
  | n + 1, s =>
    let (k, s) := s.draw
    let r := State.freeSamples n s
    (canon32 (Config.freeWord k) :: r.1, r.2)

/-- The sources `sel` admits are presented through their fast mutes (R198). -/
def State.mutePass (s : State) (sel : Nat → Bool) : State :=
  (s.route.muted.filter (fun e => sel e.1)).foldl (fun s e =>
    let xs := let l := s.srcNow e.1; l ++ List.replicate (s.audio.len - l.length) 0
    let r := muteRun xs (some e.2)
    let s := if e.1 < 4096 then s.present e.1 r.1 else s
    { s with route := { s.route with muted :=
      match r.2 with
      | some m => upd s.route.muted e.1 m
      | none => del s.route.muted e.1 } }) s

end Sys2Proof.Machine
end

