-- ==== Sys2Proof/Machine/Route.lean ====
section
/-!
DEFINITION. The route fabric: the shadow table and the commit, crossfades, ramps, mutes, the test tone, the SRC channels and
the direct paths (chapter 7).
-/
namespace Sys2Proof.Machine

/-- The source, ramp code and gain word of a route entry (Table 7.2). -/
def entrySrc (w : Word) : Nat := bitsOf w.toNat 11 0
def entryRamp (w : Word) : Nat := bitsOf w.toNat 15 12
def entryGain (w : Word) : Nat := bitsOf w.toNat 31 16

/-- What a route entry holds at reset: silence, ramp code 15, 0.00 dB (R187). -/
def resetEntry : Word := 0x0000F7FF

/-- The fabric's state for a sink; one it has not had to keep is that of the active entry. -/
def State.sinkSt (s : State) (n : Nat) : SinkSt :=
  let e := s.rd (R.ROUTE_SINK n)
  look { src := entrySrc e, amp := gainAmp (entryGain e) } s.route.sinks n

def State.setSink (s : State) (n : Nat) (k : SinkSt) : State := { s with route := { s.route with sinks := upd s.route.sinks n k } }

/-- The amplitude a sink applies now, with any ramp in progress. -/
def SinkSt.ampNow (k : SinkSt) : F32 :=
  match k.ramp with
  | some r => if r.k = 0 then r.aS else rampAt r.aS r.aT (r.k - 1) r.n
  | none => k.amp

/-- The crossfade length and shape of a ROUTE.CFG word (R190): above 4,096 acts as 4,096. -/
def cfgLen (c : Word) : Nat := min 4096 (R.ROUTE_CFG_XFADE_LEN.ofWord c)
def cfgLin (c : Word) : Bool := R.ROUTE_CFG_SHAPE.ofWord c == 1

/-- A gain change (R191): a ramp from the amplitude reached, or at once where the ramp has no length or the sink cuts. -/
def gainChange (rate : Nat) (cfg e : Word) (cut : Bool) (k : SinkSt) : SinkSt :=
  let a1 := gainAmp (entryGain e)
  let n := rampSamples rate (entryRamp e) (R.ROUTE_CFG_DEF_RAMP.ofWord cfg)
  if cut ∨ n = 0 then { k with amp := a1, ramp := none }
  else { k with amp := a1, ramp := some { aS := k.ampNow, aT := a1, n } }

/-- A source change that may start now (R190, R195). -/
def sourceChange (cfg e : Word) (cut : Bool) (k : SinkSt) : SinkSt :=
  let a1 := gainAmp (entryGain e)
  let n := cfgLen cfg
  { k with
    src := entrySrc e, amp := a1, ramp := none, defer := none
    xf := if cut ∨ n = 0 then none else some { src0 := k.src, amp0 := k.ampNow, n, lin := cfgLin cfg } }

/-- One changed entry becomes active (R189, R194, R195); the result says whether it counts in CHANGED. -/
def State.applyEntry (s : State) (n : Nat) (e cfg : Word) (cut : Bool) : Bool × State :=
  let old := s.rd (R.ROUTE_SINK n)
  if old = e then (false, s)
  else
    let k := s.sinkSt n
    let s := s.wr (R.ROUTE_SINK n) e
    if entrySrc old ≠ entrySrc e then
      if k.xf.isSome ∧ ¬ cut then
        (true, ((s.setSink n { k with defer := some cfg }).raise R.ROUTE_EVENT_DEFER).countSat R.ROUTE_DEFER_CNT_COUNT)
      else (true, s.setSink n (sourceChange cfg e cut k))
    else if entryGain old ≠ entryGain e then (true, s.setSink n (gainChange s.rate cfg e cut k))
    else (false, s.setSink n k)

/-- The words of the store that lie from `lo` up to `hi`. -/
def State.listed (s : State) (lo hi : Nat) : List (Nat × Word) := s.regs.filter (fun c => lo ≤ c.1 && c.1 < hi)

/-- GO: the commit captures its inputs (R188). -/
def State.commitGo (s : State) (w : Word) : State :=
  let timed := R.ROUTE_COMMIT_TIMED.ofWord w == 1
  let nb := s.nextBoundary
  let at_ := s.get64 R.ROUTE_COMMIT_AT_LO R.ROUTE_COMMIT_AT_HI
  let late := timed && decide ((at_ + 7) / 8 * 8 < nb)
  let c : Commit :=
    { shadow := s.listed (R.ROUTE_SHADOW 0) (R.ROUTE_SHADOW 4096), cut := s.listed (R.ROUTE_CUT 0) (R.ROUTE_CUT 128)
      dp := (List.range 8).map (fun n => s.rd (R.ROUTE_DP_CFG n)), swap := R.ROUTE_COMMIT_SWAP.ofWord w, cfg := s.rd R.ROUTE_CFG
      at_ := if !timed then s.cmdBoundary else if late then nb else at_, timed }
  let s := { s with route := { s.route with commit := some c } }
  let s := s.raise R.ROUTE_COMMIT_STATUS_BUSY
  let s := if timed then s.put R.ROUTE_COMMIT_STATUS_LATE (toBit late) else s
  if late then s.raise R.ROUTE_EVENT_COMMIT_LATE else s

/-- REVERT: the active table and direct path settings go into the shadow (R188). -/
def State.revert (s : State) : State :=
  let act := s.listed (R.ROUTE_SINK 0) (R.ROUTE_SINK 4096)
  let s := { s with regs := s.regs.clear (fun a => decide (R.ROUTE_SHADOW 0 ≤ a) && decide (a < R.ROUTE_SHADOW 4096)) }
  let s := act.foldl (fun s c => s.wr (c.1 + 0x4000) c.2) s
  let s := forN 8 (fun n s => s.wr (R.ROUTE_DP_CFG n) (s.rd (R.ROUTE_DP_ACT n))) s
  s.put R.ROUTE_COMMIT_STATUS_RESULT 0

/-- A write of ROUTE.COMMIT (R188): its commands, or its refusals. -/
def State.commitWrite (s : State) (w : Word) : State :=
  if s.on .flowptp then
    let go := R.ROUTE_COMMIT_GO.ofWord w
    let rev := R.ROUTE_COMMIT_REVERT.ofWord w
    let can := R.ROUTE_COMMIT_CANCEL.ofWord w
    let busy := s.flag R.ROUTE_COMMIT_STATUS_BUSY
    if 1 < go + rev + can then s.put R.ROUTE_COMMIT_STATUS_RESULT 2
    else if (go = 1 ∨ rev = 1) ∧ busy then s.put R.ROUTE_COMMIT_STATUS_RESULT 1
    else
      let s := s.wr R.ROUTE_COMMIT (w &&& 0xFFFF0004)
      if go = 1 then s.commitGo w
      else if rev = 1 then s.revert
      else if can = 1 then
        match s.route.commit with
        | some c =>
          if c.timed then
            (({ s with route := { s.route with commit := none } }).clr R.ROUTE_COMMIT_STATUS_BUSY).put R.ROUTE_COMMIT_STATUS_RESULT 3
          else s
        | none => s
      else s
  else s

/-- At boundary B every changed entry becomes active and the commit completes (R188 to R190); the result names the lanes of
COMMIT.SWAP (R197). -/
def State.commitApply (s : State) : Nat × State :=
  match s.route.commit with
  | some c =>
    if s.on .flowptp && s.atBoundary && decide (c.at_ ≤ s.time.index) then
      let sinks := (s.listed (R.ROUTE_SINK 0) (R.ROUTE_SINK 4096)).map (fun e => (e.1 - R.ROUTE_SINK 0) / 4)
      let shadow := c.shadow.map (fun e => ((e.1 - R.ROUTE_SHADOW 0) / 4, e.2))
      let keys := (sinks ++ shadow.map (·.1)).foldl addTo []
      let r := keys.foldl
        (fun (a : Nat × State) n =>
          let cut := (look 0 c.cut (R.ROUTE_CUT (n / 32))).toNat.testBit (n % 32)
          let e := a.2.applyEntry n (look resetEntry shadow n) c.cfg cut
          (a.1 + toBit e.1, e.2)) (0, s)
      let s := forN 8 (fun n s => s.wr (R.ROUTE_DP_ACT n) ((c.dp[n]?).getD 0)) r.2
      let s := { s with route := { s.route with commit := none, dpMoves := s.route.dpMoves ++ [(s.time.index + 8, c.cfg, c.dp)] } }
      let s := ((s.clr R.ROUTE_COMMIT_STATUS_BUSY).put R.ROUTE_COMMIT_STATUS_RESULT 0).put R.ROUTE_COMMIT_STATUS_CHANGED r.1
      (c.swap, s.raise R.ROUTE_EVENT_COMMIT_DONE)
    else (0, s)
  | none => (0, s)

/-- What follows the end of a crossfade (R194): a deferred change starts, or sets the gain. -/
def afterXfade (rate : Nat) (e : Word) (k : SinkSt) : SinkSt :=
  let k := { k with xf := none }
  match k.defer with
  | none => k
  | some cfg =>
    let k := { k with defer := none }
    if entrySrc e ≠ k.src then sourceChange cfg e false k else gainChange rate cfg e false k

/-- A sink's crossfade has run its length (R190, R194). -/
def State.xfadeEnd (s : State) (n : Nat) : State :=
  let k := s.sinkSt n
  match k.xf with
  | some x => if x.n ≤ x.k then s.setSink n (afterXfade s.rate (s.rd (R.ROUTE_SINK n)) k) else s
  | none => s

/-- One sample of a sink before its mute: sources at this sample, the sink's state, and the state after it (R190, R191). -/
def sinkSample (k : SinkSt) (s0 s1 : F32) : F32 × SinkSt :=
  let (a, k) : F32 × SinkSt := match k.ramp with
    | some r =>
      (rampAt r.aS r.aT r.k r.n, if r.n ≤ r.k + 1 then { k with ramp := none } else { k with ramp := some { r with k := r.k + 1 } })
    | none => (k.amp, k)
  match k.xf with
  | none => (if a = 0x3F800000 then s1 else fabMul a s1, k)
  | some x =>
    let u := fratio (x.k + 1) x.n
    let w0 := if x.lin then (fsub 0x3F800000 u).v else cosWeight (x.k + 1) x.n
    let w1 := if x.lin then u else sinWeight (x.k + 1) x.n
    let y := fabAdd (fabMul (fmul w0 x.amp0).v s0) (fabMul (fmul w1 a).v s1)
    (y, { k with xf := some { x with k := x.k + 1 } })

/-- The tone frequency in use: below 20 acts as 20, above 20,000 as 20,000 (Table 7.12). -/
def toneFreq (w : Word) : Nat := max 20 (min 20000 (R.ROUTE_TONE_FREQ.ofWord w))

/-- The test tone at sample `j` of the frame (R200). -/
def State.toneAt (s : State) (j : Nat) : F32 :=
  let amp := match s.route.toneRamp with
    | some r => rampAt r.aS r.aT (r.k + j) r.n
    | none => gainAmp (R.ROUTE_TONE_LEVEL.ofWord s.route.tone)
  (fmul amp (sinTurn (toneFreq s.route.tone * (s.audio.first + j) % s.rate) s.rate)).v

/-- A source's sample at position `j` of the frame, with its fast mute applied; unlisted and reserved sources are silent (R14). -/
def State.srcAt (s : State) (id j : Nat) : F32 :=
  if id = 2046 then s.toneAt j else ((s.srcNow id)[j]?).getD 0

/-- One sample of a sink's mute (R199); its last sample is zero. -/
def fadeSample (muted : Bool) (k : SinkSt) (y : F32) : F32 × SinkSt :=
  match k.fade with
  | some (out, i) =>
    let w := if out then fadeOut64 i else fadeIn64 i
    (if w = 0 then 0 else fabMul y w, { k with fade := if 64 ≤ i + 1 then none else some (out, i + 1) })
  | none => (if muted then 0 else y, k)

/-- A sink's samples over a frame, its state after it, and how many NaNs were replaced (R196). -/
def State.sinkRun (s : State) (muted : Bool) (e : Word) : Nat → Nat → SinkSt → List F32 × SinkSt × Nat
  | 0, _, k => ([], k, 0)
  | m + 1, j, k =>
    let s0 := match k.xf with
      | some x => s.srcAt x.src0 j
      | none => 0
    let p := sinkSample k s0 (s.srcAt k.src j)
    let nan := isNaN32 p.1
    let f := fadeSample muted p.2 (if nan then 0 else p.1)
    let k := match f.2.xf with
      | some x => if x.n ≤ x.k then afterXfade s.rate e f.2 else f.2
      | none => f.2
    let r := State.sinkRun s muted e m (j + 1) k
    (f.1 :: r.1, r.2.1, r.2.2 + toBit nan)

/-- Whether a sink ID drives anything: reserved IDs, and network channels above 511 at 96 kHz, do not (R14, R186). -/
def State.sinkReal (s : State) (n : Nat) : Bool :=
  !(decide (1448 ≤ n) && decide (n < 2048)) && !(s.rate == 96000 && decide (512 ≤ n) && decide (n < 1024))

/-- The sinks that may carry anything but silence. -/
def State.liveSinks (s : State) : List Nat :=
  (((s.listed (R.ROUTE_SINK 0) (R.ROUTE_SINK 4096)).map (fun e => (e.1 - R.ROUTE_SINK 0) / 4)) ++ s.route.sinks.map (·.1)).foldl
    addTo []

/-- Whether a sink's mute bit is set (R199). -/
def State.sinkMuted (s : State) (n : Nat) : Bool := (s.rd (R.ROUTE_MUTE (n / 32))).toNat.testBit (n % 32)

/-- Every sink fades out as a mute fades it, or returns (R394, R409). -/
def State.sinksHold (s : State) (on : Bool) : State :=
  if s.route.hold = on then s
  else
    let s := { s with route := { s.route with hold := on } }
    s.liveSinks.foldl (fun s n => if s.sinkMuted n then s else s.setSink n { s.sinkSt n with fade := some (on, 0) }) s

/-- The fabric gives every sink its samples of the frame (R185). -/
def State.routeFrame (s : State) : State :=
  if s.on .flowptp then
    let s := s.liveSinks.foldl (fun s n =>
      let r := s.sinkRun (s.sinkMuted n || s.route.hold) (s.rd (R.ROUTE_SINK n)) s.audio.len 0 (s.sinkSt n)
      let s := s.setSink n r.2.1
      if s.sinkReal n then
        let s := { s with audio := { s.audio with sinks := upd s.audio.sinks n r.1 } }
        if r.2.2 = 0 then s
        else ((s.put R.ROUTE_NAN_CNT_COUNT (s.get R.ROUTE_NAN_CNT_COUNT + r.2.2)).put R.ROUTE_NAN_LAST_SINK n).raise R.ROUTE_EVENT_NAN
      else s) { s with audio := { s.audio with sinks := [], sinkFirst := s.audio.first } }
    match s.route.toneRamp with
    | some r =>
      { s with route := { s.route with
        toneRamp := if r.n ≤ r.k + s.audio.len then none else some { r with k := r.k + s.audio.len } } }
    | none => s
  else { s with audio := { s.audio with sinks := [], sinkFirst := s.audio.first } }

/-- Sources other than lanes' are presented through their fast mutes at the frame's start; lanes' at its end (R198). -/
def State.fastMutes (s : State) : State := s.mutePass (fun id => decide (id < 2048))

def State.laneMutes (s : State) : State := s.mutePass (fun id => decide (2048 ≤ id) && decide (id < 4096))

/-- Mute and tone writes act at the boundary (R199, R200). -/
def State.mutesAtBoundary (s : State) : State :=
  let due (e : Nat × Bool × Nat) : Bool := decide (e.2.2 ≤ s.time.index)
  let l := s.route.mutes.filter due
  let s := { s with route := { s.route with mutes := s.route.mutes.filter (fun e => !due e) } }
  let s := l.foldl (fun s e =>
    if s.sinkMuted e.1 = e.2.1 then s
    else
      let f : Field := ⟨R.ROUTE_MUTE (e.1 / 32), e.1 % 32, e.1 % 32⟩
      (s.put f (toBit e.2.1)).setSink e.1 { s.sinkSt e.1 with fade := some (e.2.1, 0) }) s
  let w := s.rd R.ROUTE_TONE
  if w = s.route.tone then s
  else
    let old := s.route.tone
    let was := match s.route.toneRamp with
      | some r => rampAt r.aS r.aT r.k r.n
      | none => gainAmp (R.ROUTE_TONE_LEVEL.ofWord old)
    let ramp := if R.ROUTE_TONE_LEVEL.ofWord old = R.ROUTE_TONE_LEVEL.ofWord w then s.route.toneRamp
      else some { aS := was, aT := gainAmp (R.ROUTE_TONE_LEVEL.ofWord w), n := 64 }
    { s with route := { s.route with tone := w, toneRamp := ramp } }

/-- A write of MUTE_SET or MUTE_CLR (R199). -/
def State.muteWrite (s : State) (n : Nat) (mute : Bool) : State :=
  if s.on .flowptp then { s with route := { s.route with mutes := s.route.mutes ++ [(n, mute, s.cmdBoundary)] } } else s

/-- A write of ROUTE.TONE (R200). -/
def State.toneWrite (s : State) (w : Word) : State :=
  if s.on .flowptp then s.wr R.ROUTE_TONE (w &&& 0xFFFF7FFF) else s

/-! SRC channels (R203, R204) -/

def State.srcState (s : State) (n : Nat) : Nat := s.get (R.ROUTE_SRC_STATUS_STATE n)

def State.setSrcState (s : State) (n v : Nat) : State :=
  (s.put (R.ROUTE_SRC_STATUS_STATE n) v).raise R.ROUTE_EVENT_SRC_ACQ

/-- The key under which an SRC channel's output is muted: its source ID, or its sink ID plus 4,096. -/
def State.srcKey (s : State) (n : Nat) : Nat :=
  s.get (R.ROUTE_SRC_STATUS_ID n) + (if s.flag (R.ROUTE_SRC_STATUS_DIR n) then 4096 else 0)

/-- The free SRC channels, lowest first, and the register that counts them. -/
def State.srcFree (s : State) : List Nat := sel 128 (fun n => s.srcState n == 0)

def State.srcShow (s : State) : State := s.put R.ROUTE_SRC_POOL_FREE s.srcFree.length

/-- A port claims one SRC channel for each of the IDs given, with their direction (R203); the caller has checked the room. -/
def State.srcClaim (s : State) (ids : List (Nat × Bool)) : State :=
  let pairs := s.srcFree.zip ids
  let s := pairs.foldl (fun s e =>
    let s := (s.put (R.ROUTE_SRC_STATUS_ID e.1) e.2.1).put (R.ROUTE_SRC_STATUS_DIR e.1) (toBit e.2.2)
    (s.setSrcState e.1 1).srcStop (s.srcKey e.1)) s
  s.srcShow

/-- A port's SRC channels, by their IDs and directions. -/
def State.srcOf (s : State) (ids : List (Nat × Bool)) : List Nat :=
  sel 128 (fun n => s.srcState n != 0 && ids.contains (s.get (R.ROUTE_SRC_STATUS_ID n), s.flag (R.ROUTE_SRC_STATUS_DIR n)))

/-- A port releases its SRC channels (R203). -/
def State.srcRelease (s : State) (ids : List (Nat × Bool)) : State :=
  ((s.srcOf ids).foldl (fun s n =>
    ((s.setSrcState n 0).wr (R.ROUTE_SRC_STATUS n) 0).wr (R.ROUTE_SRC_RATIO n) 0) s).srcShow

/-- An SRC channel finishes acquiring and fades in (R204). -/
def State.srcLock (s : State) (n : Nat) (ratio : Word) : State :=
  if s.on .flowptp && s.srcState n == 1 then
    let s := ((s.setSrcState n 2).wr (R.ROUTE_SRC_RATIO n) ratio).srcReturn (s.srcKey n)
    { s with route := { s.route with ratios := upd s.route.ratios n ratio } }
  else s

/-- A unit's rate changes by more than 1,000 ppm: its channel acquires again (R204). -/
def State.srcRate (s : State) (n : Nat) (ratio : Word) : State :=
  if s.on .flowptp && s.srcState n == 2 then
    ((s.setSrcState n 1).wr (R.ROUTE_SRC_RATIO n) ratio).srcStop (s.srcKey n)
  else s

/-- A LOCKED channel tracks the ratio: RATIO then reads a free value within 1,000 ppm of the ratio it locked to, for a larger change
makes it acquire again (R204; log entry 287). -/
def State.ratioShow (s : State) (n : Nat) : State :=
  if s.on .flowptp && s.srcState n == 2 then
    let base := (look 0 s.route.ratios n).toNat
    let w := base / 1000
    let (k, s) := s.draw
    s.wr (R.ROUTE_SRC_RATIO n) (BitVec.ofNat 32 (base - w + Config.freeNat k % (2 * w + 1)))
  else s

/-! Direct paths (R205, R206) -/

def State.dpath (s : State) (n : Nat) : DPath := look {} s.route.dps n

def State.setDp (s : State) (n : Nat) (d : DPath) : State := { s with route := { s.route with dps := upd s.route.dps n d } }

/-- Whether a setting contributes: enabled, with an OUT below 20 (Table 7.14). -/
def dpOn (w : Word) : Bool := bitOf w.toNat 11 && decide (bitsOf w.toNat 8 4 < 20)

/-- Whether a direct path is held at zero (R206): a domain it needs is off, the A-die is in its safe
state, or its input passes through SETTLING for a core rate change (R453). -/
def State.dpHeld (s : State) (n : Nat) : Bool :=
  let i := bitsOf (s.dpath n).cfg.toNat 3 0
  !s.on (if i < 8 then .ainLo else .ainHi) || !s.on .aout || s.flag R.PWR_STALK_STATUS_SAFE
    || ((look {} s.ana.ins i).rated && s.get (R.ANA_IN_STATUS_STATE i) == 1)

/-- STATUS of a direct path (Table 7.14). -/
def State.dpShow (s : State) (n : Nat) : State :=
  let d := s.dpath n
  let held := s.dpHeld n
  let st := if held then 0 else if d.fade.isSome || !d.olds.isEmpty then 1 else if dpOn d.cfg then 2 else 0
  (s.put (R.ROUTE_DP_STATUS_STATE n) st).put (R.ROUTE_DP_STATUS_HELD n) (toBit held)

/-- The amplitude a direct path has reached, its ramp in it. -/
def DPath.ampNow (d : DPath) : F32 :=
  match d.ramp with
  | some r => if r.k = 0 then r.aS else rampAt r.aS r.aT (r.k - 1) r.n
  | none => d.amp

/-- The setting in use becomes an old one that fades out from the level it has reached. -/
def DPath.retire (d : DPath) : DPath :=
  let w := match d.fade with
    | some k => if k = 0 then 0 else fadeIn64 (k - 1)
    | none => 0x3F800000
  { d with olds := d.olds ++ [{ cfg := d.cfg, amp := (fmul d.ampNow w).v }], fade := none, ramp := none }

/-- Direct path `n` takes a committed setting (R206); `cfg` is ROUTE.CFG as the commit captured it. -/
def State.dpTake (s : State) (cfg : Word) (n : Nat) (w : Word) : State :=
  let d := s.dpath n
  let was := dpOn d.cfg
  let now := dpOn w
  let moved := bitsOf d.cfg.toNat 8 0 != bitsOf w.toNat 8 0
  let gain (v : Word) : Nat := bitsOf v.toNat 31 16
  let d' : DPath := if was && (!now || moved) then d.retire else d
  let d' : DPath :=
    if now && (!was || moved) then { d' with cfg := w, fade := some 0, amp := gainAmp (gain w), ramp := none }
    else if now && gain d.cfg != gain w then
      let len := rampSamples s.rate (bitsOf w.toNat 15 12) (R.ROUTE_CFG_DEF_RAMP.ofWord cfg)
      let ramp := if len = 0 then none else some { aS := d.ampNow, aT := gainAmp (gain w), n := len : SinkRamp }
      { d' with cfg := w, amp := gainAmp (gain w), ramp }
    else { d' with cfg := w }
  (s.setDp n d').dpShow n

/-- The committed direct path settings take effect at B + 8 samples (R206). -/
def State.dpApply (s : State) : State :=
  match s.route.dpMoves with
  | (at_, cfg, ws) :: t =>
    if at_ ≤ s.time.index then
      forN 8 (fun n s => s.dpTake cfg n ((ws[n]?).getD 0)) { s with route := { s.route with dpMoves := t } }
    else s
  | [] => s

/-- What direct path `n` adds at sample `j` of the frame: inputs, outputs and their amplitudes (R205, R206). -/
def State.dpTerms (s : State) (n j : Nat) : List (Nat × Nat × F32) :=
  let d := s.dpath n
  let inOf (w : Word) : Nat := bitsOf w.toNat 3 0
  let outOf (w : Word) : Nat := bitsOf w.toNat 8 4
  let amp := match d.ramp with
    | some r => rampAt r.aS r.aT (r.k + j) r.n
    | none => d.amp
  let amp := match d.fade with
    | some k => (fmul amp (fadeIn64 (k + j))).v
    | none => amp
  let now := if dpOn d.cfg && !s.dpHeld n then [(inOf d.cfg, outOf d.cfg, amp)] else []
  if s.dpHeld n then [] else now ++ d.olds.map (fun o => (inOf o.cfg, outOf o.cfg, (fmul o.amp (fadeOut64 (o.k + j))).v))

/-- Direct paths go on by the samples of a frame; a hold that has ended fades the path back in (R206). -/
def State.dpFrame (s : State) : State :=
  let len := s.audio.len
  forN 8 (fun n s =>
    if has s.route.dps n then
      let d := s.dpath n
      let held := s.dpHeld n
      let back := s.flag (R.ROUTE_DP_STATUS_HELD n) && !held && dpOn d.cfg
      let fade := if back then some 0 else match d.fade with
        | some k => if 64 ≤ k + len then none else some (k + len)
        | none => none
      let ramp := match d.ramp with
        | some r => if r.n ≤ r.k + len then none else some { r with k := r.k + len }
        | none => none
      let olds := (d.olds.map (fun o => { o with k := o.k + len })).filter (fun o => o.k < 64)
      (s.setDp n { d with fade, ramp, olds := if held then [] else olds }).dpShow n
    else s.dpShow n) s

/-- Ramps, crossfades and mutes in progress complete at once (R453). -/
def State.routeComplete (s : State) : State :=
  let s := (s.route.sinks.map (·.1)).foldl (fun s n =>
    let e := s.rd (R.ROUTE_SINK n)
    s.setSink n { src := entrySrc e, amp := gainAmp (entryGain e), fade := none, ramp := none, xf := none, defer := none
                  : SinkSt }) s
  let muted := (s.route.muted.filter (fun e => !e.2.returning)).map (fun e => (e.1, { e.2 with k := 64 }))
  { s with route := { s.route with muted, toneRamp := none } }

/-- The fabric's state goes with FLOWPTP. -/
def State.routeOff (s : State) : State := { s with route := { s.route with
  sinks := [], muted := [], commit := none, mutes := [], tone := 0xF8F803E8, toneRamp := none, dpMoves := [], dps := [] } }

def execRouteCommitGo (w : BitVec 32) (s : State) : Result :=
  finish (s.hostPut (R.ROUTE_COMMIT) (R.ROUTE_COMMIT_GO.inWord w 1) (fun s => s.commitWrite (R.ROUTE_COMMIT_GO.inWord w 1)))
def execRouteRevert (w : BitVec 32) (s : State) : Result :=
  finish (s.hostPut (R.ROUTE_COMMIT) (R.ROUTE_COMMIT_REVERT.inWord w 1) (fun s => s.commitWrite (R.ROUTE_COMMIT_REVERT.inWord w 1)))
def execRouteCancel (w : BitVec 32) (s : State) : Result :=
  finish (s.hostPut (R.ROUTE_COMMIT) (R.ROUTE_COMMIT_CANCEL.inWord w 1) (fun s => s.commitWrite (R.ROUTE_COMMIT_CANCEL.inWord w 1)))
def execXfadeEnd (n : Fin 4096) (s : State) : Result := finish (s.xfadeEnd n)
def execMuteSet (n : Fin 4096) (s : State) : Result := 
  finish (s.hostPut R.ROUTE_MUTE_SET (BitVec.ofNat 32 n) (fun s => s.muteWrite n true))
def execMuteClr (n : Fin 4096) (s : State) : Result := 
  finish (s.hostPut R.ROUTE_MUTE_CLR (BitVec.ofNat 32 n) (fun s => s.muteWrite n false))
def execToneWrite (w : BitVec 32) (s : State) : Result :=
  finish (s.hostPut (R.ROUTE_TONE) w (fun s => s.toneWrite w))
def execSrcLock (n : Fin 128) (ratio : BitVec 32) (s : State) : Result := finish (s.srcLock n ratio)
def execSrcRateChange (n : Fin 128) (ratio : BitVec 32) (s : State) : Result := finish (s.srcRate n ratio)
end Sys2Proof.Machine
end

