-- ==== Sys2Proof/Machine/Analog.lean ====
section
/-!
DEFINITION. The analogue inputs, phantom power, line outputs, headphones and relay drivers (chapter 12). Output n is line
output n, or headphone n − 16.
-/
namespace Sys2Proof.Machine

def State.ain (s : State) (i : Nat) : AinSt := look {} s.ana.ins i
def State.setAin (s : State) (i : Nat) (a : AinSt) : State := { s with ana := { s.ana with ins := upd s.ana.ins i a } }
def State.aout (s : State) (n : Nat) : OutSt := look {} s.ana.outs n
def State.setAout (s : State) (n : Nat) (o : OutSt) : State := { s with ana := { s.ana with outs := upd s.ana.outs n o } }

/-- The domain that holds an input. -/
def ainDom (i : Nat) : Dom := if i < 8 then .ainLo else .ainHi

def State.ainState (s : State) (i : Nat) : Nat := s.get (R.ANA_IN_STATUS_STATE i)

def State.setAinState (s : State) (i v : Nat) : State :=
  if s.ainState i = v then s
  else (s.setAin i { s.ain i with pace := 2, rated := (s.ain i).rated && v == 1 }).put (R.ANA_IN_STATUS_STATE i) v |>.raise (R.ANA_IN_EVENT_STATE i)

/-! Inputs (R321 to R329) -/

/-- An input enters SETTLING with the range it will use (R329); MATCH_OK starts again (R324). -/
def State.ainSettle (s : State) (i : Nat) : State :=
  let a := s.ain i
  let s := s.setAin i { a with range := s.get (R.ANA_IN_CFG_RANGE i), dfilt := s.get (R.ANA_IN_CFG_DFILT i)
                               inv := s.get (R.ANA_IN_CFG_INV i), fade := none, stream := [], fresh := 0, matched := 0
                               settleFrom := s.time.index }
  (s.put (R.ANA_IN_STATUS_MATCH_OK i) 0).setAinState i 1

/-- Whether the configuration asks of a running input what it does not do: OFF, another range, filter or polarity (R329). -/
def State.ainDiffers (s : State) (i : Nat) : Bool :=
  let a := s.ain i
  !s.flag (R.ANA_IN_CFG_EN i) || s.get (R.ANA_IN_CFG_RANGE i) != a.range || s.get (R.ANA_IN_CFG_DFILT i) != a.dfilt
    || s.get (R.ANA_IN_CFG_INV i) != a.inv

/-- A running input that must fade out (R329, R331). -/
def State.ainNeedsFade (s : State) (i : Nat) : Bool := s.ainDiffers i || (s.ain i).hold

/-- A fade-out begins, from the level reached. -/
def fadeOutFrom (f : Option (Bool × Nat)) : Option (Bool × Nat) :=
  match f with
  | some (true, k) => some (false, 64 - min k 64)
  | some (false, k) => some (false, k)
  | none => some (false, 0)

/-- The ramp of R322 from the weight reached, for a weight of 0 or 8: path L takes the 8 samples before. -/
def rampPipe (up : Bool) : Nat → List CombEl → List CombEl
  | _, [] => []
  | j, e :: t =>
    { e with w := if up then max e.w (8 - j) else min e.w j } :: rampPipe up (j + 1) t

/-- The combiner's weight is set for the samples from now on, with its ramp over the 8 before. -/
def AinSt.turn (a : AinSt) (up : Bool) : AinSt := { a with pipe := rampPipe up 0 a.pipe, w := if up then 8 else 0 }

/-- FORCE as it acts: 1 H, 2 L, 3 as 0 (R323). -/
def State.force (s : State) (i : Nat) : Nat := let f := s.get (R.ANA_IN_CFG_FORCE i); if f = 3 then 0 else f

/-- The weight FORCE or the combiner's state asks for. -/
def State.wantL (s : State) (i : Nat) : Bool :=
  match s.force i with
  | 1 => false
  | 2 => true
  | _ => s.flag (R.ANA_IN_STATUS_PATH i)

/-- The corner of a HPF code in mHz (R328). -/
def hpCorner (c : Nat) : Nat := look 1000 [(1, 4000), (2, 20000), (3, 80000)] c

/-- The corner a move has reached. -/
def AinSt.cornerNow (a : AinSt) : Nat := (a.hpFrom * (64 - min a.hpK 64) + a.hpTo * min a.hpK 64) / 64

/-- A change of HPF moves the corner over 64 core samples from where it is (R329). -/
def AinSt.toCorner (a : AinSt) (c : Nat) : AinSt := if a.hpTo = c then a else { a with hpFrom := a.cornerNow, hpTo := c, hpK := 0 }

/-- A write of an input's CFG (R323, R329). In a phantom hold the source is zero already, and the 64 samples of its fade-out are counted
on. -/
def State.ainCfgWrite (s : State) (i : Nat) (w : Word) : State :=
  if s.on (ainDom i) then
    let old := s.rd (R.ANA_IN_CFG i)
    let s := s.wr (R.ANA_IN_CFG i) (w &&& 0x1FFF)
    let new := s.rd (R.ANA_IN_CFG i)
    let a := s.ain i
    let a := if bitsOf old.toNat 7 4 = bitsOf new.toNat 7 4 then a else { a with c := 0 }
    let a := if (a.w != 0) = s.wantL i then a else a.turn (s.wantL i)
    let a := if s.ainState i = 2 then a.toCorner (hpCorner (s.get (R.ANA_IN_CFG_HPF i))) else a
    let s := s.setAin i a
    match s.ainState i with
    | 0 => if s.flag (R.ANA_IN_CFG_EN i) then s.ainSettle i else s
    | 1 =>
      if !s.flag (R.ANA_IN_CFG_EN i) then (s.setAin i { a with fade := none }).setAinState i 0
      else if s.get (R.ANA_IN_CFG_RANGE i) ≠ a.range then s.ainSettle i
      else s.setAin i { a with dfilt := s.get (R.ANA_IN_CFG_DFILT i), inv := s.get (R.ANA_IN_CFG_INV i) }
    | _ =>
      if a.hold ∧ a.fade = some (false, 64) then (if s.ainDiffers i then s.setAin i { a with fade := some (false, 65) } else s)
      else if s.ainNeedsFade i then s.setAin i { a with fade := fadeOutFrom a.fade }
      else s
  else s

/-- t_AIN_SET has passed: RUNNING, with a fade-in (R329). -/
def State.ainSettled (s : State) (i : Nat) : State :=
  if s.on (ainDom i) && s.ainState i == 1 then
    let c := hpCorner (s.get (R.ANA_IN_CFG_HPF i))
    let fade := if (s.ain i).hold then some (false, 64) else some (true, 0)
    (s.setAin i { s.ain i with fade, hpFrom := c, hpTo := c, hpK := 64 }).setAinState i 2
  else s

/-- T_UP in 2^-47 of full scale, and T_DN of an XO_DN code in 2^-23, rounded up (R322). -/
def tUp : Nat := 3535165874045
def tDn (c : Nat) : Nat := look 66634 [(0, 132951), (1, 105607), (2, 83887)] c

/-- HOLD_N (R322). -/
def State.holdN (s : State) (i : Nat) : Nat := look 200 [(0, 2), (1, 10), (2, 50)] (s.get (R.ANA_IN_CFG_HOLD i)) * s.rate * 8 / 1000

/-- The high-pass corner in use: in SETTLING it lies anywhere between the configured one and 80 Hz (R329), a free value. -/
def State.corner (s : State) (i : Nat) : Nat × State :=
  if s.ainState i = 1 then
    let c := hpCorner (s.get (R.ANA_IN_CFG_HPF i))
    let (k, s) := s.draw
    (c + Config.freeNat k % (80001 - c), s)
  else ((s.ain i).cornerNow, s)

/-- A combined sample passes the high-pass and joins the stream (R326). -/
def State.highPass (s : State) (i : Nat) : State :=
  let (c, s) := s.corner i
  let a := s.ain i
  let x := fofScaled a.comb 50
  let y := (fmul (coef (Config.hpPole c s.rate)) (fsub (fadd a.hpY x).v a.hpX).v).v
  s.setAin i { a with hpX := x, hpY := y, stream := (y :: a.stream).take 352, fresh := a.fresh + 1 }

/-- G in 2^-24: 30 dB down, with the trim stored at test and the correction that MATCH reports, both in 0.0001 dB (R321, R324). -/
def State.matchG (s : State) (i r : Nat) : Int :=
  fscaled (ampOf ((Config.matchTrim i r).toInt + sgn 16 (s.get (R.ANA_IN_MATCH_GAIN i)) - 300000)) 24

/-- h' = G × (h − O), exactly, in 2^-47 of the combined full scale (R322, R324); h is in 2^-23 of modulator H's full scale, where it
clips. -/
def State.matchedH (s : State) (i : Nat) (h : Int) : Int :=
  let r := (s.ain i).range
  s.matchG i r * (max (-(2 ^ 23)) (min (2 ^ 23 - 1) h) - Config.matchOffset i r)

/-- A sample serves the matching (R324): |l| from −60 dBFS to T_UP, and H not in overload. In each tenth of a second of such samples MATCH
moves by at most 0.0001 dB, up or down as the estimate asks; after 10 s of them MATCH_OK is set (log entry 42). -/
def State.matchSample (s : State) (i : Nat) (l : Int) (ovl : Bool) : State :=
  if ovl || decide (l.natAbs < 8389) || decide (tUp < l.natAbs * 2 ^ 24) then s
  else
    let m := (s.ain i).matched + 1
    let s := s.setAin i { s.ain i with matched := m }
    let s := if m % (8 * s.rate / 10) = 0 then
        let (k, s) := s.draw
        let g := sgn 16 (s.get (R.ANA_IN_MATCH_GAIN i)) + clampI 1 (Config.freeInt k)
        s.put (R.ANA_IN_MATCH_GAIN i) (unsgn 16 (clampI 32767 g))
      else s
    if m = 80 * s.rate then s.raise (R.ANA_IN_STATUS_MATCH_OK i) else s

/-- One sample at 8 × core rate (R322, R323, R326): path L saturates at ±1.0; under FORCE the combiner switches nothing and counts nothing
(log entry 322). -/
def State.combine (s : State) (i : Nat) (h l : Int) (ovl : Bool) : State :=
  if s.on (ainDom i) && s.ainState i != 0 then
    let hp := s.matchedH i h
    let s := s.matchSample i l ovl
    let a := s.ain i
    let lo := s.flag (R.ANA_IN_STATUS_PATH i)
    let auto := s.force i == 0
    let up := auto && !lo && (decide (tUp ≤ hp.natAbs) || ovl)
    let c := if auto && lo && decide (l.natAbs < tDn (s.get (R.ANA_IN_CFG_XO_DN i))) then a.c + 1 else 0
    let down := auto && lo && c == s.holdN i
    let a := if up then { a.turn true with c := 0 } else if down then { a.turn false with c := 0 } else { a with c }
    let full := decide (2 ^ 23 - 1 ≤ l.natAbs)
    let pipe := { h := hp, l := if !full then l else if l < 0 then -(2 ^ 23) else 2 ^ 23, w := a.w : CombEl } :: a.pipe
    let comb := match pipe[8]? with
      | some e => (8 - (e.w : Int)) * e.h + e.w * e.l * 2 ^ 24
      | none => 0
    let s := (s.setAin i { a with pipe := pipe.take 8, comb, clip := a.clip || full }).highPass i
    let s := if full then (s.raise (R.ANA_IN_STATUS_CLIP i)).raise (R.ANA_IN_EVENT_CLIP i) else s
    if up then ((s.put (R.ANA_IN_STATUS_PATH i) 1).count (R.ANA_IN_XO_CNT_COUNT i)).raise (R.ANA_IN_EVENT_XO i)
    else if down then s.put (R.ANA_IN_STATUS_PATH i) 0
    else s
  else s

/-- The sample with which the count c reaches HOLD_N (R322). -/
def State.switchDown (s : State) (i : Nat) (h l : Int) : State :=
  if s.flag (R.ANA_IN_STATUS_PATH i) && (s.ain i).c + 1 == s.holdN i && s.force i == 0
      && decide (l.natAbs < tDn (s.get (R.ANA_IN_CFG_XO_DN i))) then s.combine i h l false else s

/-- 10 s of matching samples have accumulated (R324). -/
def State.matchedOk (s : State) (i : Nat) (gain : Nat) : State :=
  if s.on (ainDom i) && s.ainState i != 0 then (s.put (R.ANA_IN_MATCH_GAIN i) gain).raise (R.ANA_IN_STATUS_MATCH_OK i) else s

/-- The weight of a fade at sample `j` from now. -/
def fadeW (f : Option (Bool × Nat)) (j : Nat) : F32 :=
  match f with
  | none => 0x3F800000
  | some (true, k) => fadeIn64 (k + j)
  | some (false, k) => fadeOut64 (k + j)

/-- The absolute value of a finite sample, and the larger of two words' magnitudes. -/
def peakOf (p x : F32) : F32 := let y := x &&& 0x7FFFFFFF; if flt p y then y else p

/-- A fade-out has ended: OFF, a new range, a new filter, or a hold for phantom (R329, R331). -/
def State.ainFaded (s : State) (i : Nat) : State :=
  let a := s.ain i
  if !s.flag (R.ANA_IN_CFG_EN i) then (s.setAin i { a with fade := none }).setAinState i 0
  else if a.rated ∨ s.get (R.ANA_IN_CFG_RANGE i) ≠ a.range then s.ainSettle i
  else
    s.setAin i { a with dfilt := s.get (R.ANA_IN_CFG_DFILT i), inv := s.get (R.ANA_IN_CFG_INV i)
                        fade := if a.hold then some (false, 64) else some (true, 0) }

/-- The samples at 8 times the core rate that the frame that has ended lacks, for no command gave them, are free (log entry 35). -/
def State.ainFill (s : State) (i : Nat) : State :=
  let a := s.ain i
  let fs := s.freeSamples (8 * s.audio.len - a.fresh)
  fs.2.setAin i { a with stream := ((fs.1.map (fun x => if isNaN32 x then 0 else x)) ++ a.stream).take 352
                         fresh := max a.fresh (8 * s.audio.len) }

/-- An input delivers, at the A-die, its part of the frame that has ended (R18, R205, R326, R327, R329). -/
def State.ainPresent (s : State) (i : Nat) : State :=
  if s.on (ainDom i) then
    let a := s.ain i
    let s := (if a.clip then s.count (R.ANA_IN_CLIP_CNT_COUNT i) else s).put (R.ANA_IN_STATUS_CLIP i) 0
    let s := s.setAin i { a with clip := false }
    if s.ainState i = 2 then
      let len := s.audio.len
      let s := s.ainFill i
      let b := s.ain i
      let xs := (List.range len).map (fun j =>
        let y := decimate (convCode a.dfilt) (b.stream.drop (b.fresh - 8 * (j + 1)))
        (fmul (if a.inv = 1 then fneg y else y) (fadeW a.fade (j * a.pace / 2))).v)
      let direct := (List.range (8 * len)).map (fun k =>
        (fmul ((b.stream[b.fresh - (k + 1)]?).getD 0) (fadeW a.fade (k / 8 * a.pace / 2))).v)
      let step := len * a.pace / 2
      let s := s.setAin i { b with fresh := b.fresh - 8 * len, hpK := min 64 (b.hpK + len) }
      let s := ({ s with audio := { s.audio with ins := upd s.audio.ins i xs, direct := upd s.audio.direct i direct } }).put (R.ANA_IN_PEAK_PEAK i)
        (xs.foldl peakOf (s.rd (R.ANA_IN_PEAK i))).toNat
      match a.fade with
      | some (true, k) => s.setAin i { s.ain i with fade := if 64 ≤ k + step then none else some (true, k + step) }
      | some (false, k) =>
        if a.hold ∧ k = 64 then s
        else if 64 < k then
          let s := s.setAin i { s.ain i with fade := some (false, k + step) }
          if 128 ≤ k + step then s.ainFaded i else s
        else
          let s := s.setAin i { s.ain i with fade := some (false, min 64 (k + step)) }
          if 64 ≤ k + step then s.ainFaded i else s
      | none => s
    else s.setAin i { s.ain i with fresh := (s.ain i).fresh - 8 * s.audio.len }
  else s

/-! Phantom power (R330 to R332) -/

/-- The word as sent: inverted where INV is set (R330). -/
def State.phantomWord (s : State) : BitVec 16 :=
  let w := (s.rd R.ANA_PHANTOM).setWidth 16
  if s.flag R.ANA_PH_CFG_INV then ~~~w else w

def State.setPh (s : State) (i v : Nat) : State :=
  if s.get (R.ANA_IN_STATUS_PH i) = v then s
  else if s.on (ainDom i) then (s.put (R.ANA_IN_STATUS_PH i) v).raise (R.ANA_IN_EVENT_PH i)
  else s

/-- A word at the pins (R330): its bits, most significant first, change at the falling edges of PH_SCLK, and PH_LE pulses after them. -/
def phantomHalves (w : BitVec 16) : List (Bool × Bool × Bool) :=
  ((List.range 16).flatMap (fun k => let b := w.toNat.testBit (15 - k); [(false, b, false), (true, b, false)]))
    ++ [(false, false, true), (false, false, true), (false, false, false)]

/-- A word is sent to the latch. -/
def State.phantomEmit (s : State) : State := (s.emit (.phantom s.phantomWord)).emit (.phantomPins (phantomHalves s.phantomWord))

/-- The word is sent once every input it changes has faded out, and their settles begin (R331). In the safe state the latch holds its last
word (R330). -/
def State.phantomSend (s : State) : State :=
  let l := s.ana.phSend
  let ready := l.all (fun i => s.ainState i != 2 || (match (s.ain i).fade with | some (false, k) => decide (64 ≤ k) | _ => false))
  if l.isEmpty ∨ !ready ∨ s.flag R.PWR_STALK_STATUS_SAFE then s
  else
    let s := { s with ana := { s.ana with phSend := [] } }
    l.foldl (fun s i => s.setPh i 1) s.phantomEmit

/-- A write of PHANTOM once its guard has passed (R331). -/
def State.phantomWrite (s : State) (w : Word) : State :=
  let new := w &&& 0xFFFF
  let ch := (new ^^^ s.rd R.ANA_PHANTOM).toNat
  let s := s.wr R.ANA_PHANTOM new
  if ch = 0 then s
  else
    let l := sel 16 ch.testBit
    let s := l.foldl (fun s i =>
      let a := s.ain i
      s.setAin i { a with hold := true, fade := if s.ainState i = 2 then fadeOutFrom a.fade else a.fade }) s
    (({ s with ana := { s.ana with phSend := l.foldl addTo s.ana.phSend } }).phantomSend).owCheck

/-- The 10 ms refresh (R330): not in the safe state. -/
def State.phantomRefresh (s : State) : State :=
  if s.flag R.ANA_PH_CFG_REFRESH && !s.flag R.PWR_STALK_STATUS_SAFE && s.pins.aReleased then s.phantomEmit else s

/-- The settle of R331 ends: the source fades back in. STATUS.PH takes the class that the monitor's last 4 samples agree on, and waits for
four where they do not (R332). -/
def State.phantomSettled (s : State) (i : Nat) : State :=
  let a := s.ain i
  if a.hold && !s.ana.phSend.contains i then
    let s := s.setAin i { a with hold := false, fade := if s.ainState i = 2 ∧ ¬ a.rated then some (true, 0) else a.fade }
    let s := if s.ainDiffers i && s.ainState i == 2 then (s.setAin i { s.ain i with fade := some (false, 64) }).ainFaded i else s
    (if 4 ≤ a.agree then s.setPh i a.ph else s).owCheck
  else s

/-- The class of a common-mode voltage (R332). -/
def State.phClass (s : State) (i mv : Nat) : Nat :=
  if (s.rd R.ANA_PHANTOM).toNat.testBit i then
    (if mv < 12000 then 4 else if mv < 1000 * s.get R.ANA_PH_CFG_NOLOAD then 2 else 3)
  else if mv < 4000 then 0 else 4

/-- A sample of the common-mode monitor: STATUS.PH follows 4 that agree, except while the settle runs (R332). -/
def State.phantomSample (s : State) (i mv : Nat) : State :=
  if s.on (ainDom i) then
    let a := s.ain i
    let c := s.phClass i mv
    let n := if c = a.ph then min 4 (a.agree + 1) else 1
    let s := s.setAin i { a with ph := c, agree := n }
    if 4 ≤ n ∧ (a.hold = false ∨ s.ana.phSend.contains i) then s.setPh i c else s
  else s

/-! Outputs and relay drivers (R334 to R338) -/

/-- 0 OFF, 1 CM_UP, 2 STOPPED, 3 STARTING, 4 RUNNING, 5 STOPPING, 6 CM_DOWN, 7 HELD (Table 12.11). -/
def State.outState (s : State) (n : Nat) : Nat := s.get (R.ANA_O_STATUS_STATE n)

def State.setOutState (s : State) (n v : Nat) : State :=
  if s.outState n = v then s
  else (s.setAout n { s.aout n with pace := 2 }).put (R.ANA_O_STATUS_STATE n) v |>.raise (R.ANA_O_EVENT_STATE n)

/-- The outputs of a GROUP code (Table 12.10). -/
def groupOf (g : Nat) : List Nat :=
  look [] [(1, List.range 8), (2, (List.range 8).map (· + 8)), (3, [16]), (4, [17]), (5, List.range 16)] g

def State.members' (s : State) (k : Nat) : List Nat := groupOf (s.get (R.ANA_MUTE_GROUP k))

/-- The drivers that serve an output. -/
def State.driversOf (s : State) (n : Nat) : List Nat := sel 4 (fun k => (s.members' k).contains n)

def State.asserted (s : State) (k : Nat) : Bool := s.flag (R.ANA_MUTE_ASSERTED k)

/-- A driver changes, and RELAY_T begins (R337). A member in STARTING begins its fade-in only after the next release (log entry 323). -/
def State.setDriver (s : State) (k : Nat) (on : Bool) : State :=
  if s.asserted k = on then s
  else
    let s := s.put (R.ANA_MUTE_ASSERTED k) (toBit on)
    let s := if on then (s.members' k).foldl (fun s n =>
        if s.outState n = 3 then s.setAout n { s.aout n with fade := none, grouped := false } else s) s else s
    { s with ana := { s.ana with relayWait := addTo s.ana.relayWait k } }

/-- An output still fades out. -/
def State.fadingOut (s : State) (n : Nat) : Bool :=
  match (s.aout n).fade with
  | some (false, k) => decide (k < 64)
  | _ => false

/-- Whether a driver must be asserted (R337): a member ramps, is held or waits to ramp, or none is STARTING or RUNNING or
still fades out. -/
def State.mustAssert (s : State) (k : Nat) : Bool :=
  let l := s.members' k
  s.flag R.PWR_STALK_STATUS_SAFE || s.pwr.fading.contains 13
    || l.any (fun n => s.outState n == 1 || s.outState n == 6 || s.outState n == 7 || (s.aout n).want.isSome)
    || !l.any (fun n => s.outState n == 3 || s.outState n == 4 || (s.outState n == 5 && s.fadingOut n))

/-- Siblings of an output that waits to ramp fade out (R337). -/
def State.groupFade (s : State) (k : Nat) : State :=
  let l := s.members' k
  if !s.asserted k && l.any (fun n => (s.aout n).want.isSome) then
    l.foldl (fun s n =>
      let o := s.aout n
      if s.outState n = 4 ∧ ¬ o.grouped ∧ o.want.isNone then
        (s.setAout n { o with grouped := true, fade := fadeOutFrom o.fade }).raise (R.ANA_O_EVENT_GROUP_MUTE n)
      else s) s
  else s

/-- A driver takes the level its group asks for; it waits for fades before it is asserted. A unit that does not own the outputs
holds every driver asserted (R395). -/
def State.driverStep (s : State) (k : Nat) : State :=
  let g := s.get (R.ANA_MUTE_GROUP k)
  if !s.owns then s.setDriver k true
  else if (groupOf g).isEmpty then s.setDriver k (s.flag (R.ANA_MUTE_HOST_MUTE k) || s.flag R.PWR_STALK_STATUS_SAFE)
  else if s.mustAssert k then (if (s.members' k).any s.fadingOut then s else s.setDriver k true)
  else s.setDriver k false

/-- Every driver of an output stands where asked, for RELAY_T. -/
def State.relaysAt (s : State) (n : Nat) (on : Bool) : Bool :=
  (s.driversOf n).all (fun k => s.asserted k == on && !s.ana.relayWait.contains k)

/-- An output goes on where its drivers allow it (R336, R337). In the safe state a start goes no further than HELD (R21). -/
def State.outStep (s : State) (n : Nat) : State :=
  let o := s.aout n
  match o.want with
  | some up =>
    if s.relaysAt n true ∧ ¬ s.fadingOut n then (s.setAout n { o with want := none, fade := none }).setOutState n
        (if !up then 6 else if s.flag R.PWR_STALK_STATUS_SAFE then 7 else 1)
    else s
  | none =>
    let released := s.relaysAt n false
    if s.outState n = 3 ∧ released ∧ (o.fade.isNone ∨ o.grouped) then s.setAout n { o with fade := some (true, 0), grouped := false }
    else if s.outState n = 4 ∧ o.grouped ∧ released then s.setAout n { o with fade := some (true, 0), grouped := false }
    else s

/-- An output gives out its signal: it fades, runs or stops (R336). -/
def State.outLive (s : State) (n : Nat) : Bool :=
  let st := s.outState n
  (st == 3 && (s.aout n).fade.isSome) || st == 4 || st == 5

/-- Drivers and outputs settle after any change. -/
def State.anaSettle (s : State) : State :=
  let s := forN 4 (fun k s => s.groupFade k) s
  let s := forN 4 (fun k s => s.driverStep k) s
  let s := forN 18 (fun n s => s.outStep n) s
  forN 4 (fun k s => s.driverStep k) s

/-- A write of an output's CTRL (R336). -/
def State.outCtrlWrite (s : State) (n : Nat) (w : Word) : State :=
  if s.on .aout then
    let st := s.outState n
    let o := s.aout n
    match bitsOf w.toNat 1 0 with
    | 1 =>
      if st = 0 then ((s.put (R.ANA_O_STATUS_SC n) 0).setAout n { o with want := some true, stopReq := false, offReq := false }).anaSettle
      else if st = 2 then ((s.setAout n { o with fade := none, want := none, offReq := false }).setOutState n 3).anaSettle
      else if st = 1 then s.setAout n { o with stopReq := false }
      else s
    | 2 =>
      if st = 1 then s.setAout n { o with stopReq := true }
      else if st = 3 ∨ st = 4 then
        let f := if st = 3 ∧ o.fade.isNone then some (false, 64) else fadeOutFrom o.fade
        ((s.setAout n { o with fade := f, grouped := false }).setOutState n 5).anaSettle
      else s
    | 3 =>
      if st = 0 ∨ st = 6 ∨ st = 7 then s
      else if st = 3 ∨ st = 4 ∨ st = 5 then
        let f := if st = 3 ∧ o.fade.isNone then some (false, 64) else fadeOutFrom o.fade
        ((s.setAout n { o with fade := f, grouped := false, offReq := true, want := some false }).setOutState n 5).anaSettle
      else (s.setAout n { o with want := some false, offReq := true }).anaSettle
    | _ => s
  else s

/-- A common-mode ramp completes (Table 12.4). -/
def State.cmRampDone (s : State) (n : Nat) : State :=
  let o := s.aout n
  if !s.on .aout then s
  else if s.outState n = 1 then
    ((s.setAout n { o with fade := none, stopReq := false }).setOutState n (if o.stopReq then 2 else 3)).anaSettle
  else if s.outState n = 6 then ((s.setAout n { o with offReq := false, fade := none }).setOutState n 0).anaSettle
  else s

/-- A signal fade of 64 core samples completes (R336, R337). -/
def State.outFadeDone (s : State) (n : Nat) : State :=
  let o := s.aout n
  match o.fade with
  | some (up, k) =>
    if s.on .aout && decide (64 ≤ k) then
      if up then
        let s := s.setAout n { o with fade := none }
        (if s.outState n = 3 then s.setOutState n 4 else s).anaSettle
      else if s.outState n = 5 then
        (if o.offReq then s else (s.setAout n { o with fade := none }).setOutState n 2).anaSettle
      else s.anaSettle
    else s
  | none => s

/-- RELAY_T has passed since driver `k` changed. -/
def State.relayExpire (s : State) (k : Nat) : State :=
  ({ s with ana := { s.ana with relayWait := dropFrom s.ana.relayWait k } }).anaSettle

/-- A write of MUTE[k] (R337). -/
def State.muteRegWrite (s : State) (k : Nat) (w : Word) : State :=
  (s.wr (R.ANA_MUTE k) ((w &&& 0xF) ||| (s.rd (R.ANA_MUTE k) &&& 0x10))).anaSettle

/-- The current limit has acted for t_HPSC: the amplifier turns off (R335). -/
def State.hpShort (s : State) (h : Nat) : State :=
  let n := 16 + h
  if s.on .aout && s.outState n != 0 then
    let s := ((s.setAout n { s.aout n with fade := none, want := none, stopReq := false, offReq := false, grouped := false }).setOutState
      n 0).raise (R.ANA_O_STATUS_SC n)
    ((s.raise (R.ANA_O_EVENT_SC n)).countSat (R.ANA_O_CNT_SC_CNT n)).anaSettle
  else s

/-- HPDET_h as the board drives it. -/
def State.hpPin (s : State) (h : Nat) : Bool := if h = 0 then s.pins.hpdet0 else s.pins.hpdet1

def State.setHpPin (s : State) (h : Nat) (v : Bool) : State :=
  { s with pins := if h = 0 then { s.pins with hpdet0 := v } else { s.pins with hpdet1 := v } }

/-- Whether a pin level means inserted (R338). -/
def State.inserted (s : State) (h : Nat) (level : Bool) : Bool := level == s.flag (R.ANA_O_CFG_DET_POL (16 + h))

/-- A fade-in begins, from the level reached. -/
def fadeInFrom (f : Option (Bool × Nat)) : Option (Bool × Nat) :=
  match f with
  | some (false, k) => some (true, 64 - min k 64)
  | some (true, k) => some (true, k)
  | none => none

/-- The jack mute takes or leaves a headphone under AUTO (R338). -/
def State.jackMute (s : State) (h : Nat) (mute : Bool) : State :=
  let n := 16 + h
  let live := s.outState n == 3 || s.outState n == 4
  if mute then
    if s.flag (R.ANA_O_CFG_AUTO n) && live && !s.flag (R.ANA_O_STATUS_JACK_MUTED n) then
      (s.raise (R.ANA_O_STATUS_JACK_MUTED n)).setAout n { s.aout n with jackFade := fadeOutFrom (s.aout n).jackFade }
    else s
  else if s.flag (R.ANA_O_STATUS_JACK_MUTED n) then
    (s.clr (R.ANA_O_STATUS_JACK_MUTED n)).setAout n { s.aout n with jackFade := fadeInFrom (s.aout n).jackFade }
  else s

/-- The pin does not agree with the debounced state: an unstable interval begins, and towards absence the mute acts (R338). -/
def State.hpUnstable (s : State) (h : Nat) : State :=
  let s := s.setAout (16 + h) { s.aout (16 + h) with unstable := true }
  if s.inserted h (s.hpPin h) then s else s.jackMute h true

/-- An edge on HPDET_h (R338); while AOUT is off the pin alone changes. -/
def State.hpEdge (s : State) (h : Nat) (level : Bool) : State :=
  let n := 16 + h
  if level = s.hpPin h then s
  else
    let s := s.setHpPin h level
    if s.on .aout then (if (s.aout n).unstable then s.countSat (R.ANA_O_CNT_DET_OVF n) else s).hpUnstable h else s

/-- The pin as AOUT comes up, or under another DET_POL, is debounced where it does not agree with STATUS.JACK (R338). -/
def State.hpLook (s : State) (h : Nat) : State :=
  if s.on .aout && s.inserted h (s.hpPin h) != s.flag (R.ANA_O_STATUS_JACK (16 + h)) then s.hpUnstable h else s

/-- A write of an output's CFG: LEVEL only in OFF (R334). -/
def State.outCfgWrite (s : State) (n : Nat) (w : Word) : State :=
  if 16 ≤ n then (s.wr (R.ANA_O_CFG n) (w &&& 0xFF)).hpLook (n - 16)
  else
    let lv := if s.outState n = 0 then w &&& 4 else s.rd (R.ANA_O_CFG n) &&& 4
    s.wr (R.ANA_O_CFG n) ((w &&& 0xB) ||| lv)

/-- The pin has held its level for DEBOUNCE (R338). -/
def State.hpDebounced (s : State) (h : Nat) : State :=
  let n := 16 + h
  let o := s.aout n
  if s.on .aout && o.unstable then
    let s := s.setAout n { o with unstable := false }
    let in_ := s.inserted h (s.hpPin h)
    let was := s.flag (R.ANA_O_STATUS_JACK n)
    let s := s.put (R.ANA_O_STATUS_JACK n) (toBit in_)
    let s := if in_ && !was then s.raise (R.ANA_O_EVENT_JACK_IN n) else if was && !in_ then s.raise (R.ANA_O_EVENT_JACK_OUT n) else s
    s.jackMute h (!in_)
  else s

/-- A headphone that is STARTING or RUNNING under AUTO without a jack is held at zero; one that is neither, or that AUTO no longer names, is
held no longer (R338). -/
def State.jackCheck (s : State) (h : Nat) : State :=
  let n := 16 + h
  if s.on .aout && (s.outState n == 3 || s.outState n == 4) && s.flag (R.ANA_O_CFG_AUTO n) && !s.flag (R.ANA_O_STATUS_JACK n)
      && !s.flag (R.ANA_O_STATUS_JACK_MUTED n) then
    (s.raise (R.ANA_O_STATUS_JACK_MUTED n)).setAout n { s.aout n with jackFade := some (false, 64) }
  else if s.on .aout && s.flag (R.ANA_O_STATUS_JACK_MUTED n) then
    if s.outState n < 3 ∨ 5 < s.outState n then (s.clr (R.ANA_O_STATUS_JACK_MUTED n)).setAout n { s.aout n with jackFade := none }
    else if s.flag (R.ANA_O_CFG_AUTO n) then s
    else s.jackMute h false
  else s

/-- The sinks of an output. -/
def outSinks (n : Nat) : List Nat := if n < 16 then [1424 + n] else [1440 + 2 * (n - 16), 1441 + 2 * (n - 16)]

/-- What direct paths add to an output channel at sample `k` of the frame's samples at 8 times the core rate (R205). -/
def State.directAt (s : State) (ch k : Nat) : F32 :=
  (List.range 8).foldl (fun a n =>
    (s.dpTerms n (k / 8)).foldl (fun a e =>
      if e.2.1 = ch then (ffma e.2.2 (((look [] s.audio.direct e.1)[k]?).getD 0) a).v else a) a) 0

/-- A sum saturates at full scale (R205, R334): the sample, and whether it did. -/
def fullScale (x : F32) : F32 × Bool :=
  if flt 0x3F800000 (x &&& 0x7FFFFFFF) then (if x.msb then 0xBF800000 else 0x3F800000, true) else (x, false)

/-- The sink samples an output channel has taken, newest first, with those of the frame that has ended. -/
def State.outStream (s : State) (id : Nat) : List F32 := ((s.sinkThere id).reverse ++ look [] s.ana.outPast id).take 56

/-- An output channel over the frame that has ended, at 8 times the core rate: the interpolated sink and the direct paths that feed it, as a
sum that saturates (R205, R334). -/
def State.outSum (s : State) (n ch : Nat) : List (F32 × Bool) :=
  let past := s.outStream (1424 + ch)
  let len := s.audio.len
  let f := convCode (s.get (R.ANA_O_CFG_IFILT n))
  (List.range (8 * len)).map (fun k =>
    fullScale (fadd (interpolate f (k % 8) (past.drop (len - (k / 8 + 1)))) (s.directAt ch k)).v)

/-- An output's full scale in mV rms: LEVEL halves a line output's (R334, R335). -/
def State.outLevel (s : State) (n : Nat) : Nat := if 16 ≤ n then 2200 else if s.flag (R.ANA_O_CFG_LEVEL n) then 1000 else 2000

/-- The fades of an output act on the sum (R336, R338), and a line output's polarity. -/
def State.outFaded (s : State) (n : Nat) (xs : List F32) : List F32 :=
  let o := s.aout n
  let w (f : Option (Bool × Nat)) (pace k : Nat) (x : F32) : F32 :=
    if f.isNone then x else (fmul x (fadeW f (k / 8 * pace / 2))).v
  (xs.zip (List.range xs.length)).map (fun e =>
    let y := w o.jackFade 2 e.2 (w o.fade o.pace e.2 e.1)
    if n < 16 ∧ s.flag (R.ANA_O_CFG_INV n) then fneg y else y)

/-- An output over a frame: what it drives, whether a sum saturated, and its fades (R334 to R336). In STARTING it drives once its fade has
begun. -/
def State.outFrame (s : State) (n : Nat) : State :=
  if s.powered .aout then
    let o := s.aout n
    let go (pace : Nat) (f : Option (Bool × Nat)) : Option (Bool × Nat) :=
      f.map (fun e => (e.1, min 64 (e.2 + s.audio.len * pace / 2)))
    let jf := match go 2 o.jackFade with
      | some (true, 64) => none
      | f => f
    let sums := if s.outLive n then (outSinks n).map (fun id => (id, s.outSum n (id - 1424))) else []
    let clip := sums.any (fun e => e.2.any (·.2))
    let s := sums.foldl (fun s e => s.emit (.analog (e.1 - 1424) (s.outLevel n) (s.outFaded n (e.2.map (·.1))))) s
    let past := (outSinks n).foldl (fun l id => upd l id (s.outStream id)) s.ana.outPast
    let s : State := { s with ana := { s.ana with outPast := past } }
    let s := s.setAout n { o with fade := go o.pace o.fade, jackFade := jf }
    let s := s.put (R.ANA_O_STATUS_CLIP n) (toBit clip)
    if clip then (s.raise (R.ANA_O_EVENT_CLIP n)).count (R.ANA_O_CLIP_CNT_COUNT n) else s
  else s

/-- The analogue block at a frame boundary: inputs deliver, fades go on, a waiting phantom word is sent. -/
def State.anaInputs (s : State) : State :=
  (forN 16 (fun i (s : State) => s.ainPresent i) { s with audio := { s.audio with ins := [], direct := [] } }).phantomSend

def State.anaOutputs (s : State) : State := forN 2 (fun h s => s.jackCheck h) (forN 18 (fun n s => s.outFrame n) s)

/-! The safe state and power (R21, R22, R336, R339) -/

/-- The A-die enters its safe state: outputs are HELD and every driver is asserted. -/
def State.outsHold (s : State) : State :=
  let s := forN 18 (fun n s =>
    if s.outState n = 0 then s.setAout n { s.aout n with want := none }
    else (s.setAout n { unstable := (s.aout n).unstable }).setOutState n 7) s
  forN 4 (fun k s => s.setDriver k true) s

/-- RESUME: HELD outputs are STOPPED (R22). -/
def State.outsResume (s : State) : State := (forN 18 (fun n s => if s.outState n = 7 then s.setOutState n 2 else s) s).anaSettle

/-- AOUT begins to turn off or to reset (R339): drivers with outputs in their groups are asserted, and the signals are zeroed over the
fade of R336 (log entry 325). -/
def State.aoutStop (s : State) : State :=
  let s' := forN 4 (fun k s => if (groupOf (s.get (R.ANA_MUTE_GROUP k))).isEmpty then s else s.setDriver k true) s
  forN 18 (fun n t =>
    t.setAout n { t.aout n with want := none, fade := if s.outLive n then fadeOutFrom (s.aout n).fade else (t.aout n).fade }) s'

/-- AOUT goes off: the outputs are OFF (R339). -/
def State.aoutOff (s : State) : State :=
  { s with ana := { s.ana with outs := [], outPast := [] } }

/-- AIN_LO or AIN_HI goes off: its inputs are OFF without a fade of their own (R339). A settle of R331 goes on: it is the bus's. -/
def State.ainOff (s : State) (first : Nat) : State :=
  let s := forN 8 (fun k s => if s.ainState (first + k) = 2 then s.srcStop (1424 + first + k) else s) s
  { s with ana := { s.ana with
    ins := s.ana.ins.filterMap (fun e =>
      if first ≤ e.1 ∧ e.1 < first + 8 then (if e.2.hold then some (e.1, { hold := true, agree := 0 }) else none) else some e) } }

/-- AIN_LO or AIN_HI comes up: a settle that still runs shows (R331). -/
def State.ainWake (s : State) (first : Nat) : State :=
  forN 8 (fun k s =>
    let i := first + k
    if (s.ain i).hold && !s.ana.phSend.contains i then s.put (R.ANA_IN_STATUS_PH i) 1 else s) s

def execAinCfgWrite (i : Fin 16) (w : BitVec 32) (s : State) : Result :=
  finish (s.hostPut (R.ANA_IN_CFG i) w (fun s => s.ainCfgWrite i w))
def execAinSettleDone (i : Fin 16) (s : State) : Result := finish (s.ainSettled i)
def execCombinerSample (i : Fin 16) (h l : Int) (ovl : Bool) (s : State) : Result := finish (s.combine i h l ovl)
def execCombinerSwitchDown (i : Fin 16) (h l : Int) (s : State) : Result := finish (s.switchDown i h l)
def execMatchOk (i : Fin 16) (gain : BitVec 16) (s : State) : Result := finish (s.matchedOk i gain.toNat)
def execPhantomWrite (w : BitVec 32) (s : State) : Result :=
  finish (s.hostPut (R.ANA_PHANTOM) w (fun s => s.phantomWrite w))
def execPhantomRefresh (s : State) : Result := finish s.phantomRefresh
def execPhantomSettleDone (i : Fin 16) (s : State) : Result := finish (s.phantomSettled i)
def execPhantomMonitorSample (i : Fin 16) (mv : Nat) (s : State) : Result := finish (s.phantomSample i mv)
def execOutputStart (n : Fin 18) (w : BitVec 32) (s : State) : Result :=
  finish (s.hostPut (R.ANA_O_CTRL n) ((R.ANA_O_CTRL_CMD n).inWord w 1) (fun s => s.outCtrlWrite n ((R.ANA_O_CTRL_CMD n).inWord w 1)))
def execOutputStop (n : Fin 18) (w : BitVec 32) (s : State) : Result :=
  finish (s.hostPut (R.ANA_O_CTRL n) ((R.ANA_O_CTRL_CMD n).inWord w 2) (fun s => s.outCtrlWrite n ((R.ANA_O_CTRL_CMD n).inWord w 2)))
def execOutputOff (n : Fin 18) (w : BitVec 32) (s : State) : Result :=
  finish (s.hostPut (R.ANA_O_CTRL n) ((R.ANA_O_CTRL_CMD n).inWord w 3) (fun s => s.outCtrlWrite n ((R.ANA_O_CTRL_CMD n).inWord w 3)))
def execOutputCmRampDone (n : Fin 18) (s : State) : Result := finish (s.cmRampDone n)
def execOutputFadeDone (n : Fin 18) (s : State) : Result := finish (s.outFadeDone n)
def execRelayTExpire (k : Fin 4) (s : State) : Result := finish (s.relayExpire k)
def execRelayDriverWrite (k : Fin 4) (w : BitVec 32) (s : State) : Result :=
  finish (s.hostPut (R.ANA_MUTE k) w (fun s => s.muteRegWrite k w))
def execHpShortShutdown (h : Fin 2) (s : State) : Result := finish (s.hpShort h)
def execHpdetEdge (h : Fin 2) (level : Bool) (s : State) : Result := finish (s.hpEdge h level)
def execHpdetDebounceDone (h : Fin 2) (s : State) : Result := finish (s.hpDebounced h)

end Sys2Proof.Machine
end

