-- ==== Sys2Proof/Machine/Mcv.lean ====
section
/-!
DEFINITION. The measurement converters: conversions, the order of requests, triggers, results, presence scan, plausibility
checks, references and calibration (chapter 14).
-/
namespace Sys2Proof.Machine

def State.mcv (s : State) (c : Nat) : McvSt := look {} s.meas.mcvs c
def State.setMcv (s : State) (c : Nat) (m : McvSt) : State := { s with meas := { s.meas with mcvs := upd s.meas.mcvs c m } }
def State.plausSt (s : State) (k : Nat) : PlausSt := look {} s.meas.plaus k
def State.setPlaus (s : State) (k : Nat) (p : PlausSt) : State := { s with meas := { s.meas with plaus := upd s.meas.plaus k p } }
def State.psCh (s : State) (p : Nat) : PsCh := look {} s.ps.chans p
def State.setPsCh (s : State) (p : Nat) (h : PsCh) : State := { s with ps := { s.ps with chans := upd s.ps.chans p h } }

/-- An event bit of a converter: 0 DONE, 1 MISS, 2 OVR, 3 RESTART, 4 CAL_DONE, 5 CAL_FAIL, 6 PL_MISMATCH, 7 URGENT, 8 TRIG_ERR. -/
def State.mcvEvent (s : State) (c b : Nat) : State := s.raise ((R.MCVC_EVENT_EVENT c).bit b)

/-! Conversion (R368 to R371) -/

/-- One mains cycle in ISL_MEAS cycles (R369). -/
def mainsCycle (freq : Nat) : Nat :=
  if freq = 0 then 491520
  else
    let f := max 4000 (min 7000 freq)
    (2 * 2457600000 + f) / (2 * f)

/-- T_int of a TINT code (Table 14.1). -/
def tIntOf (cycle code : Nat) : Nat :=
  look cycle [(1, 2 * cycle), (2, 5 * cycle), (3, 10 * cycle), (4, 24576), (5, 98304)] code

/-- The class of a channel, and twice a class's full scale (Table 14.2). -/
def muxClass (ch : Nat) : Nat :=
  if ch < 20 then 0 else if ch < 24 then 1 else if ch < 28 then 2 else if ch < 30 then 3 else if ch = 30 then 2 else 0

def twiceFs (cls : Nat) : Nat := look 4 [(2, 5), (3, 80)] cls

/-- AVG as it acts: the logarithm of the conversions in a set (R371). -/
def avgOf (cfg : Word) : Nat := min 8 ((R.MCVC_CFG_AVG 0).ofWord cfg)

/-- A calibrated value (R371, R383): codes summing to `sum` over 2^avg conversions, with the class's factors. -/
def calibrated (cls avg : Nat) (sum : Int) (ofs : Word) (gain : F32) : F32 :=
  let d := (sum - 2 ^ avg * sgn 24 ofs.toNat) * twiceFs cls
  (fmul (fround (d < 0) d.natAbs (-(23 + avg : Nat))).v gain).v

/-- The value of a channel, in ohms where the pin's excitation is on (R370, R386). -/
def State.channelValue (s : State) (ch avg : Nat) (sum : Int) (ofs : Word) (gain : F32) : F32 :=
  let v := calibrated (muxClass ch) avg sum ofs gain
  if 24 ≤ ch ∧ ch < 28 ∧ (s.get R.MCV_OW_STATUS_THERM_ON).testBit (ch - 24) then
    (fdiv v (Config.excitation (ch - 24) (s.flag R.MCV_OW_CFG_THERM_I))).v
  else v

/-- The value of one conversion for the block that asked for it, with the factors in force. -/
def State.requestValue (s : State) (c ch : Nat) (code : Int) : F32 :=
  let r := muxClass ch
  calibrated r 0 code (s.rd (R.MCVC_CALF_OFS c r)) (s.rd (R.MCVC_CALF_GAIN c r))

/-- The channel the converter is switched to. -/
def McvSt.channel (m : McvSt) : Nat :=
  match m.serving with
  | 1 => if m.va.isNone then 28 else 29
  | 2 => (m.prio.head?.map (·.2)).getD 31
  | 3 => match m.set with
    | some t => if t.codes.length = 8 then 30 else 31
    | none => 31
  | 6 => m.scan.getD 31
  | _ => match m.set with
    | some t => (R.MCVC_CFG_CH 0).ofWord t.cfg
    | none => 31

/-! The order of requests (R376 to R380) -/

/-- STATUS.STATE and SERVING follow: PREEMPTED while a set waits for an urgent or priority request. REF_FB shows the fallback while a
conversion integrates on it or resolves its residue (log entry 296). -/
def State.mcvShow (s : State) (c : Nat) : State :=
  let m := s.mcv c
  let st := match m.phase with
    | .idle => if m.reserved.isSome then 6 else 0
    | .delay => 1
    | .settle => 2
    | .integrate => 3
    | .rundown => 4
  let st := if (m.serving = 1 ∨ m.serving = 2) ∧ m.set.isSome then 5 else st
  let fb := m.useFb && (m.phase == .integrate || m.phase == .rundown)
  ((s.put (R.MCVC_STATUS_STATE c) st).put (R.MCVC_STATUS_SERVING c) m.serving).put (R.MCVC_STATUS_REF_FB c) (toBit fb)

/-- The class that is served next. -/
def McvSt.top (m : McvSt) : Nat :=
  if !m.urgent.isEmpty then 1
  else if !m.prio.isEmpty then 2
  else match m.set with
    | some t => (match t.kind with | .cal => 3 | .host => 4 | .plaus _ => 5)
    | none => if m.scan.isSome && m.reserved.isNone then 6 else 0

/-- Whether a converter's fallback has settled (R381). -/
def State.fbSettled (s : State) (c : Nat) : Bool := (s.get R.MCV_REF_STATUS_FB_SETTLED).testBit c

/-- The next conversion begins with its settle, unless the set's DELAY runs; a preempted one restarts (R376). -/
def State.mcvNext (s : State) (c : Nat) : State :=
  let m := s.mcv c
  let q := m.top
  if q = 0 ∨ ¬ s.fbSettled c then (s.setMcv c { m with phase := .idle, serving := 0 }).mcvShow c
  else
    let again := m.cut.contains q
    let delay := decide (q = 4) && (m.set.map (·.delay)).getD false
    let set := if again && decide (q ≠ 6) then m.set.map (fun t => { t with restarted := true }) else m.set
    let s := s.setMcv c { m with serving := q, phase := if delay then .delay else .settle, set, cut := dropFrom m.cut q }
    let s := if again then (s.countSat (R.MCVC_CNT_RESTART_CNT c)).mcvEvent c 3 else s
    s.mcvShow c

/-- A pilot cycle ends without a result: the pilot returns to 0 (R361). -/
def State.pilotEnd (s : State) (p : Nat) : State :=
  let h := s.psCh p
  if h.pilot = 0 then s else s.setPsCh p { h with pilot := 0, vals := [], spoiled := false, goal := 0 }

/-- The factors a set uses: those of its channel's class when it begins (R383). -/
def State.newSet (s : State) (c : Nat) (kind : McvKind) (cfg : Word) (delay : Bool) : McvSet :=
  let r := muxClass ((R.MCVC_CFG_CH 0).ofWord cfg)
  { kind, cfg, delay, ofs := s.rd (R.MCVC_CALF_OFS c r), gain := s.rd (R.MCVC_CALF_GAIN c r) }

/-- Both converters are reserved, and neither serves an urgent or priority request: they convert the check's channel, each with its own
CFG (R380). -/
def State.plausBegin (s : State) (k : Nat) : State :=
  match (s.plausSt k).on with
  | some (a, b) =>
    if [a, b].all (fun c => (s.mcv c).reserved == some k && (s.mcv c).serving == 0 && (s.mcv c).set.isNone) then
      [a, b].foldl (fun s c =>
        let cfg := (R.MCVC_CFG_CH 0).inWord (s.rd (R.MCVC_CFG c)) (s.get (R.MCV_PLAUS_CFG_CH k))
        let m := s.mcv c
        let s := s.setMcv c { m with set := some (s.newSet c (.plaus k) cfg false) }
        if m.serving = 0 then s.mcvNext c else s) s
    else s
  | none => s

/-- A converter that has become free of host work: a calibration waits first, then a check, then the scan (R380, R383). -/
def State.mcvFree (s : State) (c : Nat) : State :=
  let m := s.mcv c
  if m.set.isSome ∨ m.reserved.isSome then s
  else if m.calReq then (if m.serving = 6 then s else s.setMcv c { m with calReq := false, set := some (s.newSet c .cal 0x1F false) })
  else
    match (sel 2 (fun k => match (s.plausSt k).on with | some (a, b) => a == c || b == c | none => false)) with
    | k :: _ => (s.setMcv c { m with reserved := some k, cut := if m.serving = 6 then addTo m.cut 6 else m.cut
                                     phase := if m.serving = 6 then .idle else m.phase
                                     serving := if m.serving = 6 then 0 else m.serving }).mcvShow c |>.plausBegin k
    | [] => s

/-- What waits for a converter begins, unless it serves a request already. -/
def State.mcvResume (s : State) (c : Nat) : State :=
  let s := s.mcvFree c
  if (s.mcv c).serving = 0 then s.mcvNext c else s.mcvShow c

/-- An urgent or priority request ends: the next one is served, or what waits for the converter, a calibration and a check that waited
before the scan (Table 14.4). -/
def State.mcvAfter (s : State) (c : Nat) : State :=
  let m := s.mcv c
  let s := if m.urgent.isEmpty && m.prio.isEmpty then s.mcvResume c else s.mcvNext c
  match (s.mcv c).reserved with
  | some k => s.plausBegin k
  | none => s

/-- A plausibility check is skipped and its converters go back to their other work (R380). -/
def State.plausRelease (s : State) (k : Nat) : State :=
  match (s.plausSt k).on with
  | some (a, b) =>
    [a, b].foldl (fun s c =>
      let m := s.mcv c
      let set := match m.set with
        | some t => if t.kind = .plaus k then none else m.set
        | none => none
      let mine := (m.set.map (fun t => decide (t.kind = .plaus k))).getD false
      let s := s.setMcv c { m with set, reserved := if m.reserved = some k then none else m.reserved
                                   phase := if mine ∧ m.serving = 5 then .idle else m.phase
                                   serving := if mine ∧ m.serving = 5 then 0 else m.serving, cut := dropFrom m.cut 5 }
      s.mcvShow c) (s.setPlaus k { fails := (s.plausSt k).fails })
  | none => s

def State.plausSkip (s : State) (k : Nat) : State :=
  let t := (s.countSat (R.MCV_PLAUS_STATUS_SKIP_CNT k)).plausRelease k
  match (s.plausSt k).on with
  | some (a, b) => (t.mcvResume a).mcvResume b
  | none => t

/-- The running conversion ends for a higher request (R376, R377, R380). -/
def State.mcvPreempt (s : State) (c : Nat) : State :=
  let m := s.mcv c
  match m.serving with
  | 0 => s
  | 2 =>
    let s := s.setMcv c { m with phase := .idle, serving := 0, prio := m.prio.tail }
    match m.prio with
    | (p, _) :: _ => s.pilotEnd p
    | [] => s
  | 5 =>
    let s := s.setMcv c { m with phase := .idle, serving := 0 }
    (match m.set with
    | some { kind := .plaus k, .. } => s.plausSkip k
    | _ => s)
  | q => s.setMcv c { m with phase := .idle, serving := 0, cut := if m.phase = .delay then m.cut else addTo m.cut q }

/-- The converter serves an urgent request: every pilot cycle that runs is spoiled (R361). -/
def State.pilotsSpoil (s : State) : State :=
  forN 4 (fun j s => let h := s.psCh j; if h.pilot = 0 then s else s.setPsCh j { h with spoiled := true }) s

/-- An urgent request of power stage channel `p` (R377). -/
def State.urgentAdd (s : State) (c p : Nat) : State :=
  let s := s.pilotsSpoil
  let m := s.mcv c
  let s := s.setMcv c { m with urgent := m.urgent ++ [p] }
  if m.serving = 1 then s
  else
    let s := s.mcvPreempt c
    if (s.mcv c).serving = 1 then s else s.mcvNext c

/-- A priority request (R378). -/
def State.prioAdd (s : State) (c p ch : Nat) : State :=
  let m := s.mcv c
  let s := s.setMcv c { m with prio := m.prio ++ [(p, ch)] }
  if m.serving = 1 ∨ m.serving = 2 then s else (s.mcvPreempt c).mcvNext c

/-- A set ends: what waits for the converter begins. -/
def State.mcvDone (s : State) (c : Nat) : State :=
  let m := s.mcv c
  (s.setMcv c { m with set := none, phase := .idle, serving := 0 }).mcvResume c

/-! Results (R371, R372, R380, R383) -/

/-- The result registers are written in one step (R372). -/
def State.setResult (s : State) (c : Nat) (t : McvSet) : F32 × State :=
  let avg := avgOf t.cfg
  let ch := (R.MCVC_CFG_CH 0).ofWord t.cfg
  let sum := t.codes.foldl (· + ·) 0
  let raw := (satI (-(2 ^ 31)) (2 ^ 31 - 1) (sum / 2 ^ (R.MCVC_CFG_SHIFT 0).ofWord t.cfg)).1
  let v := s.channelValue ch avg sum t.ofs t.gain
  let pl := match t.kind with | .plaus _ => 1 | _ => 0
  let info := ch + 2 ^ 5 + 2 ^ 6 * toBit t.ovr + 2 ^ 7 * toBit t.fb + 2 ^ 8 * toBit t.restarted + 2 ^ 9 * pl
    + 2 ^ 16 * ((s.get (R.MCVC_RES_HI_SEQ c) + 1) % 256) + 2 ^ 24 * avg
  let s := (s.wr (R.MCVC_RES_LO c) v).wr (R.MCVC_RAW_LO c) (BitVec.ofInt 32 raw)
  let s := (s.wr (R.MCVC_RES_HI c) (BitVec.ofNat 32 info)).wr (R.MCVC_RAW_HI c) (BitVec.ofNat 32 info)
  let s := (s.put64 (R.MCVC_TS_LO c) (R.MCVC_TS_HI c) t.ts).count (R.MCVC_DONE_CNT_COUNT c)
  (v, s.mcvEvent c 0)

/-- The two values of a check are compared (R380). -/
def State.plausCompare (s : State) (k : Nat) : State :=
  let p := s.plausSt k
  match p.on, p.va, p.vb with
  | some (a, b), some va, some vb =>
    let fs2 := twiceFs (muxClass (s.get (R.MCV_PLAUS_CFG_CH k)))
    let d := (fscaled va 40 - fscaled vb 40).natAbs
    let bad := decide (s.get (R.MCV_PLAUS_CFG_TOL k) * fs2 * 2 ^ 40 < d * 20000) || isNaN32 va || isNaN32 vb
    let s := (s.setPlaus k { fails := if bad then p.fails + 1 else 0 })
    let s := [a, b].foldl (fun s c =>
      let m := s.mcv c
      let s := s.setMcv c { m with reserved := if m.reserved = some k then none else m.reserved }
      if bad then s.mcvEvent c 6 else s) s
    let s := if bad then s.countSat (R.MCV_PLAUS_STATUS_FAIL_CNT k) else s.clr (R.MCV_PLAUS_STATUS_FAIL k)
    let s := if bad ∧ 3 ≤ p.fails + 1 then
      (s.raise (R.MCV_PLAUS_STATUS_FAIL k)).raise (R.MCV_EVENT_EVENT.bit 2) else s
    (s.mcvResume a).mcvResume b
  | _, _, _ => s

/-- A calibration's nine conversions are done (R383): zero points, gain points, and channel 30. -/
def State.calEnd (s : State) (c : Nat) (codes : List Int) : State :=
  let z (r : Nat) : Int := (codes[r]?).getD 0
  let g (r : Nat) : F32 := Config.calGain r (z r) (z (4 + r))
  let good := (List.range 4).all (fun r =>
    decide ((z r).natAbs * 1000 ≤ 2 ^ 22) && !isNaN32 (g r) && !flt (g r) (fratio 98 100) && !flt (fratio 102 100) (g r))
  if good then
    let s := forN 4 (fun r s => (s.wr (R.MCVC_CALF_OFS c r) (BitVec.ofNat 32 (unsgn 24 (z r)))).wr (R.MCVC_CALF_GAIN c r) (g r)) s
    let s := s.setMcv c { s.mcv c with calTemp := s.meas.temp }
    ((s.raise (R.MCVC_STATUS_CAL_VALID c)).clr (R.MCVC_STATUS_CAL_STALE c)).mcvEvent c 4
  else s.mcvEvent c 5

/-- The result of a pilot conversion (R361): the current follows the voltage, and −A follows +A. -/
def State.pilotResult (s : State) (c p : Nat) (v : F32) : State :=
  let h := s.psCh p
  if h.pilot = 2 ∨ h.pilot = 4 then
    let vals := h.vals ++ [v]
    let s := s.setPsCh p { h with vals, pilot := if vals.length = 2 then 3 else if vals.length = 4 then 5 else h.pilot
                                  goal := if vals.length = 2 then -1 else if vals.length = 4 then 0 else h.goal }
    if vals.length % 2 = 1 then
      let m := s.mcv c
      s.setMcv c { m with prio := m.prio ++ [(p, 20 + p)] }
    else s
  else s

/-- A scan result (R379): PRESENCE follows two results in the same band of R333. -/
def State.scanResult (s : State) (i : Nat) (v : F32) : State :=
  let x := fscaled v 40
  let band := if 2 ^ 39 < x then 2 else if x * 500 < 2 ^ 40 then 3 else 1
  let was := look 0 s.meas.bands i
  if !((s.get R.MCV_OW_STATUS_ON).testBit i) then s
  else
    let s := { s with meas := { s.meas with bands := upd s.meas.bands i band } }
    if was = band then s.setPresence i band else s

/-- What every conversion does beside its result: channel 30 compares the references, and a THERM pin's flags follow (R382, R386). -/
def State.conversionSide (s : State) (c ch : Nat) (code : Int) : State :=
  if ch = 30 then
    if 2 ^ 22 < (code - 2 ^ 22).natAbs * 100 then
      (s.raise R.MCV_REF_STATUS_BUF_FAULT).raise (R.MCV_EVENT_EVENT.bit 1)
    else s
  else if 24 ≤ ch ∧ ch < 28 ∧ (s.get R.MCV_OW_STATUS_THERM_ON).testBit (ch - 24) then
    let x := fscaled (s.requestValue c ch code) 40
    (s.put (R.MCV_OW_STATUS_THERM_OPEN.bit (ch - 24)) (toBit (decide (23 * 2 ^ 40 ≤ x * 10)))).put
      (R.MCV_OW_STATUS_THERM_SHORT.bit (ch - 24)) (toBit (decide (x * 1000 < 2 ^ 40)))
  else s

/-- The conversions a set makes. -/
def McvSet.goal (t : McvSet) : Nat := match t.kind with | .cal => 9 | _ => 2 ^ avgOf t.cfg

/-- Run-down forms the code (R368), and the next conversion or the set's end follows. -/
def State.rundownDone (s : State) (c : Nat) (input : Int) : State :=
  let m := s.mcv c
  if m.phase = .rundown then
    let code := (satI (-0x500000) 0x500000 input).1
    let ovr := decide (code ≠ input)
    let ch := m.channel
    let s := if ovr then s.mcvEvent c 2 else s
    let s := s.conversionSide c ch code
    match m.serving with
    | 1 =>
      let v := s.requestValue c ch code
      (match m.va, m.urgent with
      | none, _ => (s.setMcv c { m with va := some v, phase := .settle }).mcvShow c
      | some va, p :: t =>
        let s := ((s.setMcv c { m with va := none, urgent := t, phase := .idle, serving := 0 }).mcvEvent c 7).pilotsSpoil
        (s.setPsCh p { s.psCh p with meas := some (va, v) }).mcvAfter c
      | some _, [] => (s.setMcv c { m with va := none }).mcvAfter c)
    | 2 =>
      let v := s.requestValue c ch code
      let s := s.setMcv c { m with prio := m.prio.tail, phase := .idle, serving := 0 }
      (match m.prio with
      | (p, _) :: _ => (s.pilotResult c p v).mcvAfter c
      | [] => s.mcvAfter c)
    | 6 =>
      let s := s.setMcv c { m with scan := none, scanned := ch, phase := .idle, serving := 0 }
      (s.scanResult ch (s.requestValue c ch code)).mcvResume c
    | _ =>
      match m.set with
      | some t =>
        let t := { t with codes := t.codes ++ [code], ovr := t.ovr || ovr }
        if t.codes.length < t.goal then (s.setMcv c { m with set := some t, phase := .settle }).mcvShow c
        else (match t.kind with
          | .cal => (s.calEnd c t.codes).mcvDone c
          | .host => (s.setResult c t).2.mcvDone c
          | .plaus k =>
            let r := s.setResult c t
            let s := r.2
            let p := s.plausSt k
            let first := (p.on.map (fun e => decide (e.1 = c))).getD false
            let s := s.setPlaus k (if first then { p with va := some r.1 } else { p with vb := some r.1 })
            let s := s.setMcv c { s.mcv c with set := none, phase := .idle, serving := 0 }
            (s.mcvNext c).plausCompare k)
      | none => s.mcvNext c
  else s

/-- The DELAY of a trigger ends (R368, R373). -/
def State.delayDone (s : State) (c : Nat) : State :=
  let m := s.mcv c
  match m.set with
  | some t =>
    if t.delay then
      (s.setMcv c { m with set := some { t with delay := false }, phase := if m.phase = .delay then .settle else m.phase }).mcvShow c
    else s
  | none => s

/-- Integration begins, with the buffer or the fallback (R381); channel 30 is measured against the fallback. -/
def State.integrate (s : State) (c : Nat) : State :=
  let m := s.mcv c
  let fb := !s.flag R.MCV_REF_STATUS_BUF_READY || s.flag R.MCV_REF_STATUS_BUF_FAULT || m.channel == 30
  let cycle := mainsCycle (s.get R.MCV_MAINS_FREQ)
  let host := m.serving == 4 || m.serving == 5
  let tint := match m.set with
    | some t => if host then tIntOf cycle ((R.MCVC_CFG_TINT 0).ofWord t.cfg) else cycle
    | none => cycle
  let set := if host then m.set.map (fun t => { t with fb := t.fb || fb, ts := if t.codes.isEmpty then s.time.index else t.ts })
    else m.set
  (s.setMcv c { m with phase := .integrate, useFb := fb, tint, set }).mcvShow c

/-- The other converter of the check that converter `c` makes its first conversion for. -/
def State.plausOther (s : State) (c : Nat) : Option Nat :=
  match (s.mcv c).set with
  | some { kind := .plaus k, codes := [], .. } => (s.plausSt k).on.map (fun e => if e.1 = c then e.2 else e.1)
  | _ => none

/-- The settle ends and integration begins; the two converters of a plausibility check begin together (R380). -/
def State.settleDone (s : State) (c : Nat) : State :=
  let m := s.mcv c
  if m.phase = .settle then
    match (if m.serving = 5 then s.plausOther c else none) with
    | some o =>
      if ((s.mcv o).set.map (·.ready)).getD false then (s.integrate c).integrate o
      else s.setMcv c { m with set := m.set.map (fun t => { t with ready := true }) }
    | none => s.integrate c
  else s

def State.integrateDone (s : State) (c : Nat) : State :=
  let m := s.mcv c
  if m.phase = .integrate then (s.setMcv c { m with phase := .rundown }).mcvShow c else s

/-! Triggers (R373 to R375) -/

/-- TRIG as it acts: codes 3 to 5 act as 0 on MCV_0 and MCV_1, 6 and 7 on every converter. -/
def State.trigOf (s : State) (c : Nat) : Nat :=
  let t := s.get (R.MCVC_CFG_TRIG c)
  if 6 ≤ t ∨ (3 ≤ t ∧ c < 2) then 0 else t

def State.mcvMiss (s : State) (c : Nat) : State := (s.countSat (R.MCVC_CNT_MISS_CNT c)).mcvEvent c 1

/-- A trigger of host work (R373, R375). It ends a scan conversion, also where a calibration waits for that (log entry 221). -/
def State.mcvTrigger (s : State) (c : Nat) : State :=
  let m := s.mcv c
  if m.set.isSome || m.reserved.isSome then s.mcvMiss c
  else
    let s := s.setMcv c { m with set := some (s.newSet c .host (s.rd (R.MCVC_CFG c)) true) }
    if m.serving = 0 then s.mcvNext c
    else if m.serving = 6 then (s.mcvPreempt c).mcvNext c
    else s.mcvShow c

/-- A write of CTRL.CAL (R383). -/
def State.calWrite (s : State) (c : Nat) : State :=
  let m := s.mcv c
  if !s.flag R.MCV_REF_STATUS_BUF_READY || s.flag R.MCV_REF_STATUS_BUF_FAULT then s.mcvEvent c 5
  else
    let s := (s.setMcv c { m with calReq := true })
    if m.set.isSome ∨ m.reserved.isSome ∨ m.serving = 6 then s else s.mcvResume c

/-- A write of a converter's CTRL: GO, RUN and CAL. -/
def State.mcvCtrlWrite (s : State) (c : Nat) (w : Word) : State :=
  if s.on .meas then
    let s := s.wr (R.MCVC_CTRL c) (w &&& 2)
    let s := if (R.MCVC_CTRL_GO c).ofWord w = 1 then s.mcvTrigger c else s
    if (R.MCVC_CTRL_CAL c).ofWord w = 1 then s.calWrite c else s
  else s

/-- A write of a converter's CFG: a source it does not have sets TRIG_ERR (R373). -/
def State.mcvCfgWrite (s : State) (c : Nat) (w : Word) : State :=
  if s.on .meas then
    let s := s.wr (R.MCVC_CFG c) (w &&& 0x7FFFFF)
    let t := s.get (R.MCVC_CFG_TRIG c)
    let err := decide (c < 2) && decide (3 ≤ t) && decide (t ≤ 5)
    let s := s.put (R.MCVC_STATUS_TRIG_ERR c) (toBit err)
    if err then s.mcvEvent c 8 else s
  else s

/-- An automatic trigger of source `t`. -/
def State.autoTrigger (s : State) (c t : Nat) : State :=
  if s.on .meas && s.flag (R.MCVC_CTRL_RUN c) && s.trigOf c == t then s.mcvTrigger c else s

/-- A PWM period elapses: the next switching period of PS_PSEL triggers; a channel that does not switch is a miss (R373). -/
def State.pwmTrigger (s : State) (c : Nat) : State :=
  if s.on .meas && s.flag (R.MCVC_CTRL_RUN c) && s.trigOf c == 2 then
    let st := s.get (R.PSC_STATUS_STATE (s.get (R.MCVC_CFG_PSEL c)))
    if st = 3 ∨ st = 4 ∨ st = 5 then s.mcvTrigger c else s.mcvMiss c
  else s

def State.mtrig (s : State) (m : Nat) : MtrigSt := look {} s.meas.mtrig m
def State.setMtrig (s : State) (m : Nat) (t : MtrigSt) : State := { s with meas := { s.meas with mtrig := upd s.meas.mtrig m t } }

/-- The level of MTRIG_m as the board drives it. -/
def State.mtrigPin (s : State) (m : Nat) : Bool := if m = 0 then s.pins.mtrig0 else s.pins.mtrig1

/-- An edge on MTRIG_m (R374). -/
def State.mtrigEdge (s : State) (m : Nat) (level : Bool) : State :=
  let s := { s with pins := if m = 0 then { s.pins with mtrig0 := level } else { s.pins with mtrig1 := level } }
  let t := s.mtrig m
  if s.on .meas && level != t.level then
    let s := s.setMtrig m { t with level, unstable := true }
    if t.unstable then s.countSat (if m = 0 then R.MCV_MTRIG_CNT_OVF0 else R.MCV_MTRIG_CNT_OVF1) else s
  else s

/-- The new level has held for the debounce time (R374): an accepted edge triggers MCV_2 or MCV_3 as TRIG says. -/
def State.mtrigAccept (s : State) (m : Nat) : State :=
  let t := s.mtrig m
  if s.on .meas && t.unstable then
    let s := s.setMtrig m { t with unstable := false, accepted := t.level }
    if t.level = t.accepted then s
    else
      let c := 2 + m
      let s := if s.trigOf c = 5 then s.autoTrigger c 5 else s
      s.autoTrigger c (if t.level then 3 else 4)
  else s

/-! Presence scan and plausibility (R379, R380) -/

/-- The scan converter is free and takes the next input whose currents flow (R379). -/
def State.scanStart (s : State) : State :=
  let c := s.get R.MCV_OW_CFG_SCAN_MCV
  let m := s.mcv c
  let on := s.get R.MCV_OW_STATUS_ON
  if s.on .meas && s.flag R.MCV_OW_CFG_SCAN_EN && m.serving == 0 && m.top == 0 && m.reserved.isNone && s.fbSettled c then
    match sel 16 (fun i => on.testBit i && decide (m.scanned < i)) ++ sel 16 on.testBit with
    | i :: _ => (s.setMcv c { m with scan := some i }).mcvNext c
    | [] => s
  else s

/-- PERIOD seconds have passed: a check asks for its two converters (R380). -/
def State.plausTick (s : State) (k : Nat) : State :=
  let a := s.get (R.MCV_PLAUS_CFG_A k)
  let b := s.get (R.MCV_PLAUS_CFG_B k)
  if s.on .meas && s.flag (R.MCV_PLAUS_CFG_EN k) && a != b && (s.plausSt k).on.isNone then
    let s := s.setPlaus k { fails := (s.plausSt k).fails, on := some (a, b) }
    (s.mcvFree a).mcvFree b
  else s

/-- The two converters are not both reserved within 1 s (R380). -/
def State.plausTimeout (s : State) (k : Nat) : State :=
  match (s.plausSt k).on with
  | some (a, b) =>
    if (s.mcv a).reserved = some k ∧ (s.mcv b).reserved = some k then s
    else
      s.plausSkip k
  | none => s

/-! References (R381) -/

def State.refCtrlWrite (s : State) (w : Word) : State :=
  if s.on .meas then
    let s := s.wr R.MCV_REF_CTRL (w &&& 1)
    if s.flag R.MCV_REF_CTRL_BUF_EN then s else (s.clr R.MCV_REF_STATUS_BUF_READY).clr R.MCV_REF_STATUS_BUF_FAULT
  else s

def State.bufReady (s : State) : State :=
  if s.on .meas && s.flag R.MCV_REF_CTRL_BUF_EN then
    (s.raise R.MCV_REF_STATUS_BUF_READY).raise (R.MCV_EVENT_EVENT.bit 0)
  else s

def State.fallbackSettled (s : State) (c : Nat) : State :=
  if s.on .meas then
    let s := s.raise (R.MCV_REF_STATUS_FB_SETTLED.bit c)
    if (s.mcv c).serving = 0 then s.mcvNext c else s
  else s

/-- MEAS powers up or is reset: the factors load from the values stored at test (R383), and the MTRIG pins count from the levels they
have then (R374; log entry 326). -/
def State.measLoad (s : State) : State :=
  let s := forN 2 (fun m s => s.setMtrig m { level := s.mtrigPin m, accepted := s.mtrigPin m }) s
  forN 4 (fun c s => forN 4 (fun r s =>
    (s.wr (R.MCVC_CALF_OFS c r) ((Config.factoryOfs c r).setWidth 32)).wr (R.MCVC_CALF_GAIN c r) (Config.factoryGain c r)) s) s

/-! Abort and power (R377, R387) -/

/-- Everything a converter does ends: urgent requests are not measured, pilot cycles end, checks are skipped (R387). -/
def State.mcvStop (s : State) (c : Nat) : State :=
  let m := s.mcv c
  let s := m.urgent.foldl (fun s p => s.setPsCh p { s.psCh p with unmeasured := true }) s
  let s := m.prio.foldl (fun s e => s.pilotEnd e.1) s
  let s := s.setMcv c { scanned := m.scanned, calTemp := m.calTemp }
  let s := forN 2 (fun k s => match (s.plausSt k).on with | some (a, b) => if a = c ∨ b = c then s.plausSkip k else s | none => s) s
  let s := s.setMcv c { scanned := m.scanned, calTemp := m.calTemp }
  let s := (((s.clr (R.MCVC_CTRL_RUN c)).clr (R.MCVC_RES_HI_VALID c)).clr (R.MCVC_RAW_HI_VALID c)).clr (R.MCVC_STATUS_REF_FB c)
  s.mcvShow c

/-- Whether a converter has anything to abort. -/
def State.mcvBusy (s : State) (c : Nat) : Bool :=
  let m := s.mcv c
  m.serving != 0 || m.top != 0 || m.calReq || m.reserved.isSome || s.flag (R.MCVC_CTRL_RUN c)

/-- MEAS goes off (R387): the currents stop and their inputs read UNKNOWN. -/
def State.measOff (s : State) : State :=
  let s := forN 4 (fun c s => s.mcvStop c) s
  let s := forN 16 (fun i s => s.setPresence i 0) s
  { s with meas := { temp := s.meas.temp } }

def execMcvGo (c : Fin 4) (w : BitVec 32) (s : State) : Result :=
  finish (s.hostPut (R.MCVC_CTRL c) ((R.MCVC_CTRL_GO c).inWord w 1) (fun s => s.mcvCtrlWrite c ((R.MCVC_CTRL_GO c).inWord w 1)))
def execMcvRunWrite (c : Fin 4) (w : BitVec 32) (s : State) : Result :=
  finish (s.hostPut (R.MCVC_CTRL c) w (fun s => s.mcvCtrlWrite c w))
def execMcvCal (c : Fin 4) (w : BitVec 32) (s : State) : Result :=
  finish (s.hostPut (R.MCVC_CTRL c) ((R.MCVC_CTRL_CAL c).inWord w 1) (fun s => s.mcvCtrlWrite c ((R.MCVC_CTRL_CAL c).inWord w 1)))
def execMcvTimerTrigger (c : Fin 4) (s : State) : Result := finish (s.autoTrigger c 1)
def execMcvPwmTrigger (c : Fin 4) (s : State) : Result := finish (s.pwmTrigger c)
def execMtrigEdge (m : Fin 2) (level : Bool) (s : State) : Result := finish (s.mtrigEdge m level)
def execMtrigAccept (m : Fin 2) (s : State) : Result := finish (s.mtrigAccept m)
def execMcvDelayDone (c : Fin 4) (s : State) : Result := finish (s.delayDone c)
def execMcvSettleDone (c : Fin 4) (s : State) : Result := finish (s.settleDone c)
def execMcvIntegrateDone (c : Fin 4) (s : State) : Result := finish (s.integrateDone c)
def execMcvRundownDone (c : Fin 4) (code : Int) (s : State) : Result := finish (s.rundownDone c code)
def execMcvScanStart (s : State) : Result := finish s.scanStart
def execPlausTick (k : Fin 2) (s : State) : Result := finish (s.plausTick k)
def execPlausReserveTimeout (k : Fin 2) (s : State) : Result := finish (s.plausTimeout k)
def execRefBufEnable (w : BitVec 32) (s : State) : Result :=
  finish (s.hostPut (R.MCV_REF_CTRL) w (fun s => s.refCtrlWrite w))
def execRefBufReady (s : State) : Result := finish s.bufReady
def execFallbackSettled (c : Fin 4) (s : State) : Result := finish (s.fallbackSettled c)
def execOwRampDone (i : Fin 16) (s : State) : Result := finish (s.owRamped i)

end Sys2Proof.Machine
end

