-- ==== Sys2Proof/Machine/PowerStage.lean ====
section
/-!
DEFINITION. The loudspeaker power stage: switching frequency, channel states, over-current, classification and retry, excursion,
coil temperature, pilot and die derating (chapter 13).
-/
namespace Sys2Proof.Machine

/-- 0 OFF, 1 CM_UP, 2 STOPPED, 3 STARTING, 4 RUNNING, 5 STOPPING, 6 CM_DOWN, 7 HELD, 8 FAULT_WAIT, 9 LATCHED, 10 NOT_OWNER. -/
def State.psState (s : State) (p : Nat) : Nat := s.get (R.PSC_STATUS_STATE p)

/-- An event bit of a channel (Table 13.9). -/
def State.psEvent (s : State) (p b : Nat) : State := s.raise ((R.PSC_EVENT_EVENT p).bit b)

/-- The outputs of a channel are driven so from now on. -/
def State.psDrive (s : State) (p : Nat) (d : PsDrive) : State :=
  let h := s.psCh p
  if h.drive = d then s else (s.setPsCh p { h with drive := d }).emit (.psDrive p d)

/-- The time of a common-mode ramp in ms (Table 13.8). -/
def State.cmRamp (s : State) : Nat := look 20 [(1, 50), (2, 100), (3, 150)] (s.get R.PS_CFG_CM_RAMP)

/-- What drives the outputs in a state (R350, R354). In HELD the hold drivers bring them to PVDD/2 at the CM_RAMP rate. In FAULT_WAIT it is the hold drivers at PVDD/2, until they ramp down. -/
def State.psDriveOf (s : State) (st : Nat) : PsDrive :=
  match st with
  | 0 | 9 => .zero
  | 1 => .ramp true s.cmRamp
  | 3 | 4 | 5 => .bridge
  | 6 => .ramp false s.cmRamp
  | 7 => .ramp true s.cmRamp
  | 10 => .highZ
  | _ => .hold

def State.setPsState (s : State) (p v : Nat) : State :=
  if s.psState p = v then s else (((s.setPsCh p { s.psCh p with pace := 2, half := 0 }).put (R.PSC_STATUS_STATE p) v).psEvent p 0).psDrive p (s.psDriveOf v)

/-- The half-bridges switch (R350). -/
def switching (st : Nat) : Bool := st == 3 || st == 4 || st == 5

/-! Switching frequency (R347 to R349) -/

/-- The distance of two numbers. -/
def gap (a b : Nat) : Nat := (a - b) + (b - a)

/-- clear(k) over the named carriers (R348); none where no carrier is named. -/
def clearOf (ams : List Nat) (k : Nat) : Nat :=
  (ams.flatMap (fun f => [2, 3, 4].map (fun h => gap (h * k * 24) f))).foldl min 100000

/-- The choice of k among 15 to 20: the largest clearance, the lower k where equal. -/
def bestK (ams : List Nat) : Nat :=
  [16, 17, 18, 19, 20].foldl (fun b k => if clearOf ams b < clearOf ams k then k else b) 15

/-- The carriers named (R348). -/
def State.ams (s : State) : List Nat := ((List.range 8).map (fun j => s.get (R.PS_AM_FREQ j))).filter (· != 0)

/-- K as it acts. -/
def State.fixedK (s : State) : Nat := max 15 (min 20 (s.get R.PS_CFG_K))

/-- k as R348 chooses it. -/
def State.chosenK (s : State) : Nat := if s.flag R.PS_CFG_K_AUTO && !s.ams.isEmpty then bestK s.ams else s.fixedK

/-- A channel's state that does not let the pending k be applied (R349). -/
def kHeld (st : Nat) : Bool := st == 1 || st == 3 || st == 4 || st == 5 || st == 6

/-- k is evaluated again after a write (R348, R349). -/
def State.kEval (s : State) : State :=
  let k := s.chosenK
  let c := if s.ams.isEmpty then 255 else min 255 (clearOf s.ams k)
  let bad := s.flag R.PS_CFG_K_AUTO && !s.ams.isEmpty && decide (clearOf s.ams k < s.get R.PS_CFG_AM_GUARD)
  let s := ((s.put R.PS_STATUS_K_NEXT k).put R.PS_STATUS_CLEAR c).put R.PS_STATUS_AM_CONFLICT (toBit bad)
  let s := if bad then s.raise (R.PS_EVENT_EVENT.bit 2) else s
  if s.ps.relock.getD (s.get R.PS_STATUS_K_NOW) = k then s.clr R.PS_STATUS_K_PENDING
  else if (List.range 4).all (fun p => let st := s.psState p; st == 0 || st == 2 || st == 8 || st == 9) then
    { s.clr R.PS_STATUS_K_PENDING with ps := { s.ps with relock := some k } }
  else (s.raise R.PS_STATUS_K_PENDING).raise (R.PS_EVENT_EVENT.bit 1)

/-- A write of PS_CFG, or of AM[j] (R349). -/
def State.psCfgWrite (s : State) (w : Word) : State :=
  if s.on .pstage then (s.wr R.PS_CFG (w &&& 0x3FFFF)).kEval else s

def State.amWrite (s : State) (j : Nat) (w : Word) : State :=
  if s.on .pstage then (s.wr (R.PS_AM j) (w &&& 0xFFF)).kEval else s

/-- No channel switches or ramps any longer: the pending k is applied (R349). -/
def State.kApply (s : State) : State :=
  if s.on .pstage && s.flag R.PS_STATUS_K_PENDING && (List.range 4).all (fun p => !kHeld (s.psState p)) then
    { s.clr R.PS_STATUS_K_PENDING with ps := { s.ps with relock := some (s.get R.PS_STATUS_K_NEXT) } }
  else s

/-! Channel states (R350 to R354) -/

/-- The pilot cycle is abandoned (R361): requests that wait are withdrawn, and the pilot ramps out with the fade. -/
def State.pilotAbandon (s : State) (p : Nat) : State :=
  let s := forN 4 (fun c s =>
    let m := s.mcv c
    if m.prio.any (fun e => e.1 == p) then
      let served := if m.serving = 2 then m.prio.take 1 else []
      s.setMcv c { m with prio := served ++ (m.prio.drop served.length).filter (fun e => e.1 != p) }
    else s) s
  let h := s.psCh p
  s.setPsCh p { h with pilot := 0, vals := [], spoiled := false }

/-- The half-bridges stop and everything of the switching state is reset. -/
def State.psQuiet (s : State) (p : Nat) : State :=
  let s := s.pilotAbandon p
  let h := s.psCh p
  s.setPsCh p { h with fade := none, periods := 0, limited := 0, stopReq := false, s1 := 0, s2 := 0, look := [], a := 0x3F800000
                       level := 0, goal := 0 }

/-- A switching channel begins its fade-out (R350). -/
def State.psFadeOut (s : State) (p : Nat) (off : Bool) : State :=
  let s := s.pilotAbandon p
  let h := s.psCh p
  let fade := if s.psState p = 3 ∧ h.fade.isNone then some (false, 64) else fadeOutFrom h.fade
  (s.setPsCh p { h with fade, offReq := h.offReq || off }).setPsState p 5

/-- A ramp of the common mode begins: up, or down. -/
def State.psRamp (s : State) (p : Nat) (up : Bool) : State :=
  let s := s.psQuiet p
  let s := s.setPsCh p { s.psCh p with offReq := false, waits := false, fault := .none }
  s.setPsState p (if up then 1 else 6)

/-- STARTING: 16 periods at zero signal, then the fade-in. -/
def State.psStarting (s : State) (p : Nat) : State :=
  let s := s.psQuiet p
  (s.setPsCh p { s.psCh p with waits := false, offReq := false }).setPsState p 3

/-- OFF, or EN cleared (Table 13.2). -/
def State.psOffWrite (s : State) (p : Nat) : State :=
  let st := s.psState p
  let h := s.psCh p
  if switching st then s.psFadeOut p true
  else if st = 1 ∨ st = 2 then s.psRamp p false
  else if st = 8 then
    if h.fault = .rest then (s.setPsCh p { h with fault := .none, waits := false }).setPsState p 0
    else s.setPsCh p { h with offReq := true }
  else s

/-- LC is in the range of R345: L_DIFF, C_DIFF and the resonance from 25 kHz to 60 kHz. -/
def State.lcGood (s : State) (p : Nat) : Bool :=
  let l := s.get (R.PSC_LC_L_DIFF p)
  let c := s.get (R.PSC_LC_C_DIFF p)
  decide (50 ≤ l) && decide (l ≤ 500) && decide (10 ≤ c) && decide (c ≤ 470) && decide (7037 ≤ l * c) && decide (l * c ≤ 40528)

/-- A parameter is greater than zero. -/
def State.positive (s : State) (a : Nat) : Bool := let w := s.rd a; !isNaN32 w && flt 0 w

/-- The direct section is stable: its poles lie inside the unit circle (R351, in the form of R260). -/
def State.sectionStable (s : State) (p : Nat) : Bool :=
  let a1 := fscaled (s.rd (R.PSC_BQ p 3)) 60
  let a2 := fscaled (s.rd (R.PSC_BQ p 4)) 60
  !isNaN32 (s.rd (R.PSC_BQ p 3)) && !isNaN32 (s.rd (R.PSC_BQ p 4))
    && decide (a2.natAbs < 2 ^ 60) && decide ((a1.natAbs : Int) < 2 ^ 60 + a2)

/-- The parameters that the enabled limiters need (Table 13.3, row 7). -/
def State.paramsGood (s : State) (p : Nat) : Bool :=
  (!s.flag (R.PSC_CFG_XLIM_EN p) ||
    ([R.PSC_RE_NOM p, R.PSC_BL p, R.PSC_MMS p, R.PSC_CMS p, R.PSC_XMAX p].all s.positive
      && (!s.flag (R.PSC_CFG_MODEL p) || s.sectionStable p)))
  && (!s.flag (R.PSC_CFG_TLIM_EN p) ||
    [R.PSC_RE_NOM p, R.PSC_RTV p, R.PSC_TAUV p, R.PSC_RTM p, R.PSC_TAUM p].all s.positive)

/-- The refusal of a START, in the order of Table 13.3; 0 where it is accepted. -/
def State.psRefusal (s : State) (p : Nat) : Nat :=
  if !(s.get R.PS_CTRL_EN).testBit p then 1
  else if s.psState p = 9 then 2
  else if !s.owns then 3
  else if !s.lcGood p then 4
  else if !s.flag R.PS_STATUS_PVDD_OK then 5
  else if s.flag R.PS_STATUS_DIE_HOT then 6
  else if !s.paramsGood p then 7
  else 0

/-- The thermal model starts at the ambient temperature (R363). -/
def State.thermalStart (s : State) (p : Nat) : State :=
  let t := fofInt (sgn 8 (s.get (R.PSC_THERM_CFG_T_AMB p)))
  (s.wr (R.PSC_T_COIL p) t).setPsCh p { s.psCh p with tm := t }

/-- A channel in the A-die's safe state (R21): HELD, unless it is OFF, LATCHED or NOT_OWNER. -/
def State.psHoldOne (s : State) (p : Nat) : State :=
  if s.psState p = 0 ∨ s.psState p = 9 ∨ s.psState p = 10 ∨ s.psState p = 7 then s
  else
    let s := s.psQuiet p
    (s.setPsCh p { s.psCh p with offReq := false, waits := false, fault := .none, meas := none, unmeasured := false }).setPsState p 7

/-- What a START that waited for no relock does (R350). In the safe state it goes no further than HELD (R21). -/
def State.psBegin (s : State) (p : Nat) : State :=
  if s.psState p = 0 then
    let s := (s.thermalStart p).psRamp p true
    if s.flag R.PWR_STALK_STATUS_SAFE then s.psHoldOne p else s
  else if s.psState p = 2 then (if s.flag R.PWR_STALK_STATUS_SAFE then s.psHoldOne p else s.psStarting p)
  else s

/-- START (R350, R351). -/
def State.psStart (s : State) (p : Nat) : State :=
  let st := s.psState p
  if st = 3 ∨ st = 4 then s.put (R.PSC_STATUS_RESULT p) 0
  else
    let r := s.psRefusal p
    let s := s.put (R.PSC_STATUS_RESULT p) r
    if r ≠ 0 then s.psEvent p 1
    else if st = 0 ∨ st = 2 then
      let s := s.clr (R.PSC_STATUS_RE_VALID p)
      if s.ps.relock.isSome then s.setPsCh p { s.psCh p with waits := true } else s.psBegin p
    else s

/-- STOP (R350). -/
def State.psStop (s : State) (p : Nat) : State :=
  let st := s.psState p
  let s := s.put (R.PSC_STATUS_RESULT p) 0
  if st = 1 then s.setPsCh p { s.psCh p with stopReq := true }
  else if st = 3 ∨ st = 4 then s.psFadeOut p false
  else s

/-- A write of a channel's CTRL. -/
def State.psCtrlWrite (s : State) (p : Nat) (w : Word) : State :=
  if s.on .pstage then
    match (R.PSC_CTRL_CMD p).ofWord w with
    | 1 => s.psStart p
    | 2 => s.psStop p
    | 3 => (s.put (R.PSC_STATUS_RESULT p) 0).psOffWrite p
    | _ => s
  else s

/-- A guarded write of PS_CTRL: channels whose EN is clear go to OFF (Table 13.8). A START that waits for a relock in a channel so
cleared is withdrawn (log entry 324). -/
def State.psEnWrite (s : State) (w : Word) : State :=
  if s.on .pstage then
    let s := s.wr R.PS_CTRL (w &&& 0xF)
    forN 4 (fun p s =>
      if w.toNat.testBit p then s
      else if s.psState p = 0 then s.setPsCh p { s.psCh p with waits := false }
      else s.psOffWrite p) s
  else s

/-- STATUS.RETRIES counts the retries of the last 60 s (R358). -/
def State.showRetries (s : State) (p : Nat) : State := s.put (R.PSC_STATUS_RETRIES p) (s.psCh p).retries.length

/-- A guarded write of PS_CLEAR (R358). -/
def State.psClearWrite (s : State) (w : Word) : State :=
  if s.on .pstage then
    forN 4 (fun p s =>
      if w.toNat.testBit p && s.psState p == 9 then
        ((((s.setPsCh p { s.psCh p with retries := [], fault := .none }).showRetries p).put (R.PSC_STATUS_FAULT p) 0).setPsState p 0)
      else s) s
  else s

/-! Shutdown, classification and retry (R346, R355 to R358) -/

/-- A fault's class is known: the event log takes it, and the common mode ramps down (R357, R358). -/
def State.psClassified (s : State) (p cls : Nat) : State :=
  let s := ((s.put (R.PSC_STATUS_FAULT p) cls).psEvent p 4).psDrive p (.ramp false s.cmRamp)
  (s.setPsCh p { s.psCh p with fault := .ramp, meas := none, unmeasured := false }).log 0x31 2 p cls

/-- A channel shuts down (R346, R350, R356): with a class that is known, or to be measured. -/
def State.psShutdown (s : State) (p : Nat) (cls : Option Nat) : State :=
  let s := s.psQuiet p
  let h := s.psCh p
  let s := s.setPsCh p { h with fault := .classify, meas := none, unmeasured := false, waits := false }
  let s := ((s.setPsState p 8).count (R.PSC_SHUT_CNT_COUNT p)).psEvent p 3
  let s := s.log 0x30 3 p (s.get (R.PSC_SHUT_CNT_COUNT p))
  match cls with
  | some c => s.psClassified p c
  | none =>
    let s := s.psDrive p .test
    if s.on .meas then s.urgentAdd (s.get R.PS_CFG_MCV) p
    else s.setPsCh p { s.psCh p with unmeasured := true }

/-- The limit in force, in milliamperes (R355). -/
def State.ilimMa (s : State) (p : Nat) : Nat := 100 * max 20 (min 100 (s.get (R.PSC_ILIM_LIMIT p)))

/-- How many bits of a number below 2^64 are set. -/
def ones64 (w : Nat) : Nat := (sel 64 w.testBit).length

/-- A switching period whose half-bridge current would reach `ma` (R350, R355, R356). -/
def State.switchPeriod (s : State) (p ma : Nat) : State :=
  if s.on .pstage && switching (s.psState p) then
    let h := s.psCh p
    let lim := decide (s.ilimMa p ≤ ma)
    let limited := (2 * h.limited + toBit lim) % 2 ^ 64
    let n := h.periods + 1
    let fade := if s.psState p = 3 ∧ n = 16 ∧ h.fade.isNone then some (true, 0) else h.fade
    let s := s.setPsCh p { h with limited, periods := n, fade, spoiled := h.spoiled || (lim && h.pilot != 0) }
    let s := if lim then (s.count (R.PSC_ILIM_CNT_COUNT p)).psEvent p 2 else s
    if 16 ≤ ones64 limited then s.psShutdown p none else s
  else s

/-- The class by Table 13.4, from V_A and V_B. -/
def State.psClass (s : State) (p : Nat) (va vb : F32) : Nat :=
  let a := fscaled va 32
  let b := fscaled vb 32
  let v : Int := (s.get R.PS_PVDD_V : Nat)
  let low (x : Int) := decide (x * 100000 < 375 * v * 2 ^ 32)
  let high (x : Int) := decide (625 * v * 2 ^ 32 < x * 100000)
  if low a || low b then 2
  else if high a || high b then 3
  else if decide ((a - b) * 5000 < (s.get (R.PSC_ILIM_RSHORT p) : Nat) * 2 ^ 32) then 1
  else 4

/-- V_A and V_B have been measured, or could not be (R357). -/
def State.psClassify (s : State) (p : Nat) : State :=
  let h := s.psCh p
  if s.on .pstage && s.psState p == 8 && decide (h.fault = .classify) then
    if h.unmeasured then s.psClassified p 5
    else match h.meas with
      | some (va, vb) => s.psClassified p (s.psClass p va vb)
      | none => s
  else s

/-- A retry is due (R358): 200 ms have passed, and the ramp and any relock are over. -/
def State.psRetry (s : State) (p : Nat) : State :=
  let h := s.psCh p
  if s.on .pstage && s.psState p == 8 && decide (h.fault = .rest) then
    if s.ps.relock.isSome then s.setPsCh p { h with waits := true }
    else if 8 ≤ h.retries.length then
      ((s.setPsCh p { h with fault := .none, waits := false }).setPsState p 9).psEvent p 5 |>.log 0x33 3 p h.retries.length
    else
      let s := (s.setPsCh p { h with retries := 0 :: h.retries }).showRetries p
      (s.log 0x32 1 p (s.get (R.PSC_STATUS_RETRIES p))).psRamp p true
  else s

/-- The PLL has relocked (R349): what waited for it goes on. -/
def State.kRelocked (s : State) : State :=
  match s.ps.relock with
  | some k =>
    if s.on .pstage then
      let s := { s with ps := { s.ps with relock := none } }
      let s := ((s.put R.PS_STATUS_K_NOW k).raise (R.PS_EVENT_EVENT.bit 0)).emit (.psPll (k * 12288000))
      forN 4 (fun p s =>
        let h := s.psCh p
        if h.waits then
          let s := s.setPsCh p { h with waits := false }
          if s.psState p = 8 then s.psRetry p else s.psBegin p
        else s) s
    else s
  | none => s

/-- A common-mode ramp ends with the outputs at `va` and `vb` millivolts (R350, R358). -/
def State.psRamped (s : State) (p va vb : Nat) : State :=
  let h := s.psCh p
  let st := s.psState p
  if !s.on .pstage then s
  else if st = 1 then
    let v := 10 * s.get R.PS_PVDD_V
    if va * 8 < 3 * v ∨ vb * 8 < 3 * v then s.psShutdown p (some 2)
    else if 5 * v < va * 8 ∨ 5 * v < vb * 8 then s.psShutdown p (some 3)
    else if h.stopReq then (s.psQuiet p).setPsState p 2
    else s.psStarting p
  else if st = 6 then s.setPsState p 0
  else if st = 7 then s.psDrive p .hold
  else if st = 8 ∧ h.fault = .ramp then
    let s := s.psDrive p .zero
    let h := s.psCh p
    if h.offReq then (s.setPsCh p { h with fault := .none, offReq := false }).setPsState p 0
    else s.setPsCh p { h with fault := .rest }
  else s

/-- A signal fade of 64 core samples ends (R350). -/
def State.psFaded (s : State) (p : Nat) : State :=
  let h := s.psCh p
  match h.fade with
  | some (up, k) =>
    if s.powered .pstage && decide (64 ≤ k) then
      if up then (if s.psState p = 3 then (s.setPsCh p { h with fade := none }).setPsState p 4 else s)
      else if s.psState p = 5 then (if h.offReq then s.psRamp p false else (s.psQuiet p).setPsState p 2)
      else s
    else s
  | none => s

/-- The error between command and sense has exceeded 20 % of VFS for 64 periods (R346). -/
def State.psLoopFault (s : State) (p : Nat) : State :=
  if s.on .pstage && switching (s.psState p) then (s.psEvent p 13).psShutdown p (some 6) else s

/-- PVDD as sensed, in units of 10 mV. -/
def State.pvddSet (s : State) (v : Nat) : State :=
  (s.put R.PS_PVDD_V v).put R.PS_STATUS_PVDD_OK (toBit (decide (1150 ≤ v) && decide (v ≤ 3700)))

/-- PVDD crosses into or out of its range (R351). -/
def State.pvddOk (s : State) (v : Nat) : State := if s.on .pstage then s.pvddSet v else s

/-- PVDD leaves 10.8 V to 37.5 V: every switching channel stops at once (R352). -/
def State.pvddFault (s : State) (v : Nat) : State :=
  if s.on .pstage && (decide (v < 1080) || decide (3750 < v)) then
    let s := s.pvddSet v
    let s := s.raise (R.PS_EVENT_EVENT.bit (if v < 1080 then 3 else 4))
    forN 4 (fun p s =>
      if switching (s.psState p) then
        let s := s.psQuiet p
        (s.setPsCh p { s.psCh p with offReq := false }).setPsState p 2
      else s) s
  else s

/-- Ownership is lost: every output is high-impedance at once (R354). -/
def State.psOwnershipLoss (s : State) : State :=
  forN 4 (fun p s =>
    if s.psState p = 0 ∨ s.psState p = 10 then (s.setPsCh p { s.psCh p with waits := false }).psDrive p .highZ
    else
      let s := s.psQuiet p
      (s.setPsCh p { s.psCh p with offReq := false, waits := false, fault := .none, meas := none, unmeasured := false }).setPsState p 10) s

/-- The device owns the outputs again. Without PSTAGE there is nothing that drives them. -/
def State.psOwnershipGain (s : State) : State :=
  if s.on .pstage then forN 4 (fun p s => (if s.psState p = 10 then s.setPsState p 0 else s).psDrive p (s.psDriveOf 0)) s else s

/-- PSTAGE is up: every channel is OFF, at 0 V where the device owns the outputs (R354), and the PLL runs at K_NOW (R347). -/
def State.psWake (s : State) : State :=
  let s := s.emit (.psPll (s.get R.PS_STATUS_K_NOW * 12288000))
  if s.owns then forN 4 (fun p s => s.psDrive p .zero) s else s

/-- The A-die's safe state (R21), and RESUME (R22). -/
def State.psHold (s : State) : State := forN 4 (fun p s => s.psHoldOne p) s

def State.psResume (s : State) : State := forN 4 (fun p s => if s.psState p = 7 then s.setPsState p 2 else s) s

/-- Every switching channel fades out to STOPPED: DIE_HOT, a planned yield, a core rate change (R354, R364, R453). -/
def State.psFadeAll (s : State) : State :=
  forN 4 (fun p s => if s.psState p = 3 ∨ s.psState p = 4 then s.psFadeOut p false else s) s

/-- An abort of a channel (R74, R352). -/
def State.psAbort (s : State) (p : Nat) : State :=
  let s := s.setPsCh p { s.psCh p with limited := 0 }
  if s.psState p = 5 then s.setPsCh p { s.psCh p with offReq := false }
  else if switching (s.psState p) then s.psFadeOut p false
  else s

/-- Whether a channel still fades out (R350, R352). -/
def State.psFading (s : State) (p : Nat) : Bool :=
  switching (s.psState p) && (match (s.psCh p).fade with
    | some (false, k) => decide (k < 64)
    | _ => false)

/-- PSTAGE goes off, once its channels have faded out (R352): channel states, fault history and latches are lost. -/
def State.psPowerOff (s : State) : State :=
  let s := forN 4 (fun p s => (s.pilotAbandon p).psDrive p .highZ) s
  { s with ps := {} }

/-! The signal chain (R344, R359, R360) -/

/-- The square root of a positive number, to 64 bits. -/
def fsqrt (a : F32) : F32 :=
  let x := fop a
  (if x.e % 2 = 0 then fround false (isqrt (x.m <<< 128)) (x.e / 2 - 64) else fround false (isqrt (x.m <<< 129)) ((x.e - 1) / 2 - 64)).v

/-- The voice-coil resistance in force (R359). -/
def State.coilRe (s : State) (p : Nat) : F32 :=
  if s.flag (R.PSC_STATUS_RE_VALID p) then s.rd (R.PSC_RE_MEAS p) else s.rd (R.PSC_RE_NOM p)

/-- The section of R359 from R_e, BL, MMS, CMS and RMS at a core rate (log entry 45). With the resonance at the angle θ of half a core
sample, t = tan θ and q = (RMS + BL² / R_e) √(CMS / MMS), the prewarped bilinear transform gives the gain (BL / R_e) CMS t² and the
denominator 1 + q t + t², 2 (t² − 1), 1 − q t + t². Where the formula divides by zero, has no resonance, or has it at half the core
rate or above, the section is Config.xlimSection. -/
def sectionOf (re bl mms cms rms : F32) (rate : Nat) : List F32 :=
  let one : F32 := 0x3F800000
  let free := Config.xlimSection [re, bl, mms, cms, rms] rate
  let mc := (fmul mms cms).v
  let angle := fop (fdiv (fratio 1 (2 * rate)) (fsqrt mc)).v
  let turn := if 0 ≤ angle.e then halfPi else rneShift (angle.m <<< 96) (-angle.e).toNat
  if [re, bl, mms, cms, rms].any isNaN32 || decide ((fop re).m = 0) || !flt 0 mc || decide (halfPi ≤ turn) then free
  else
    let t := (fdiv (fofScaled (sinOf turn) 96) (fofScaled (sinOf (halfPi - turn)) 96)).v
    let t2 := (fmul t t).v
    let damping := (fadd rms (fdiv (fmul bl bl).v re).v).v
    let root := fsqrt (fdiv cms mms).v
    let qt := (fmul (fmul damping (if flt cms 0 then fneg root else root)).v t).v
    let den := (fadd (fadd one qt).v t2).v
    let b := (fdiv (fmul (fmul (fdiv bl re).v cms).v t2).v den).v
    let a1 := (fdiv (fmul 0x40000000 (fsub t2 one).v).v den).v
    let a2 := (fdiv (fadd (fsub one qt).v t2).v den).v
    if (fop den).m = 0 then free
    else [b, (fmul 0x40000000 b).v, b, a1, a2]

/-- The excursion section in force (R359): derived from the parameters, or written by the host. -/
def State.xlimCoef (s : State) (p : Nat) : List F32 :=
  if s.flag (R.PSC_CFG_MODEL p) then (List.range 5).map (fun k => s.rd (R.PSC_BQ p k))
  else sectionOf (s.coilRe p) (s.rd (R.PSC_BL p)) (s.rd (R.PSC_MMS p)) (s.rd (R.PSC_CMS p)) (s.rd (R.PSC_RMS p)) s.rate

/-- The terms of 1 − e^(−x) × 2^96 from `term` = x^k / k! × 2^96 on. -/
def decaySeries (x : Nat) : Nat → Nat → Nat → Int
  | 0, _, _ => 0
  | f + 1, k, term => (term : Int) - decaySeries x f (k + 1) (term * x / 2 ^ 96 / (k + 1))

/-- c_rel of R360 for XREL in units of 10 ms at a core rate, rounded once. -/
def releaseOf (xrel rate : Nat) : F32 :=
  let x := 100 * 2 ^ 96 / (xrel * rate)
  fofScaled (decaySeries x 12 1 x) 96

/-- The excursion limiter as the registers have it now: it acts from the frame boundary on (R359, R360). -/
def State.xlimNow (s : State) (p : Nat) : Option PsXlim :=
  if s.flag (R.PSC_CFG_XLIM_EN p) then
    some { coef := s.xlimCoef p
           xl := (fmul (s.rd (R.PSC_XMAX p)) (fratio (min 100 (s.get (R.PSC_XLIM_CFG_XPCT p))) 100)).v
           rel := releaseOf (max 1 (s.get (R.PSC_XLIM_CFG_XREL p))) s.rate }
  else none

/-- One sample of the section, in the form of R260: x and the new state words. -/
def sectionStep (coef : List F32) (u s1 s2 : F32) : F32 × F32 × F32 :=
  let k (i : Nat) : F32 := (coef[i]?).getD 0
  let y := (ffma (k 0) u s1).v
  let t1 := (ffma (fneg (k 3)) y (ffma (k 1) u s2).v).v
  let t2 := (ffma (fneg (k 4)) y (fmul (k 2) u).v).v
  if isNaN32 t1 || isNaN32 t2 then (y, 0, 0) else (y, t1, t2)

/-- att (R360) over the look-ahead, oldest first, from place `j` of `d`. -/
def attOf (d : Nat) : Nat → List (F32 × F32) → F32
  | _, [] => 0x3F800000
  | j, (_, need) :: t =>
    let v := (fadd need (fmul (fsub 0x3F800000 need).v (fratio j d)).v).v
    let r := attOf d (j + 1) t
    if flt v r then v else r

/-- What a channel's chain does over a frame. -/
structure PsRun where
  ch : PsCh
  /-- The voltage commands so far, last first. -/
  vs : List F32 := []
  clip : Bool := false
  peak : F32 := 0
  dip : Bool := false

/-- One sample of the chain of R344. -/
def State.psSample (s : State) (p : Nat) (gain : F32) (r : PsRun) (x : F32) : PsRun :=
  let h := r.ch
  let u0 := (fmul (fmul x (fratio (s.get (R.PSC_CFG_VFS p)) 100)).v gain).v
  let u := if s.flag (R.PSC_CFG_INV p) then fneg u0 else u0
  let d := s.rate / 1000
  let sec := match h.xlim with | some c => sectionStep c.coef u h.s1 h.s2 | none => (0, 0, 0)
  let mag := (fabs sec.1).v
  let need : F32 := match h.xlim with
    | some c => if flt c.xl mag && !isNaN32 mag then (fdiv c.xl mag).v else 0x3F800000
    | none => 0x3F800000
  let look := ((u, need) :: h.look).take (d + 1)
  let full := decide (look.length = d + 1)
  let old : F32 := if full then (look.getLast?.map (·.1)).getD 0 else 0
  let att := attOf d (d + 1 - look.length) look.reverse
  let a : F32 := match h.xlim with
    | some c => let rel := (fadd h.a (fmul (fsub 0x3F800000 h.a).v c.rel).v).v; if flt att rel then att else rel
    | none => 0x3F800000
  let w : F32 := if s.psState p = 3 ∧ h.fade.isNone then 0
    else match h.fade with
      | none => 0x3F800000
      | some (true, k) => fadeIn64 k
      | some (false, k) => fadeOut64 k
  let n := s.rate / 20
  let level := if h.level < h.goal * n then h.level + 1 else if h.goal * n < h.level then h.level - 1 else h.level
  let pil : F32 := let q := fratio (h.amp * level.natAbs) (1000 * n); if level < 0 then fneg q else q
  let pil := match h.fade with | some (false, k) => (fmul pil (fadeOut64 k)).v | _ => pil
  let v := (fadd (fmul (fmul old a).v w).v pil).v
  let top := fratio (65 * s.get R.PS_PVDD_V) 10000
  let clip := flt top (fabs v).v
  let out := if clip then (if flt v 0 then fneg top else top) else v
  let ch := { h with s1 := sec.2.1, s2 := sec.2.2, look, a, level, fade := h.fade.map (fun f => (f.1, min 64 (f.2 + (h.half + h.pace) / 2)))
                     half := (h.half + h.pace) % 2
                     spoiled := h.spoiled || (h.pilot != 0 && (clip || flt a 0x3F800000)) }
  { ch, vs := out :: r.vs, clip := r.clip || clip, peak := if flt r.peak mag then mag else r.peak, dip := r.dip || flt a 0x3F800000 }

/-- A reduction of `r` units of 1/480,000 dB as an amplitude. -/
def redAmp (r : Nat) : F32 := if r = 0 then 0x3F800000 else ampOf (-((r / 48 : Nat) : Int))

/-- 20 log10(1/a) in units of 0.1 dB, for an amplitude of at most 1. -/
def reduction10 (a : F32) : Nat :=
  let x := fop a
  if x.m = 0 then 255 else min 255 ((-(200 * log2Fixed x.m x.e) / log2Fixed 10 0).toNat)

/-- A quotient, and a free value where the divisor is 0 (log entry 47). -/
def State.quot (s : State) (a b : F32) : F32 × State :=
  if (fop b).m = 0 then let d := s.draw; (canon32 (Config.freeWord d.1), d.2) else ((fdiv a b).v, s)

/-- The thermal model over a frame (R363): the mean of i² is a free value while the channel carries current (log entry 47). -/
def State.thermalFrame (s : State) (p : Nat) : State :=
  let on := s.flag (R.PSC_CFG_TLIM_EN p)
  let len := s.audio.len
  let s := if on then
    let h := s.psCh p
    let live := switching (s.psState p)
    let d := s.draw
    let f := canon32 (Config.freeWord d.1) &&& 0x7FFFFFFF
    let pw : F32 := if !live || isNaN32 f then 0 else (fmul f (s.coilRe p)).v
    let s := if live then d.2 else s
    let tv := s.rd (R.PSC_T_COIL p)
    let rtv := s.rd (R.PSC_RTV p)
    let dt := fratio len s.rate
    let (flow, s) := s.quot (fsub tv h.tm).v rtv
    let (up, s) := s.quot (fmul (fmul dt (fsub pw flow).v).v rtv).v (s.rd (R.PSC_TAUV p))
    let tv' := (fadd tv up).v
    let (flow', s) := s.quot (fsub tv' h.tm).v rtv
    let amb := fofInt (sgn 8 (s.get (R.PSC_THERM_CFG_T_AMB p)))
    let rtm := s.rd (R.PSC_RTM p)
    let (loss, s) := s.quot (fsub h.tm amb).v rtm
    let (up, s) := s.quot (fmul (fmul dt (fsub flow' loss).v).v rtm).v (s.rd (R.PSC_TAUM p))
    let tm' := (fadd h.tm up).v
    let lim : Int := (s.get (R.PSC_THERM_CFG_T_LIM p) : Nat) * 2 ^ 16
    let s := if fscaled tv 16 < lim ∧ lim ≤ fscaled tv' 16 then s.psEvent p 12 else s
    (s.wr (R.PSC_T_COIL p) tv').setPsCh p { s.psCh p with tm := tm' }
    else s
  let h := s.psCh p
  let excess := fscaled (s.rd (R.PSC_T_COIL p)) 16 - ((s.get (R.PSC_THERM_CFG_T_LIM p) : Nat) - 20) * 2 ^ 16
  let goal := if on then min (24 * 480000) ((excess * 288000 / 2 ^ 16).toNat) else 0
  let fall := 480000 * len / s.rate
  let rise := 96000 * len / s.rate
  let red := if h.red < goal then min goal (h.red + fall) else max goal (h.red - rise)
  let s := if h.red = 0 ∧ 0 < red then s.psEvent p 7 else s
  ((s.setPsCh p { h with red }).put (R.PSC_STATUS_TLIM p) (toBit (decide (0 < red)))).put (R.PSC_GR_TLIM p) (min 255 (red / 48000))

/-- A channel over a frame: the chain while it switches, the thermal model, and the ages of its retries. -/
def State.psFrame (s : State) (p : Nat) : State :=
  let h := s.psCh p
  let old := h.retries
  let ages := (old.map (· + s.audio.len * (96000 / s.rate))).filter (fun t => decide (t ≤ 60 * 96000))
  let s := if old = [] then s else (s.setPsCh p { h with retries := ages }).showRetries p
  let s := s.thermalFrame p
  if switching (s.psState p) then
    let gain := (fmul (redAmp (s.psCh p).red) (redAmp s.ps.red)).v
    let r := (s.sinkThere (1444 + p)).foldl (fun r x => s.psSample p gain r x) { ch := s.psCh p : PsRun }
    let was := s.flag (R.PSC_STATUS_XLIM p)
    let s := s.setPsCh p r.ch
    let s := s.emit (.psBridge p (s.get R.PS_STATUS_K_NOW * 24000) (64 * s.get (R.PSC_CFG_PHASE p)) r.vs.reverse)
    let s := s.put (R.PSC_STATUS_CLIP p) (toBit r.clip)
    let s := if r.clip then (s.count (R.PSC_CLIP_CNT_COUNT p)).psEvent p 8 else s
    let s := if r.dip && !was then s.psEvent p 6 else s
    let s := (s.put (R.PSC_STATUS_XLIM p) (toBit (flt r.ch.a 0x3F800000))).put (R.PSC_GR_XLIM p) (reduction10 r.ch.a)
    let pk := s.rd (R.PSC_X_PEAK p)
    if flt pk r.peak then s.wr (R.PSC_X_PEAK p) r.peak else s
  else ((s.put (R.PSC_STATUS_CLIP p) 0).put (R.PSC_STATUS_XLIM p) 0).put (R.PSC_GR_XLIM p) 0

/-- The excursion limiter of the frame that begins. -/
def State.xlimLatch (s : State) (p : Nat) : State := s.setPsCh p { s.psCh p with xlim := s.xlimNow p }

/-- The power stage at a frame boundary: over the frame that ended, then the parameters for the next. -/
def State.psFrames (s : State) : State :=
  if s.powered .pstage then forN 4 (fun p s => s.xlimLatch p) (forN 4 (fun p s => s.psFrame p) s) else s

/-! Pilot (R361, R362) -/

/-- A RUNNING channel begins a pilot cycle, once the pilot of the last one is back at 0; its A holds for the whole cycle. -/
def State.pilotStart (s : State) (p : Nat) : State :=
  let h := s.psCh p
  if s.on .pstage && s.psState p == 4 && s.flag (R.PSC_CFG_PILOT_EN p) && h.pilot == 0 && h.level == 0 then
    s.setPsCh p { h with pilot := 1, vals := [], spoiled := false, goal := 1, amp := max 20 (min 500 (s.get (R.PSC_PILOT_AMP p))) }
  else s

/-- A settle of 1 s ends: the sense voltage is to be measured. -/
def State.pilotSettled (s : State) (p : Nat) : State :=
  let h := s.psCh p
  if s.on .pstage && (h.pilot == 1 || h.pilot == 3) then
    let s := s.setPsCh p { h with pilot := h.pilot + 1 }
    s.prioAdd (s.get R.PS_CFG_MCV) p (16 + p)
  else s

/-- α as written (R363). -/
def alphaOf (alu : Bool) : F32 := if alu then fratio 403 100000 else fratio 393 100000

/-- The four conversions are complete (R361 to R363): RE_MEAS, or nothing where the cycle is discarded. -/
def State.pilotMeasured (s : State) (p : Nat) : State :=
  let h := s.psCh p
  if s.on .pstage && h.pilot == 5 then
    let s := s.setPsCh p { h with pilot := 0, vals := [], spoiled := false }
    if h.spoiled then s
    else match h.vals with
      | [vp, ip, vm, im] =>
        let di := (fsub ip im).v
        let d := s.draw
        let re := if (fop di).m = 0 then canon32 (Config.freeWord d.1) else (fdiv (fsub vp vm).v di).v
        let s := if (fop di).m = 0 then d.2 else s
        let s := ((s.wr (R.PSC_RE_MEAS p) re).raise (R.PSC_STATUS_RE_VALID p)).psEvent p 11
        let nom := s.rd (R.PSC_RE_NOM p)
        let s := if flt (fmul 0x40800000 nom).v re then s.psEvent p 9 else s
        let s := if flt re (fmul 0x3F000000 nom).v then s.psEvent p 10 else s
        if s.flag (R.PSC_CFG_TLIM_EN p) then
          let (ratio, s) := s.quot re nom
          let r := (fsub ratio 0x3F800000).v
          let t := (fadd (fofInt (s.get (R.PSC_THERM_CFG_T_REF p) : Nat)) (fdiv r (alphaOf (s.flag (R.PSC_THERM_CFG_MATERIAL p)))).v).v
          let was := fscaled (s.rd (R.PSC_T_COIL p)) 16
          let lim : Int := (s.get (R.PSC_THERM_CFG_T_LIM p) : Nat) * 2 ^ 16
          let s := s.wr (R.PSC_T_COIL p) t
          if was < lim ∧ lim ≤ fscaled t 16 then s.psEvent p 12 else s
        else s
      | _ => s
  else s

/-! Die temperature (R364, R383) -/

/-- The A-die's temperature `ta` in millidegrees, with the D-die's where it is known. -/
def State.dieTemp (s : State) (ta : Int) (td : Option Int) : State :=
  if s.pins.inReset then s else
  let s := { s with meas := { s.meas with temp := ta } }
  let s := if s.on .meas then
    forN 4 (fun c s =>
      if s.flag (R.MCVC_STATUS_CAL_VALID c) then
        s.put (R.MCVC_STATUS_CAL_STALE c) (toBit (decide (20000 < (ta - (s.mcv c).calTemp).natAbs)))
      else s) s
    else s
  if s.on .pstage then
    let dt := match td with | some t => ta - t | none => 0
    let goal := min (24 * 480000) (288 * (ta - 110000).toNat + 576 * (dt - 45000).toNat)
    let red := if s.ps.red < goal then min goal (s.ps.red + 240) else max goal (s.ps.red - 240)
    let s := { s with ps := { s.ps with red } }
    let s := s.put R.PS_PVDD_GR_DIE (min 255 (red / 48000))
    let s := if decide (0 < goal) && !s.flag R.PS_STATUS_DERATING then s.raise (R.PS_EVENT_EVENT.bit 5) else s
    let s := s.put R.PS_STATUS_DERATING (toBit (decide (0 < goal)))
    if decide (123000 ≤ ta) && !s.flag R.PS_STATUS_DIE_HOT then
      ((s.raise R.PS_STATUS_DIE_HOT).raise (R.PS_EVENT_EVENT.bit 6)).psFadeAll
    else if ta < 110000 then s.clr R.PS_STATUS_DIE_HOT
    else s
  else s

def execPsEnableWrite (w : BitVec 32) (s : State) : Result :=
  finish (s.hostPut (R.PS_CTRL) w (fun s => s.psEnWrite w))
def execPsClear (w : BitVec 32) (s : State) : Result :=
  finish (s.hostPut (R.PS_CLEAR) w (fun s => s.psClearWrite w))
def execPsStart (p : Fin 4) (w : BitVec 32) (s : State) : Result :=
  finish (s.hostPut (R.PSC_CTRL p) ((R.PSC_CTRL_CMD p).inWord w 1) (fun s => s.psCtrlWrite p ((R.PSC_CTRL_CMD p).inWord w 1)))
def execPsStop (p : Fin 4) (w : BitVec 32) (s : State) : Result :=
  finish (s.hostPut (R.PSC_CTRL p) ((R.PSC_CTRL_CMD p).inWord w 2) (fun s => s.psCtrlWrite p ((R.PSC_CTRL_CMD p).inWord w 2)))
def execPsOff (p : Fin 4) (w : BitVec 32) (s : State) : Result :=
  finish (s.hostPut (R.PSC_CTRL p) ((R.PSC_CTRL_CMD p).inWord w 3) (fun s => s.psCtrlWrite p ((R.PSC_CTRL_CMD p).inWord w 3)))
def execPsCmRampDone (p : Fin 4) (va vb : Nat) (s : State) : Result := finish (s.psRamped p va vb)
def execPsFadeDone (p : Fin 4) (s : State) : Result := finish (s.psFaded p)
def execPsSwitchingPeriod (p : Fin 4) (ma : Nat) (s : State) : Result := finish (s.switchPeriod p ma)
def execPsClassifyDone (p : Fin 4) (s : State) : Result := finish (s.psClassify p)
def execPsRetryDue (p : Fin 4) (s : State) : Result := finish (s.psRetry p)
def execPsLoopFault (p : Fin 4) (s : State) : Result := finish (s.psLoopFault p)
def execPsKConfigWrite (j : Option (Fin 8)) (w : BitVec 32) (s : State) : Result :=
  finish (match j with
    | some j => s.hostPut (R.PS_AM j) w (fun s => s.amWrite j w)
    | none => s.hostPut R.PS_CFG w (fun s => s.psCfgWrite w))
def execPsKRelockDone (s : State) : Result := finish s.kRelocked
def execPsKPendingApply (s : State) : Result := finish s.kApply
def execPvddFault (v : BitVec 12) (s : State) : Result := finish (s.pvddFault v.toNat)
def execPvddOkChange (v : BitVec 12) (s : State) : Result := finish (s.pvddOk v.toNat)
def execPilotCycleStart (p : Fin 4) (s : State) : Result := finish (s.pilotStart p)
def execPilotSettleDone (p : Fin 4) (s : State) : Result := finish (s.pilotSettled p)
def execPilotMeasureDone (p : Fin 4) (s : State) : Result := finish (s.pilotMeasured p)
def execDieTempSample (ta : Int) (td : Option Int) (s : State) : Result := finish (s.dieTemp ta td)

end Sys2Proof.Machine
end

