-- ==== Sys2Proof/Machine/Bytes.lean ====
section
/-!
DEFINITION. Network byte order, checksums and the headers of Ethernet, IPv4 and UDP frames (R134 to R136).
-/
namespace Sys2Proof.Machine

/-- A number as `k` bytes, most significant first. -/
def beBytes : Nat → Nat → List (BitVec 8)
  | 0, _ => []
  | k + 1, v => BitVec.ofNat 8 (v / 256 ^ k) :: beBytes k v

/-- Bytes, most significant first, as a number. -/
def beNat (bs : List (BitVec 8)) : Nat := bs.foldl (fun a b => a * 256 + b.toNat) 0

/-- The number in `k` bytes from offset `o`; bytes beyond the end count as 0. -/
def beAt (bs : List (BitVec 8)) (o k : Nat) : Nat :=
  let l := (bs.drop o).take k
  beNat l * 256 ^ (k - l.length)

/-- A 32-bit word as four bytes, lowest first. -/
def leBytes (v : Nat) : List (BitVec 8) := (beBytes 4 v).reverse

/-- The sum of 16-bit words, an odd last byte padded with zero. -/
def sum16 : List (BitVec 8) → Nat
  | [] => 0
  | [a] => a.toNat * 256
  | a :: b :: t => a.toNat * 256 + b.toNat + sum16 t

/-- Fold a sum to 16 bits in ones' complement. -/
def fold16 (v : Nat) : Nat :=
  let v := v % 65536 + v / 65536
  let v := v % 65536 + v / 65536
  v % 65536 + v / 65536

/-- The Internet checksum of some bytes. -/
def checksum (bs : List (BitVec 8)) : Nat := 65535 - fold16 (sum16 bs)

/-- The pseudo-header of a UDP checksum. -/
def udpPseudo (src dst len : Nat) : List (BitVec 8) := beBytes 4 src ++ beBytes 4 dst ++ [0, 17] ++ beBytes 2 len

/-- An IPv4 datagram with a computed header checksum; `opt` is a whole number of words. -/
def ipv4 (dscp ttl proto ident src dst : Nat) (opt body : List (BitVec 8)) : List (BitVec 8) :=
  let hl := 20 + opt.length
  let head (ck : Nat) := beBytes 1 (64 + hl / 4) ++ beBytes 1 (dscp * 4) ++ beBytes 2 (hl + body.length) ++ beBytes 2 ident
    ++ beBytes 2 0x4000 ++ beBytes 1 ttl ++ beBytes 1 proto ++ beBytes 2 ck ++ beBytes 4 src ++ beBytes 4 dst ++ opt
  head (checksum (head 0)) ++ body

/-- A UDP datagram with a computed checksum; a computed 0 is sent as all ones. -/
def udp (src dst sport dport : Nat) (body : List (BitVec 8)) : List (BitVec 8) :=
  let len := 8 + body.length
  let head (ck : Nat) := beBytes 2 sport ++ beBytes 2 dport ++ beBytes 2 len ++ beBytes 2 ck
  let ck := checksum (udpPseudo src dst len ++ head 0 ++ body)
  head (if ck = 0 then 65535 else ck) ++ body

/-- An Ethernet frame, without FCS, with an optional 802.1Q tag given as (PCP, VID). -/
def ether (dst src : Nat) (tag : Option (Nat × Nat)) (etype : Nat) (body : List (BitVec 8)) : List (BitVec 8) :=
  beBytes 6 dst ++ beBytes 6 src
    ++ (match tag with
        | some (pcp, vid) => beBytes 2 0x8100 ++ beBytes 2 (pcp * 8192 + vid)
        | none => [])
    ++ beBytes 2 etype ++ body

/-- The multicast MAC address of an IPv4 group. -/
def groupMac (g : Nat) : Nat := 0x01005E000000 + g % 2 ^ 23

/-- Whether an IPv4 address is multicast. -/
def isGroup (g : Nat) : Bool := decide (0xE0000000 ≤ g) && decide (g < 0xF0000000)

/-- A received frame taken apart: addresses, the removed tag as (PCP, VID), EtherType, and what follows. -/
structure EthRx where
  dst : Nat
  src : Nat
  tag : Option (Nat × Nat)
  etype : Nat
  body : List (BitVec 8)
  deriving DecidableEq, Repr

/-- Take a frame apart (R135). -/
def parseEth (bs : List (BitVec 8)) : EthRx :=
  let dst := beAt bs 0 6
  let src := beAt bs 6 6
  if beAt bs 12 2 = 0x8100 then
    let tci := beAt bs 14 2
    { dst, src, tag := some (tci / 8192, tci % 4096), etype := beAt bs 16 2, body := bs.drop 18 }
  else { dst, src, tag := none, etype := beAt bs 12 2, body := bs.drop 14 }

/-- The frame without its tag. -/
def EthRx.untagged (e : EthRx) : List (BitVec 8) := beBytes 6 e.dst ++ beBytes 6 e.src ++ beBytes 2 e.etype ++ e.body

/-- A received IPv4 datagram taken apart. -/
structure IpRx where
  /-- The header checksum is right. -/
  ok : Bool
  /-- It carries options, or is a fragment (R136). -/
  special : Bool
  /-- It is a fragment. -/
  frag : Bool
  proto : Nat
  src : Nat
  dst : Nat
  body : List (BitVec 8)
  deriving DecidableEq, Repr

def parseIp (b : List (BitVec 8)) : IpRx :=
  let hl := beAt b 0 1 % 16 * 4
  let total := beAt b 2 2
  let frag := beAt b 6 2 % 16384
  { ok := decide (beAt b 0 1 / 16 = 4) && decide (20 ≤ hl) && decide (hl ≤ total) && decide (total ≤ b.length)
      && fold16 (sum16 (b.take hl)) == 65535
    special := hl != 20 || frag != 0, frag := frag != 0
    proto := beAt b 9 1, src := beAt b 12 4, dst := beAt b 16 4, body := (b.take total).drop hl }

/-- A received UDP datagram taken apart: ports, data, and whether its checksum is absent or right. -/
structure UdpRx where
  ok : Bool
  sport : Nat
  dport : Nat
  data : List (BitVec 8)
  deriving DecidableEq, Repr

def parseUdp (i : IpRx) : UdpRx :=
  let len := beAt i.body 4 2
  let d := i.body.take len
  { ok := decide (8 ≤ len) && decide (len ≤ i.body.length)
      && (beAt i.body 6 2 == 0 || fold16 (sum16 (udpPseudo i.src i.dst len ++ d)) == 65535)
    sport := beAt d 0 2, dport := beAt d 2 2, data := d.drop 8 }

end Sys2Proof.Machine
end

