-- ==== Sys2Proof/Machine/Silo.lean ====
section
/-!
DEFINITION. Silos: opening and closing, packing, packets, overrun, the window, the middle region and the DMA channels (chapter 10).
-/
namespace Sys2Proof.Machine

/-- Bytes packed little-endian into words; the last is padded with zeros and tagged with its valid bytes (R274, R275). -/
def packWords : List (BitVec 8) → List SiloWord
  | [] => []
  | [a] => [{ data := a.zeroExtend 32, tag := 1 }]
  | [a, b] => [{ data := (b ++ a).zeroExtend 32, tag := 2 }]
  | [a, b, c] => [{ data := (c ++ b ++ a).zeroExtend 32, tag := 3 }]
  | a :: b :: c :: d :: t => { data := d ++ c ++ b ++ a } :: packWords t

/-- Mark the last word of a packet. -/
def markLast (trunc : Bool) : List SiloWord → List SiloWord
  | [] => []
  | [w] => [{ w with last := true, trunc }]
  | w :: t => w :: markLast trunc t

/-- The bytes of a word, lowest first. -/
def wordBytes (w : BitVec 32) : List (BitVec 8) :=
  [w.extractLsb' 0 8, w.extractLsb' 8 8, w.extractLsb' 16 8, w.extractLsb' 24 8]

/-- What an open packet occupies: its header slot and its bytes (R277, R280). -/
def SiloPkt.size (p : SiloPkt) : Nat := 8 + p.bytes.length

def State.silo (s : State) (n : Nat) : SiloQ := look {} s.silos.q n

def State.setSilo (s : State) (n : Nat) (q : SiloQ) : State := { s with silos := { s.silos with q := upd s.silos.q n q } }

def State.dma (s : State) (c : Nat) : DmaCh := look {} s.silos.dma c

def State.setDma (s : State) (c : Nat) (d : DmaCh) : State := { s with silos := { s.silos with dma := upd s.silos.dma c d } }

def State.siloOpen (s : State) (n : Nat) : Bool := s.flag (R.SILO_S_STATUS_OPEN n)

/-- The bytes of a silo's own head, and of its tail, with those it gangs (R270). -/
def State.siloSide (s : State) (n : Nat) : Nat := 256 * (s.get (R.SILO_S_CFG_GANG n) + 1)

/-- The size of a silo's middle region in bytes: 0 without one (R270). -/
def State.siloMid (s : State) (n : Nat) : Nat :=
  if s.flag (R.SILO_S_CFG_MID_EN n) then s.get (R.SILO_S_MID_SIZE_SIZE n) * 65536 else 0

/-- A silo's capacity in bytes (R270). -/
def State.siloCap (s : State) (n : Nat) : Nat := 2 * s.siloSide n + s.siloMid n

/-- The bytes a silo holds: visible, in an open packet, or in a partial word. -/
def SiloQ.held (q : SiloQ) : Nat := q.head + q.mid + q.tail

/-- FREE (R280): 0 while CLOSED. -/
def State.siloFree (s : State) (n : Nat) : Nat := if s.siloOpen n then s.siloCap n - (s.silo n).held else 0

/-- The tail's free bytes (R280). -/
def State.siloTailFree (s : State) (n : Nat) : Nat := s.siloSide n - (s.silo n).tail

/-- The bypass of R270: while the middle is empty and the head has room, data moves from tail to head directly. -/
def State.siloSettle (s : State) (n : Nat) : State :=
  let q := s.silo n
  let k := if q.mid = 0 then min q.tail (s.siloSide n - q.head) else 0
  s.setSilo n { q with head := q.head + k, tail := q.tail - k }

/-- Whether DRAM traffic moves a silo's bytes now: it has a middle region, and the DRAM is READY (R238, R292). -/
def State.siloSpills (s : State) (n : Nat) : Bool :=
  s.siloOpen n && s.flag (R.SILO_S_CFG_MID_EN n) && s.get R.MEM_STATUS_STATE == 2

/-- DRAM traffic moves up to `outB` bytes from a silo's middle region to its head, and up to `inB` from its tail to the middle, in whole
words; the bypass follows (R270). -/
def State.siloShift (s : State) (n inB outB : Nat) : State :=
  let q := s.silo n
  let j := min (min outB q.mid) (s.siloSide n - q.head) / 4 * 4
  let q := { q with mid := q.mid - j, head := q.head + j }
  let k := min (min inB q.tail) (s.siloMid n - q.mid) / 4 * 4
  (s.setSilo n { q with tail := q.tail - k, mid := q.mid + k }).siloSettle n

/-- The head as a consumer finds it: where it holds no whole word, DRAM traffic has filled it from the middle region. -/
def State.siloFed (s : State) (n : Nat) : State :=
  if (s.silo n).head < 4 ∧ s.siloSpills n then s.siloShift n 0 (s.silo n).mid else s

/-- Bring STATUS, VIS and FREE to the silo's contents; VIS rising to WM sets LEVEL (R290, Table 10.7). -/
def State.siloShow (s : State) (n : Nat) : State :=
  let q := s.silo n
  let was := s.get (R.SILO_S_VIS_VIS n)
  let vis := 4 * q.words.length
  let free := s.siloFree n
  let wm := s.get (R.SILO_S_WM_WM n)
  let s := (s.put (R.SILO_S_VIS_VIS n) vis).put (R.SILO_S_FREE_FREE n) free
  let s := (s.put (R.SILO_S_STATUS_FULL n) (toBit (s.siloOpen n && decide (free < 32)))).put
    (R.SILO_S_STATUS_EMPTY n) (toBit (vis == 0))
  let s := (s.put (R.SILO_S_STATUS_PKT_OPEN n) (toBit q.pkt.isSome)).put
    (R.SILO_S_STATUS_TRUNC_PEND n) (toBit ((q.pkt.map (·.trunc)).getD false))
  let s := s.put (R.SILO_S_STATUS_SPILLING n) (toBit (q.mid != 0))
  if wm ≠ 0 ∧ was < wm ∧ wm ≤ vis then s.raise (R.SILO_S_EVENT_LEVEL n) else s

/-- Add bytes at the tail of a silo's occupancy. -/
def State.siloGrow (s : State) (n k : Nat) : State := s.setSilo n { s.silo n with tail := (s.silo n).tail + k }

/-- Words become visible (R276, R278, R290). -/
def State.siloVisible (s : State) (n : Nat) (ws : List SiloWord) : State :=
  (s.setSilo n { s.silo n with words := (s.silo n).words ++ ws }).put (R.SILO_S_IN_CNT_COUNT n)
    (s.get (R.SILO_S_IN_CNT_COUNT n) + 4 * ws.length)

/-- A silo operation that is ignored as an orphan (R279). -/
def State.siloOrphan (s : State) (n : Nat) : State :=
  (s.countSat (R.SILO_S_ERR_CNT_ORPHAN_CNT n)).raise (R.SILO_S_EVENT_ORPHAN n)

/-- A refused data write (R280, R281): a backlog too where it fits in FREE. -/
def State.siloRefuse (s : State) (n k : Nat) : State :=
  let s := (s.count (R.SILO_S_OVR_CNT_COUNT n)).raise (R.SILO_S_EVENT_OVERRUN n)
  if k ≤ s.siloFree n ∧ s.siloTailFree n < k then
    (s.countSat (R.SILO_S_SEQ_BACKLOG_CNT n)).raise (R.SILO_S_EVENT_BACKLOG n)
  else s

/-- Split a partial word's bytes into the whole words and what is left. -/
def wholeWords : List (BitVec 8) → List SiloWord × List (BitVec 8)
  | a :: b :: c :: d :: t =>
    let r := wholeWords t
    ({ data := d ++ c ++ b ++ a } :: r.1, r.2)
  | l => ([], l)

/-- A producer's data write, accepted or refused whole (R274, R276, R279 to R282); the result says whether it was accepted.
`need` is what has to fit in the tail: the whole write, or nothing where the producer waits on the tail itself. -/
def State.siloData (s : State) (n : Nat) (bs : List (BitVec 8)) (need : Nat) : Bool × State :=
  let q := s.silo n
  let k := bs.length
  let fits := decide (k ≤ s.siloFree n) && decide (need ≤ s.siloTailFree n)
  if s.flag (R.SILO_S_CFG_PKT_MODE n) then
    match q.pkt with
    | none => (false, s.siloOrphan n)
    | some p =>
      if p.trunc then (false, s)
      else if fits && decide (p.bytes.length + k ≤ 1048575) then
        (true, (((s.setSilo n { q with pkt := some { p with bytes := p.bytes ++ bs } }).siloGrow n k).siloSettle n).siloShow n)
      else
        (false, ((s.siloRefuse n k).setSilo n { q with pkt := some { p with trunc := true } }).siloShow n)
  else if fits then
    let r := wholeWords (q.part ++ bs)
    (true, ((((s.setSilo n { q with part := r.2 }).siloGrow n k).siloVisible n r.1).siloSettle n).siloShow n)
  else (false, s.siloRefuse n k)

/-- A packet open (R277, R279); the result says whether the packet is open. -/
def State.siloPktOpen (s : State) (n : Nat) : Bool × State :=
  let q := s.silo n
  if !s.flag (R.SILO_S_CFG_PKT_MODE n) || q.pkt.isSome then (false, s.siloOrphan n)
  else
    let seq := s.get (R.SILO_S_SEQ_NEXT n)
    let s := s.put (R.SILO_S_SEQ_NEXT n) (seq + 1)
    if 8 ≤ s.siloFree n ∧ 8 ≤ s.siloTailFree n then
      (true, (((s.setSilo n { q with pkt := some { seq, lost := q.lost }, lost := false }).siloGrow n 8).siloSettle n).siloShow n)
    else (false, (s.count (R.SILO_S_OVR_CNT_COUNT n)).setSilo n { q with lost := true })

/-- The header of a packet (Table 10.3). -/
def pktHeader (p : SiloPkt) : Word :=
  BitVec.ofNat 32 (p.bytes.length + (if p.trunc then 2 ^ 20 else 0) + (if p.lost then 2 ^ 21 else 0) + p.seq % 256 * 2 ^ 24)

/-- A packet close with header word 1 `user` (R275, R277 to R279); the result says whether a packet was closed. -/
def State.siloPktClose (s : State) (n : Nat) (user : Word) : Bool × State :=
  let q := s.silo n
  match q.pkt with
  | none => (false, s.siloOrphan n)
  | some p =>
    let body := packWords p.bytes
    let ws := markLast p.trunc ({ data := pktHeader p } :: { data := user } :: body)
    let s := if p.trunc then s.raise (R.SILO_S_EVENT_TRUNC n) else s
    (true, ((((s.setSilo n { q with pkt := none }).siloGrow n (4 * body.length - p.bytes.length)).siloVisible n ws).siloSettle
      n).siloShow n)

/-- A producer that stops with a packet open: it closes truncated with header word 1 equal to 0 (R279). -/
def State.siloStopProducer (s : State) (n : Nat) : State :=
  match (s.silo n).pkt with
  | none => s
  | some p => ((s.setSilo n { s.silo n with pkt := some { p with trunc := true } }).siloPktClose n 0).2

/-- A flush (R276): a partial word is padded and becomes visible; nothing in packet mode. -/
def State.siloFlush (s : State) (n : Nat) : State :=
  let q := s.silo n
  if s.flag (R.SILO_S_CFG_PKT_MODE n) || q.part.isEmpty then s
  else
    ((((s.setSilo n { q with part := [] }).siloGrow n (4 - q.part.length)).siloVisible n (packWords q.part)).siloSettle n).siloShow n

/-- Take the head word: the consumer's side of every silo. While the DRAM is not READY, visible words that are not in the head cannot be
taken (R292). -/
def State.siloTake (s : State) (n : Nat) : Option SiloWord × State :=
  let t := s.siloFed n
  let q := t.silo n
  match q.words with
  | [] => (none, s)
  | w :: ws =>
    if 4 ≤ q.head then
      let t := t.setSilo n { q with words := ws, head := q.head - 4 }
      (some w, ((t.put (R.SILO_S_OUT_CNT_COUNT n) (s.get (R.SILO_S_OUT_CNT_COUNT n) + 4)).siloSettle n).siloShow n)
    else (none, s)

/-- Whether silo `n` is ganged into another silo that is OPEN (R270). -/
def State.siloGanged (s : State) (n : Nat) : Bool :=
  (List.range n).any (fun m => s.siloOpen m && decide (n ≤ m + s.get (R.SILO_S_CFG_GANG m)))

/-- The DRAM capacity in 64 KiB units (MEM.CFG.SIZE). -/
def State.dramUnits (s : State) : Nat := 8192 * 2 ^ min 4 (s.get R.MEM_CFG_SIZE)

/-- Whether two silos' middle regions overlap. -/
def State.midsOverlap (s : State) (n m : Nat) : Bool :=
  let a := s.get (R.SILO_S_MID_MID_BASE n)
  let b := s.get (R.SILO_S_MID_MID_BASE m)
  decide (a < b + s.get (R.SILO_S_MID_SIZE_SIZE m)) && decide (b < a + s.get (R.SILO_S_MID_SIZE_SIZE n))

/-- The result of an OPEN (Table 10.1). -/
def State.siloOpenResult (s : State) (n : Nat) : Nat :=
  let g := s.get (R.SILO_S_CFG_GANG n)
  let prod := s.get (R.SILO_S_CFG_PROD n)
  let cons := s.get (R.SILO_S_CFG_CONS n)
  let mid := s.flag (R.SILO_S_CFG_MID_EN n)
  if s.siloOpen n then 1
  else if 5 ≤ prod ∨ cons = 3 ∨ ((prod = 4 ∨ cons = 2) ∧ ¬ s.flag (R.SILO_S_CFG_PKT_MODE n)) then 2
  else if 63 < n + g ∨ (List.range g).any (fun i => s.siloOpen (n + 1 + i)) ∨ s.siloGanged n then 3
  else if mid ∧ s.get R.MEM_STATUS_STATE ≠ 2 then 4
  else if mid ∧ (s.get (R.SILO_S_MID_SIZE_SIZE n) = 0
      ∨ s.dramUnits < s.get (R.SILO_S_MID_MID_BASE n) + s.get (R.SILO_S_MID_SIZE_SIZE n)) then 5
  else if mid ∧ (List.range 64).any (fun m => m != n && s.siloOpen m && s.flag (R.SILO_S_CFG_MID_EN m) && s.midsOverlap n m) then 6
  else 0

/-- Whether any OPEN silo has a middle region (R272). -/
def State.anyMiddle (s : State) : Bool := (List.range 64).any (fun m => s.siloOpen m && s.flag (R.SILO_S_CFG_MID_EN m))

/-- Command OPEN (R271). -/
def State.siloCmdOpen (s : State) (n : Nat) : State :=
  let r := s.siloOpenResult n
  let s := s.put (R.SILO_S_STATUS_RESULT n) r
  if r = 0 then
    (((s.setSilo n {}).raise (R.SILO_S_STATUS_OPEN n)).put (R.SILO_S_SEQ_NEXT n) 0).siloShow n
  else s.raise (R.SILO_S_EVENT_REFUSED n)

/-- Whether channel `c` acts: enabled, its silo OPEN with the matching role, and the lowest-numbered such channel (R286). -/
def State.dmaReady (s : State) (c : Nat) : Bool :=
  let n := s.get (R.DMA_CFG_SILO c)
  s.flag (R.DMA_CFG_EN c) && s.siloOpen n
    && (if s.flag (R.DMA_CFG_DIR c) then s.get (R.SILO_S_CFG_PROD n) == 2 else s.get (R.SILO_S_CFG_CONS n) == 1)

def State.dmaServes (s : State) (c : Nat) : Bool :=
  s.dmaReady c && !(List.range c).any (fun b => s.dmaReady b && s.get (R.DMA_CFG_SILO b) == s.get (R.DMA_CFG_SILO c)
    && s.get (R.DMA_CFG_DIR b) == s.get (R.DMA_CFG_DIR c))

/-- Whether the channels are stalled: Bus Master Enable clear, or the function in D3hot (R46, R289). -/
def State.dmaStalled (s : State) : Bool := !s.flag R.SYS_PCIE_STATUS_BME || s.get R.SYS_PCIE_STATUS_DSTATE == 3

/-- SILO.DMA[c].STATUS as it reads (Table 10.8). A channel that is not enabled is not stalled (log entry 30). -/
def State.dmaStatus (s : State) (c : Nat) : Word :=
  let d := s.dma c
  BitVec.ofNat 32 (d.descs.length + 32 * d.done.length
    + (if !d.descs.isEmpty && !s.dmaServes c then 1024 else 0)
    + (if s.flag (R.DMA_CFG_EN c) && s.dmaStalled then 2048 else 0) + (if d.stopped then 4096 else 0))

/-- The running descriptor of a channel completes (R286 to R289). -/
def State.dmaComplete (s : State) (c : Nat) (atPktEnd trunc aborted : Bool) : State :=
  let d := s.dma c
  match d.descs with
  | [] => s
  | x :: t =>
    let w := BitVec.ofNat 32 (d.valid % 2 ^ 24 + 2 ^ 24 + (if atPktEnd then 2 ^ 25 else 0) + (if trunc then 2 ^ 26 else 0)
      + (if aborted then 2 ^ 27 else 0) + x.tag % 16 * 2 ^ 28)
    let s := s.setDma c { d with descs := t, done := (d.done ++ [w]), passed := 0, valid := 0, opened := false, truncated := false }
    if x.irq then s.raise (R.DMA_EVENT_DONE c) else s

/-- The channels whose current descriptor a close or an abort of silo `n` ends (R291, Table 10.8): those that serve it, or have begun a
descriptor with it. -/
def State.siloEndsDma (s : State) (n : Nat) : State :=
  let l := sel 8 (fun c => s.get (R.DMA_CFG_SILO c) == n
    && (s.dmaServes c || (s.dma c).opened || decide (0 < (s.dma c).passed)) && !(s.dma c).stopped)
  l.foldl (fun s c => s.dmaComplete c false false true) s

/-- No channel has a packet open in silo `n` any longer. -/
def State.dmaReleased (s : State) (n : Nat) : State :=
  { s with silos := { s.silos with
    dma := s.silos.dma.map (fun e => if e.2.holds = some n then (e.1, ({ e.2 with holds := none } : DmaCh)) else e) } }

/-- The contents, the open packet and the buffers go, and the silo is CLOSED (R271, R291). -/
def State.siloEmpty (s : State) (n : Nat) : State :=
  let s := (s.siloEndsDma n).dmaReleased n
  let s := (s.setSilo n {}).clr (R.SILO_S_STATUS_OPEN n)
  ((s.put (R.SILO_S_IN_CNT_COUNT n) 0).put (R.SILO_S_OUT_CNT_COUNT n) 0).siloShow n

/-- Command CLOSE (R271). -/
def State.siloCmdClose (s : State) (n : Nat) : State :=
  if s.siloOpen n then (s.siloEmpty n).put (R.SILO_S_STATUS_RESULT n) 0
  else (s.put (R.SILO_S_STATUS_RESULT n) 1).raise (R.SILO_S_EVENT_REFUSED n)

/-- An abort of class 4 (R291). -/
def State.siloAbort (s : State) (n : Nat) : State :=
  (((s.siloEmpty n).wr (R.SILO_S_SEQ n) 0).put (R.SILO_S_STATUS_LAST_TAG n) 4).put (R.SILO_S_STATUS_RESULT n) 0

/-- Whether the host window may act as the silo's producer; on an OPEN silo with another producer it sets ROLE_ERR (R282, R284). -/
def State.windowProducer (s : State) (n : Nat) (f : State → State) : State :=
  if !s.siloOpen n then s
  else if s.get (R.SILO_S_CFG_PROD n) = 1 then f s
  else s.raise (R.SILO_S_EVENT_ROLE_ERR n)

/-- A write of SILO.S[n].CTRL: its commands in the order of their bits. -/
def State.siloCtrlWrite (s : State) (n : Nat) (w : Word) : State :=
  if s.on .flowptp then
    let v := w.toNat
    let cmd := v % 4
    let s := if cmd = 1 then s.siloCmdOpen n else if cmd = 2 then s.siloCmdClose n else s
    let s := if bitOf v 2 && s.siloOpen n then s.siloFlush n else s
    let s := if bitOf v 3 then s.windowProducer n (fun s => (s.siloPktOpen n).2) else s
    if bitOf v 4 then s.windowProducer n (fun s => (s.siloPktClose n (s.rd (R.SILO_S_USER n))).2) else s
  else s

/-- A write of CFG, MID or MID_SIZE, ignored while the silo is OPEN (R271). -/
def State.siloCfgWrite (s : State) (n a : Nat) (w mask : Word) : State :=
  if s.on .flowptp then
    if s.siloOpen n then s.raise (R.SILO_S_EVENT_CFG_LOCK n) else s.wr a (w &&& mask)
  else s

/-- A write to a silo's window (Table 10.4, R284). -/
def State.siloWindowWrite (s : State) (n off : Nat) (w : Word) : State :=
  let k := if off < 0xC00 then 4 else if off = 0xC00 then 1 else if off = 0xC04 then 2 else if off = 0xC08 then 3 else 0
  if s.on .flowptp && decide (0 < k) then
    s.windowProducer n (fun s => (s.siloData n ((wordBytes w).take k) k).2)
  else s

/-- The head word, for a window read that takes none. A read that finds visible data but none in the head gives a word that the rules do
not state (log entry 289). -/
def State.siloHead (s : State) (n : Nat) : Word × State :=
  let t := s.siloFed n
  match (t.silo n).words with
  | w :: _ =>
    if 4 ≤ (t.silo n).head then (w.data, t.siloShow n)
    else
      let (k, s) := s.draw
      (Config.freeWord k, s)
  | [] => (0, (s.countSat (R.SILO_S_ERR_CNT_UNDER_CNT n)).raise (R.SILO_S_EVENT_UNDERRUN n))

/-- A window read acts only on a silo that is OPEN with the window as its consumer (R285). -/
def State.windowConsumer (s : State) (n : Nat) (f : State → Word × State) : Word × State :=
  if !s.on .flowptp || !s.siloOpen n then (0, s)
  else if s.get (R.SILO_S_CFG_CONS n) = 0 then f s
  else (0, s.raise (R.SILO_S_EVENT_ROLE_ERR n))

/-- A 32-bit read of a silo's window: the word and the state after it (Table 10.4, R285). -/
def State.siloWindowRead (s : State) (n off : Nat) : Word × State :=
  s.windowConsumer n (fun s =>
    if 0xC00 < off then (0, s)
    else if off = 0xC00 then s.siloHead n
    else
      match s.siloTake n with
      | (some w, s) => (w.data, s.put (R.SILO_S_STATUS_LAST_TAG n) w.tag)
      | (none, s) => s.siloHead n)

/-- A narrow read anywhere in a silo's window returns bytes of the head word and pops nothing (R285). -/
def State.siloWindowPeek (s : State) (n : Nat) : Word × State := s.windowConsumer n (fun s => s.siloHead n)

/-- DRAM traffic moves bytes from a silo's tail to its middle region and from there to its head (R270, R292). -/
def State.siloMiddle (s : State) (n inB outB : Nat) : State :=
  if s.siloSpills n then (s.siloShift n inB outB).siloShow n else s

/-- What a producer that waits on the tail can put in at once: bounded by FREE, the tail and, on the bypass, the head. -/
def State.siloStreamRoom (s : State) (n : Nat) : Nat :=
  let q := s.silo n
  min (s.siloFree n) ((if q.mid = 0 then s.siloSide n - q.head else 0) + s.siloTailFree n)

/-- A write of DESC submits a descriptor (R286). -/
def State.dmaSubmit (s : State) (c : Nat) (w : Word) : State :=
  if s.on .host then
    let v := w.toNat
    let d := s.dma c
    let fill := s.flag (R.DMA_CFG_DIR c)
    let x : DmaDesc :=
      { addr := s.get64 (R.DMA_ADDR_LO c) (R.DMA_ADDR_HI c), user := s.rd (R.DMA_USER c), len := v % 2 ^ 24,
        irq := bitOf v 24, pktStart := bitOf v 25, pktEnd := bitOf v 26, tag := bitsOf v 30 27 }
    let bad := decide (16 ≤ d.descs.length + d.done.length) || (x.len == 0 && !(fill && x.pktStart))
      || (!fill && (x.addr % 4 != 0 || x.len % 4 != 0))
    if bad then s.raise (R.DMA_EVENT_REFUSED c) else s.setDma c { d with descs := d.descs ++ [x] }
  else s

/-- A read of DONE returns and removes the oldest completion (R286). -/
def State.dmaDoneRead (s : State) (c : Nat) : Word × State :=
  match (s.dma c).done with
  | [] => (0, s)
  | w :: t => (w, s.setDma c { s.dma c with done := t })

/-- Whether a channel can move data now (R46, R47, R286). -/
def State.dmaMoves (s : State) (c : Nat) : Bool := s.on .host && s.dmaServes c && !s.dmaStalled && !(s.dma c).stopped

/-- One word of a drain (R287): it is written to host memory, and the descriptor completes where the rule says. -/
def State.dmaDrainWord (s : State) (c : Nat) : State :=
  if s.dmaMoves c && !s.flag (R.DMA_CFG_DIR c) then
    let n := s.get (R.DMA_CFG_SILO c)
    match (s.dma c).descs with
    | [] => s
    | x :: _ =>
      match s.siloTake n with
      | (none, s) => s
      | (some w, s) =>
        let d := s.dma c
        let s := s.emit (.dmaWrite (x.addr + d.passed) w.data)
        let s := s.setDma c { d with passed := d.passed + 4, valid := d.valid + w.tag }
        let s := s.put (R.DMA_BYTES_COUNT c) (s.get (R.DMA_BYTES_COUNT c) + w.tag)
        let pktEnd := x.pktEnd && w.last
        let tagged := w.tag != 4 && !s.flag (R.SILO_S_CFG_PKT_MODE n)
        if decide (x.len ≤ d.passed + 4) || pktEnd || tagged then s.dmaComplete c w.last w.trunc false else s
  else s

/-- A drain burst of up to `k` words, and no larger than the maximum payload (R46, R287). -/
def State.dmaDrain (s : State) (c k : Nat) : State := forN (min k (s.host.mps / 4)) (fun _ s => s.dmaDrainWord c) s

/-- No further visible data for TIMEOUT µs after a drain descriptor's first word (R287). -/
def State.dmaTimeout (s : State) (c : Nat) : State :=
  if s.dmaMoves c && !s.flag (R.DMA_CFG_DIR c) && decide (0 < (s.dma c).passed) && s.get (R.DMA_CFG_TIMEOUT c) != 0
      && (s.silo (s.get (R.DMA_CFG_SILO c))).words.isEmpty then
    (s.dmaComplete c false false false).raise (R.DMA_EVENT_TIMEOUT c)
  else s

/-- The last byte of a fill descriptor has been read: it closes its packet and completes (R288). -/
def State.dmaFillEnd (s : State) (c : Nat) (x : DmaDesc) : State :=
  let n := s.get (R.DMA_CFG_SILO c)
  let tr := (s.dma c).truncated
  let s := if x.pktEnd then ((s.siloPktClose n x.user).2).dmaReleased n else s
  s.dmaComplete c x.pktEnd tr false

/-- The most bytes that one read of host memory asks for (R46). -/
def State.readMax (s : State) : Nat := min s.host.mrrs 512

/-- The packet that a PKT_START opens is open, or an open has been refused as an orphan (R277, R288). -/
def State.dmaFillOpen (s : State) (c : Nat) (x : DmaDesc) : State :=
  let n := s.get (R.DMA_CFG_SILO c)
  let r := if x.pktStart && !(s.dma c).opened then s.siloPktOpen n else (false, s)
  let s := r.2
  let d := s.dma c
  s.setDma c { d with opened := true, holds := if r.1 then some n else d.holds }

/-- The open packet of a fill is truncated (R281, R282, R288). -/
def State.dmaFillCut (s : State) (c n : Nat) : State :=
  let s := (s.siloRefuse n 1).setSilo n { s.silo n with pkt := Option.map (fun p => { p with trunc := true }) (s.silo n).pkt }
  (s.setDma c { s.dma c with truncated := true }).siloShow n

/-- Host bytes enter the silo in order as far as there is room, and, in a packet, up to 1,048,575 of them; those of a truncated packet are
discarded (R282, R288). The result says how many of them have been used. -/
def State.dmaFillStore (s : State) (c n : Nat) (data : List (BitVec 8)) : Nat × State :=
  let p := (s.silo n).pkt
  let pkt := s.flag (R.SILO_S_CFG_PKT_MODE n)
  if pkt ∧ p = none then (data.length, if data.isEmpty then s else s.siloOrphan n)
  else if (p.map (·.trunc)).getD false then (data.length, s.setDma c { s.dma c with truncated := true })
  else
    let most := if pkt then 1048575 - ((p.map (·.bytes.length)).getD 0) else data.length
    let chunk := data.take (min (s.siloStreamRoom n) most)
    let s := if chunk.isEmpty then s
      else
        let s := (s.siloData n chunk 0).2
        let s := s.setDma c { s.dma c with valid := (s.dma c).valid + chunk.length }
        s.put (R.DMA_BYTES_COUNT c) (s.get (R.DMA_BYTES_COUNT c) + chunk.length)
    let full := pkt ∧ (chunk.length = most ∨ ((s.silo n).words = [] ∧ s.siloFree n = 0))
    if chunk.length < data.length ∧ full then (data.length, s.dmaFillCut c n) else (chunk.length, s)

/-- A fill burst (R46, R288): one read of host memory, and what it brings. -/
def State.dmaFill (s : State) (c : Nat) (bytes : List (BitVec 8)) : State :=
  if s.dmaMoves c && s.flag (R.DMA_CFG_DIR c) then
    let n := s.get (R.DMA_CFG_SILO c)
    match (s.dma c).descs with
    | [] => s
    | x :: _ =>
      let wait := x.pktStart && !(s.dma c).opened && s.flag (R.SILO_S_CFG_PKT_MODE n) && (s.silo n).pkt.isNone
        && (decide (s.siloFree n < 8) || decide (s.siloTailFree n < 8))
      if wait then s
      else
        let s := s.dmaFillOpen c x
        let at_ := (s.dma c).passed
        let r := s.dmaFillStore c n (bytes.take (min (x.len - at_) s.readMax))
        let s := r.2.setDma c { r.2.dma c with passed := at_ + r.1 }
        let s := if r.1 = 0 then s
          else
            let (k, s) := s.draw
            s.emit (.dmaRead (x.addr + at_) r.1 (Config.freeNat k % 256))
        if x.len ≤ at_ + r.1 then s.dmaFillEnd c x else s
  else s

/-- A fill channel that is aborted or stops closes the packet it has open (R279). -/
def State.dmaStopFill (s : State) (c : Nat) : State :=
  match (s.dma c).holds with
  | some n => (s.siloStopProducer n).dmaReleased n
  | none => s

/-- A failed completion stops a channel (R47). -/
def State.dmaError (s : State) (c : Nat) : State :=
  if s.on .host && !(s.dma c).descs.isEmpty && !(s.dma c).stopped then
    let s := s.dmaStopFill c
    let s := s.setDma c { s.dma c with stopped := true }
    ((s.raise (R.SYS_DMA_ERR_CH.bit c)).raise R.SYS_EVENT_DMA_ERR).raise (R.DMA_EVENT_ERR c)
  else s

/-- An abort of class 7 (R289): descriptors and DONE FIFO go, CFG stays. -/
def State.dmaAbort (s : State) (c : Nat) : State := (s.dmaStopFill c).setDma c {}

/-- A silo is being aborted (R291). -/
def State.siloAborting (s : State) (n : Nat) : Bool :=
  match s.host.abort with
  | some x => x.cls == 4 && x.named.contains n
  | none => false

/-- Put a whole packet of the host frame path into a silo; false where there is no room (R138). A frame larger than the tail passes through
it to the head and the middle region; one that fits in FREE while the DRAM cannot take it is a backlog (R280, log entry 184). -/
def State.siloPutFrame (s : State) (n : Nat) (bs : List (BitVec 8)) : Bool × State :=
  let need := 8 + (bs.length + 3) / 4 * 4
  if !s.siloOpen n || s.siloAborting n || s.get (R.SILO_S_CFG_PROD n) != 4 || (s.silo n).pkt.isSome
      || decide (s.siloFree n < need) then (false, s)
  else if s.siloStreamRoom n < need ∧ s.siloSpills n = false then
    let s := (s.count (R.SILO_S_OVR_CNT_COUNT n)).raise (R.SILO_S_EVENT_OVERRUN n)
    (false, (s.countSat (R.SILO_S_SEQ_BACKLOG_CNT n)).raise (R.SILO_S_EVENT_BACKLOG n))
  else
    let s := if s.siloStreamRoom n < need then s.siloShift n (s.silo n).tail (s.silo n).mid else s
    let s := (s.siloPktOpen n).2
    let s := ((s.siloData n bs 0).2.siloPktClose n 0).2
    let s := if s.siloSide n < (s.silo n).tail then s.siloShift n ((s.silo n).tail - s.siloSide n) (s.silo n).mid else s
    (true, s.siloShow n)

/-- Take words up to the end of a packet. -/
def State.siloTakeWords (n : Nat) : Nat → State → List SiloWord → List SiloWord × State
  | 0, s, acc => (acc.reverse, s)
  | k + 1, s, acc =>
    match s.siloTake n with
    | (none, s) => (acc.reverse, s)
    | (some w, s) => if w.last then ((w :: acc).reverse, s) else State.siloTakeWords n k s (w :: acc)

/-- Take the whole packet at the head of a silo that feeds the host frame path (R138): its header and its payload. -/
def State.siloTakeFrame (s : State) (n : Nat) : Option (List (BitVec 8)) × State :=
  if s.siloOpen n && s.get (R.SILO_S_CFG_CONS n) == 2 && !(s.silo n).words.isEmpty then
    let r := State.siloTakeWords n (s.silo n).words.length s []
    match r.1 with
    | h :: _ :: t => (some (((t.map (fun w => wordBytes w.data)).flatten).take (bitsOf h.data.toNat 19 0)), r.2)
    | _ => (some [], r.2)
  else (none, s)

/-- With AUTOFLUSH set, a partial word is flushed at every engine frame boundary (R276). -/
def State.siloBoundary (s : State) : State :=
  if s.on .flowptp then
    (s.silos.q.map (·.1)).foldl (fun s n => if s.siloOpen n && s.flag (R.SILO_S_CFG_AUTOFLUSH n) then s.siloFlush n else s) s
  else s

/-- SILO.EVT_SUM as it reads (Table 10.9): bit n of the 64 is set while silo n has an enabled event. -/
def State.siloEventSum (s : State) : Nat :=
  forN 64 (fun n acc => if (s.rd (R.SILO_S_EVENT n) &&& s.rd (R.SILO_S_EVENT_EN n)) = 0 then acc else acc + 2 ^ n) 0

def execSiloOpen (n : Fin 64) (w : BitVec 32) (s : State) : Result :=
  finish (s.hostPut (R.SILO_S_CTRL n) ((R.SILO_S_CTRL_CMD n).inWord w 1) (fun s => s.siloCtrlWrite n ((R.SILO_S_CTRL_CMD n).inWord w 1)))
def execSiloClose (n : Fin 64) (w : BitVec 32) (s : State) : Result :=
  finish (s.hostPut (R.SILO_S_CTRL n) ((R.SILO_S_CTRL_CMD n).inWord w 2) (fun s => s.siloCtrlWrite n ((R.SILO_S_CTRL_CMD n).inWord w 2)))
def execSiloFlush (n : Fin 64) (w : BitVec 32) (s : State) : Result :=
  finish (s.hostPut (R.SILO_S_CTRL n) ((R.SILO_S_CTRL_FLUSH n).inWord w 1) (fun s => s.siloCtrlWrite n ((R.SILO_S_CTRL_FLUSH n).inWord w 1)))
def execSiloPktOpen (n : Fin 64) (w : BitVec 32) (s : State) : Result :=
  finish (s.hostPut (R.SILO_S_CTRL n) ((R.SILO_S_CTRL_PKT_OPEN n).inWord w 1) (fun s => s.siloCtrlWrite n ((R.SILO_S_CTRL_PKT_OPEN n).inWord w 1)))
def execSiloPktClose (n : Fin 64) (w : BitVec 32) (s : State) : Result :=
  finish (s.hostPut (R.SILO_S_CTRL n) ((R.SILO_S_CTRL_PKT_CLOSE n).inWord w 1) (fun s => s.siloCtrlWrite n ((R.SILO_S_CTRL_PKT_CLOSE n).inWord w 1)))
def execSiloWindowWrite (n : Fin 64) (off : BitVec 12) (w : BitVec 32) (s : State) : Result :=
  finish (s.hostPut (0x900000 + 0x1000 * n + off.toNat / 4 * 4) w (fun s => s.siloWindowWrite n (off.toNat / 4 * 4) w))
def execSiloMiddleTransfer (n : Fin 64) (inB outB : Nat) (s : State) : Result := finish (s.siloMiddle n inB outB)
def execDmaDescSubmit (c : Fin 8) (w : BitVec 32) (s : State) : Result :=
  finish (s.hostPut (R.DMA_DESC c) w (fun s => s.dmaSubmit c w))
def execDmaDrainBurst (c : Fin 8) (words : Nat) (s : State) : Result := finish (s.dmaDrain c words)
def execDmaDrainTimeout (c : Fin 8) (s : State) : Result := finish (s.dmaTimeout c)
def execDmaFillBurst (c : Fin 8) (bytes : List (BitVec 8)) (s : State) : Result := finish (s.dmaFill c bytes)
def execDmaCompletionError (c : Fin 8) (s : State) : Result := finish (s.dmaError c)

end Sys2Proof.Machine
end

