-- ==== Sys2Proof/Machine/Vetiver.lean ====
section
/-!
DEFINITION. Vetiver: reference slots, ranking and voting, hitless switching, the loop, steering from software, media time
and realignment (chapter 3).
-/
namespace Sys2Proof.Machine

/-- One ppm in the units of FW, 2^-40 (R77). -/
def ppm (n : Int) : Int := n * 2 ^ 40 / 1000000

/-- One second in the units of phase offsets, 2^-16 ns. -/
def ofsSecond : Nat := 65536 * 1000000000

def State.slot (s : State) (n : Nat) : VetSlot := look {} s.vet.slots n

def State.setSlot (s : State) (n : Nat) (v : VetSlot) : State :=
  { s with vet := { s.vet with slots := upd s.vet.slots n v } }

/-- VET.OFFSET, the active slot's absorbed offset, in 2^-16 ns (Table 3.13). -/
def State.vetOffset (s : State) : Int := sgn 64 (s.get64 R.VET_OFFSET_LO R.VET_OFFSET_HI)

def State.setVetOffset (s : State) (v : Int) : State := s.put64 R.VET_OFFSET_LO R.VET_OFFSET_HI (unsgn 64 v)

/-- The mode in force: code 3 acts as 0 (R97). -/
def State.loopMode (s : State) : Nat := let m := s.get R.VET_LOOP_CTRL_MODE; if m = 3 then 0 else m

/-- What a slew has moved after so many core samples, exactly: SLEW_RATE × 0.1 ppm, or 100 ppm for a step's remainder (R100). -/
def VetRealign.moved (r : VetRealign) (rate ticks : Nat) : Nat :=
  min r.remainder.natAbs (ticks * (if r.op = 2 then r.speed * 6553600 else 6553600000) / rate)

/-- What a running slew has still to move. -/
def State.slewRest (s : State) (r : VetRealign) : Nat := r.remainder.natAbs - r.moved s.rate r.ticks

/-- How far a running SLEW_REF holds FW from the loop's value: SLEW_RATE × 0.1 ppm in the direction that takes VET.OFFSET to 0,
until it is 0 (R100), at once, since FSLEW limits the closed loop's own word (R96; log entry 308). In OPEN mode FW equals HOST_WORD (R97). -/
def State.slewAdjust (s : State) : Int :=
  match s.vet.realign with
  | some r =>
    if r.op = 2 ∧ r.slewing ∧ s.slewRest r ≠ 0 ∧ s.loopMode ≠ 2 then
      let v : Int := r.speed * 2 ^ 40 / 10000000
      if r.remainder < 0 then -v else v
    else 0
  | none => 0

/-- The loop's word; the word now applied shows in FREQ_WORD (R77). -/
def State.setFw (s : State) (v : Int) : State :=
  ({ s with vet := { s.vet with fw := v } }).wr R.VET_FREQ_WORD (BitVec.ofInt 32 (v + s.slewAdjust))

/-- FW takes a word that the loop did not form; the loop and its integral go on from it (R89, R92). -/
def State.setWord (s : State) (v : Int) : State :=
  ({ s with vet := { s.vet with integ := v * 2 ^ 32, want := v, lastErr := none, part := 0 } }).setFw v

/-- The nominal rate of a RATE code (Table 3.16). -/
def refRate : Nat → Nat
  | 0 => 32000 | 1 => 48000 | 2 => 96000 | 3 => 192000 | _ => 0

/-- Whether a source code names a PTP port, a video reference, or another edge reference (Table 3.1). -/
def isPtpSrc (c : Nat) : Bool := c == 1 || c == 2
def isVideoSrc (c : Nat) : Bool := c == 4
def isMadiSrc (c : Nat) : Bool := c == 16 || c == 17
def isEdgeSrc (c : Nat) : Bool := c == 3 || (8 ≤ c && c ≤ 17)
def isKnownSrc (c : Nat) : Bool := isPtpSrc c || isVideoSrc c || isEdgeSrc c

def State.src (s : State) (n : Nat) : Nat := s.get (R.REF_CFG_SRC n)

/-- Whether a slot takes part in selection (R78). -/
def State.slotUsed (s : State) (n : Nat) : Bool := s.flag (R.REF_CFG_ENABLE n) && s.src n != 0

/-- Whether a slot reads CONFLICT: a reserved code, or a source that a lower-numbered enabled slot names (R78). -/
def State.slotConflict (s : State) (n : Nat) : Bool :=
  s.slotUsed n && (!isKnownSrc (s.src n) ||
    (sel n (fun m => s.slotUsed m && s.src m == s.src n)).length != 0)

/-- The rate code in use for a slot: its RATE, or under AUTO the rate last found (R80), 48 kHz before any (log entry 272). -/
def State.rateCode (s : State) (n : Nat) : Nat :=
  if s.get (R.REF_RATE_RATE n) = 7 then (s.slot n).rate else s.get (R.REF_RATE_RATE n)

/-- Whether a rate code is permitted for a source (Table 3.2). -/
def ratePermitted (src code : Nat) : Bool := if isMadiSrc src then code == 1 || code == 2 else code ≤ 3

/-- Whether the slot's settings name no permitted rate (Table 3.16). -/
def State.badRate (s : State) (n : Nat) : Bool :=
  if isVideoSrc (s.src n) then
    s.get (R.REF_RATE_LINES n) == 0 || s.get (R.REF_PERIOD_NUM n) == 0 || s.get (R.REF_PERIOD_DEN n) == 0
  else if isEdgeSrc (s.src n) then !ratePermitted (s.src n) (s.rateCode n)
  else false

/-- The wrap period of an edge reference as a fraction, in 2^-16 ns (Table 3.2). -/
def State.wrapPeriod (s : State) (n : Nat) : Nat × Nat :=
  if isVideoSrc (s.src n) then (ofsSecond * s.get (R.REF_PERIOD_NUM n), s.get (R.REF_PERIOD_DEN n))
  else (ofsSecond, refRate (s.rateCode n))

/-- The period between an edge reference's events, as a fraction: the wrap period, or for video one line. -/
def State.eventPeriod (s : State) (n : Nat) : Nat × Nat :=
  let p := s.wrapPeriod n
  if isVideoSrc (s.src n) then (p.1, p.2 * s.get (R.REF_RATE_LINES n)) else p

/-- An offset wrapped into [-P/2, +P/2) for a period P = p.1 / p.2 (R79). -/
def wrapOfs (p : Nat × Nat) (x : Int) : Int :=
  if p.1 = 0 ∨ p.2 = 0 then x
  else
    let y := (x * p.2) % (p.1 : Int)
    (if 2 * y ≥ p.1 then y - p.1 else y) / (p.2 : Int)

/-- An offset wrapped as the slot's source asks: edge references wrap, PTP offsets do not (R79). -/
def State.wrapFor (s : State) (n : Nat) (x : Int) : Int :=
  if isPtpSrc (s.src n) then x else wrapOfs (s.wrapPeriod n) x

/-- What Vetiver sees of the PTP port that a slot names. -/
def State.ptpOf (s : State) (n : Nat) : VetPtp := look {} s.vet.ptp (s.src n - 1)

/-- The comparison rate f_upd of a slot as a fraction per second (Table 3.2); for PTP the rate that the port's Syncs announce,
1/s to 128/s. -/
def State.fUpd (s : State) (n : Nat) : Nat × Nat :=
  let c := s.src n
  if isPtpSrc c then
    (2 ^ (min 7 (-(s.ptpOf n).sync).toNat), 1)
  else if isVideoSrc c then
    let lines := s.get (R.REF_RATE_LINES n) * s.get (R.REF_PERIOD_DEN n)
    let num := s.get (R.REF_PERIOD_NUM n)
    if lines > 16000 * num then (16000, 1) else (lines, num)
  else (min (refRate (s.rateCode n)) 16000, 1)

/-- The bandwidth of a code in mHz; codes 19 to 31 act as 18 (Table 3.6). -/
def bwMilliHz (c : Nat) : Nat :=
  look 1000000 [(0, 1), (1, 2), (2, 5), (3, 10), (4, 20), (5, 50), (6, 100), (7, 200), (8, 500), (9, 1000), (10, 2000),
    (11, 5000), (12, 10000), (13, 20000), (14, 50000), (15, 100000), (16, 200000), (17, 500000), (18, 1000000)] c

/-- The largest code not above `c` whose bandwidth does not exceed f_upd/16 (R94); code 0 where none does. -/
def capCode (f : Nat × Nat) : Nat → Nat
  | 0 => 0
  | c + 1 => if bwMilliHz (c + 1) * 16 * f.2 ≤ 1000 * f.1 then c + 1 else capCode f c

/-- The effective code of a selected bandwidth for slot `n` (R94). -/
def State.effCode (s : State) (n sel : Nat) : Nat := capCode (s.fUpd n) (min sel 18)

/-- The holdover window at a bandwidth code in units of 1/96,000 s (R87): 4 τ = 4/(2π × bandwidth), at least 1 s and at most
1,000 s, with π to 16 digits and the fraction of a unit dropped. -/
def holdWindow (c : Nat) : Nat := min 96000000 (max 96000 (192 * 10 ^ 21 / (3141592653589793 * bwMilliHz c)))

/-- Quality from a PTP clockClass (Table 3.3); none where the class does not qualify. -/
def classQuality (c : Nat) : Option Nat :=
  if c = 0 ∨ c = 255 then none
  else if c = 6 then some 1
  else if c = 7 then some 2
  else if c = 13 then some 3
  else if c = 14 then some 4
  else if c = 52 ∨ c = 58 ∨ c = 187 ∨ c = 193 then some 6
  else if c ≤ 127 then some 7
  else if c = 248 then some 8
  else some 9

/-- Set a slot's QSTATE, with its bit in STATUS.QUALIFIED (Tables 3.14 and 3.16). -/
def State.setQ (s : State) (n q : Nat) : State :=
  (s.put (R.REF_STATUS_QSTATE n) q).put (R.VET_STATUS_QUALIFIED.bit n) (toBit (q == 3))

def State.q (s : State) (n : Nat) : Nat := s.get (R.REF_STATUS_QSTATE n)

/-- The quality in use shows in QL_EFF (R81). -/
def State.setQl (s : State) (n : Nat) : State :=
  let ql := if isPtpSrc (s.src n) && s.flag (R.REF_CFG_QL_MODE n) then
      (classQuality (s.get (R.REF_STATUS_CLASS n))).getD 15 else s.get (R.REF_CFG_QL n)
  s.put (R.REF_STATUS_QL_EFF n) ql

/-- Change VET.STATUS.STATE; every change sets EVENT.STATE and is logged (R86, Table 16.4). -/
def State.setVetState (s : State) (v : Nat) : State :=
  if s.get R.VET_STATUS_STATE = v then s
  else
    let s := (s.put R.VET_STATUS_STATE v).raise R.VET_EVENT_STATE
    s.log 0x23 0 (s.rd R.VET_STATUS).toNat (s.get R.VET_STATUS_ACTIVE)

def State.vetState (s : State) : Nat := s.get R.VET_STATUS_STATE

/-- The steering slot, if one is active (Table 3.14). -/
def State.activeSlot (s : State) : Option Nat :=
  if s.flag R.VET_STATUS_ACTIVE_VALID then some (s.get R.VET_STATUS_ACTIVE) else none

/-- The rank of a slot: quality, then priority; lower is better (R83). -/
def State.rankOf (s : State) (n : Nat) : Nat := s.get (R.REF_STATUS_QL_EFF n) * 16 + s.get (R.REF_CFG_PRIO n)

/-- Slot `a` is preferred to slot `b`: better rank, else the active slot, else the lower number (R83). -/
def State.prefers (s : State) (a b : Nat) : Bool :=
  s.rankOf a < s.rankOf b || (s.rankOf a == s.rankOf b &&
    (s.activeSlot == some a || (s.activeSlot != some b && a < b)))

/-- The best-ranked qualified slot that is not voted out and has a QL below 15 (R83). -/
def State.bestSlot (s : State) : Option Nat :=
  (sel 8 (fun n => s.q n == 3 && s.get (R.REF_STATUS_QL_EFF n) != 15)).foldl
    (fun b n => match b with
      | none => some n
      | some m => if s.prefers n m then some n else some m) none

/-- The slot that is selectable now, under the mode and the wait-to-restore rule (R86, R91, R97).
`noWait` lifts the wait, as leaving FORCED does. -/
def State.selectable (s : State) (noWait : Bool) : Option Nat :=
  if s.vet.suspended then none
  else if s.loopMode = 2 then none
  else if s.loopMode = 1 then
    let n := s.get R.VET_LOOP_CTRL_FORCE_SLOT
    if s.q n = 3 ∧ s.activeSlot ≠ some n then some n else none
  else
    match s.bestSlot, s.activeSlot with
    | none, _ => none
    | some b, none => some b
    | some b, some a =>
      if a = b then none
      else if s.rankOf b < s.rankOf a then
        let wtr := s.get R.VET_CTRL_WTR
        if noWait || wtr == 0 || (wtr != 255 && (s.slot b).wtrDone && s.vet.settled) then some b else none
      else none

/-- End a realignment with a result and its event (R101). -/
def State.endRealign (s : State) (result : Nat) : State :=
  let s := ({ s with vet := { s.vet with realign := none } }).setFw s.vet.fw
  ((s.put R.VET_REALIGN_STATUS_RESULT result).clr R.VET_REALIGN_STATUS_BUSY).raise R.VET_EVENT_REALIGN_DONE

/-- A slew in progress is cancelled by a commit, a resume or the loss of the active slot (R101). -/
def State.cancelSlew (s : State) : State :=
  match s.vet.realign with
  | some r => if r.op = 2 ∧ r.slewing then s.endRealign 3 else s
  | none => s

/-- A deferred realignment goes on once no switch runs: applied to the slot then active, or ended with NO_REF (R101). -/
def State.resumeRealign (s : State) : State :=
  match s.vet.realign with
  | some r =>
    if r.deferred ∧ s.vet.switch = none then
      if s.activeSlot = none then s.endRealign 2
      else { s with vet := { s.vet with realign := some { r with deferred := false, due := !r.timed } } }
    else s
  | none => s

/-- Begin the measure phase of a switch (R89). -/
def State.beginSwitch (s : State) (n : Nat) : State :=
  let s := { s with vet := { s.vet with switch := some { target := n } } }
  (s.raise R.VET_STATUS_SWITCHING).put R.VET_STATUS_TARGET n

/-- The switch in progress ends (R89, R90). -/
def State.endSwitch (s : State) : State :=
  ({ s with vet := { s.vet with switch := none } }).clr R.VET_STATUS_SWITCHING

/-- Set the effective bandwidth for slot `n` from a selected code, with BW_CAPPED (R94). -/
def State.setBw (s : State) (n sel : Nat) : State :=
  let c := s.effCode n sel
  (s.put R.VET_STATUS_EFF_BW c).put R.VET_STATUS_BW_CAPPED (toBit (c < min sel 18))

/-- A write of BW takes effect for the steering slot `n` (R95): during gearing a narrower BW becomes its end, anything else applies
at once and ends it. -/
def State.bwApply (s : State) (n : Nat) : State :=
  let s := { s with vet := { s.vet with bwDue := false } }
  if s.flag R.VET_STATUS_GEARING ∧ s.effCode n (s.get R.VET_CTRL_BW) < s.get R.VET_STATUS_EFF_BW then s
  else (s.setBw n (s.get R.VET_CTRL_BW)).clr R.VET_STATUS_GEARING

/-- LOCKED is entered or kept by a commit or a resume: the effective bandwidth stays, but for the new slot's cap, and a BW written
while no slot steered applies now (R94, R95). -/
def State.keepBw (s : State) (n : Nat) : State :=
  let sel := s.get R.VET_CTRL_BW
  let old := s.get R.VET_STATUS_EFF_BW
  let s := s.put R.VET_STATUS_EFF_BW (s.effCode n old)
  let s := s.put R.VET_STATUS_BW_CAPPED (toBit (s.effCode n sel < min sel 18 || s.effCode n old < old))
  if s.vet.bwDue then s.bwApply n else s

/-- A slot becomes active: by a commit, or by a resume (R89, R90). -/
def State.activate (s : State) (n : Nat) : State :=
  let s := ((s.raise R.VET_STATUS_ACTIVE_VALID).put R.VET_STATUS_ACTIVE n).raise R.VET_EVENT_COMMIT
  let s := { s with vet := { s.vet with settled := false, former := none, lastErr := none } }
  (s.clr R.VET_HOLD_REMAIN_REMAIN).cancelSlew

/-- Resume on the former active slot without a measure phase (R90): its stored offset is kept, and the first valid
comparison takes the phase gained or lost into VET.OFFSET. -/
def State.resumeFormer (s : State) (n : Nat) : State :=
  let s := (s.setVetOffset s.vet.formerOfs).activate n
  let s := { s with vet := { s.vet with absorb := true } }
  ((s.keepBw n).setVetState 2).resumeRealign

/-- What is left of a history once its newest `n` units are taken away. -/
def histDrop : Nat → List (Option Int × Nat) → List (Option Int × Nat)
  | _, [] => []
  | n, (w, k) :: t => if k ≤ n then histDrop (n - k) t else (w, k - n) :: t

/-- The sum of a history's words over its newest `n` units of steering, and the units there are. -/
def histSum : Nat → List (Option Int × Nat) → Int × Nat
  | _, [] => (0, 0)
  | n, (none, _) :: t => histSum n t
  | n, (some w, k) :: t => let m := min k n; let r := histSum (n - m) t; (w * m + r.1, m + r.2)

/-- One core sample goes into the history: the word of closed-loop steering, or a gap (R87). -/
def State.addHist (s : State) (w : Option Int) : State :=
  let u := 96000 / s.rate
  match s.vet.hist with
  | (v, k) :: t => { s with vet := { s.vet with hist := if v = w then (v, k + u) :: t else (w, u) :: (v, k) :: t } }
  | [] => if w.isSome then { s with vet := { s.vet with hist := [(w, u)] } } else s

/-- FW becomes the average of the closed-loop word over the window that ends 1 s before the loss, or over all there is (R87). -/
def State.holdWord (s : State) : State :=
  let win := histSum (holdWindow (s.get R.VET_STATUS_EFF_BW)) (histDrop 96000 s.vet.hist)
  let used := if win.2 = 0 then histSum 96000 s.vet.hist else win
  let s := s.put R.VET_HOLD_REMAIN_HIST (min (win.2 / 96000) 0xFFFF)
  if used.2 = 0 then s.setWord s.vet.fw else s.setWord (used.1 / (used.2 : Int))

/-- Enter HOLDOVER: the word is held and the timer starts (R87). -/
def State.enterHoldover (s : State) : State :=
  let s := (s.holdWord.put R.VET_HOLD_REMAIN_REMAIN (s.get R.VET_HOLD_HOLD_TIME)).raise R.VET_EVENT_HOLDOVER
  (s.clr R.VET_STATUS_FSLEWING).setVetState 3

/-- FW starts to move to FREE_WORD in FREE_RUN and LOST (R88). -/
def State.towardFree (s : State) : State :=
  s.put R.VET_STATUS_FSLEWING (toBit (s.vet.fw != (s.rd R.VET_FREE_WORD).toInt && s.vet.switch.isNone))

/-- No slot is selectable: an acquisition whose slot is lost ends in FREE_RUN (Table 3.4). -/
def State.noneLeft (s : State) : State :=
  (if s.vetState = 1 ∧ s.activeSlot = none ∧ s.loopMode ≠ 2 ∧ ¬ s.vet.suspended then
    ((s.setWord s.vet.fw).setVetState 0).towardFree else s).resumeRealign

/-- VOTED_OUT ends where fewer than two other slots are qualified (R84). -/
def State.voteEnds (s : State) : State :=
  forN 8 (fun n s => if s.q n = 4 ∧ (sel 8 (fun m => m != n && s.q m == 3)).length < 2 then s.setQ n 2 else s) s

/-- Whether slot `n` waits under R91: qualified, better than the qualified active slot, and its wait not over. -/
def State.waits (s : State) (n : Nat) : Bool :=
  match s.activeSlot with
  | some a =>
    a != n && s.loopMode == 0 && s.q n == 3 && s.q a == 3 && decide (s.rankOf n < s.rankOf a)
      && s.get (R.REF_STATUS_QL_EFF n) != 15 && s.get R.VET_CTRL_WTR != 0 && !((s.slot n).wtrDone && s.vet.settled)
  | none => false

/-- WTR_RUN shows which slots wait (Table 3.16). -/
def State.wtrShow (s : State) : State :=
  forN 8 (fun n s =>
    if s.flag (R.REF_STATUS_WTR_RUN n) != s.waits n then s.put (R.REF_STATUS_WTR_RUN n) (toBit (s.waits n)) else s) s

/-- Take slot `n`: resume on the former active slot from HOLDOVER, or begin a switch (R89, R90). -/
def State.takeSlot (s : State) (n : Nat) : State :=
  if s.vetState = 3 ∧ s.vet.former = some n then s.resumeFormer n else s.beginSwitch n

/-- The switch in progress is cancelled (R90). -/
def State.cancelSwitch (s : State) : State := s.endSwitch.raise R.VET_EVENT_CANCEL

/-- The choice of slot: start, cancel or retarget a switch, or resume (R86, R90, Table 3.4). -/
def State.choose (s : State) (noWait : Bool) : State :=
  let next := s.selectable noWait
  match s.vet.switch with
  | none =>
    match next with
    | some n => s.takeSlot n
    | none => s.noneLeft
  | some sw =>
    if s.q sw.target ≠ 3 ∨ (s.loopMode = 1 ∧ sw.target ≠ s.get R.VET_LOOP_CTRL_FORCE_SLOT)
        ∨ (s.loopMode = 0 ∧ s.get (R.REF_STATUS_QL_EFF sw.target) = 15) then
      match next with
      | some n => s.cancelSwitch.takeSlot n
      | none => s.cancelSwitch.noneLeft
    else
      match s.activeSlot with
      | some a =>
        if s.loopMode = 0 ∧ s.q a = 3 ∧ s.rankOf a ≤ s.rankOf sw.target then s.cancelSwitch.resumeRealign
        else
          match next with
          | some n => if n ≠ sw.target ∧ s.rankOf n < s.rankOf sw.target then s.cancelSwitch.beginSwitch n else s
          | none => s
      | none =>
        match next with
        | some n =>
          if n ≠ sw.target ∧ (s.vet.former = some n ∨ s.rankOf n < s.rankOf sw.target) then s.cancelSwitch.takeSlot n else s
        | none => s

/-- Review the choice of slot after anything it depends on changed; nothing is chosen while Vetiver is suspended (R118). -/
def State.review (s : State) (noWait : Bool) : State :=
  if s.vet.suspended then s else ((s.voteEnds).choose noWait).wtrShow

/-- The active slot is lost (Table 3.4): hold over, or go on acquiring another, or run free. -/
def State.loseActive (s : State) (n : Nat) : State :=
  let s := { s with vet := { s.vet with
    former := some n, formerOfs := s.vetOffset, absorb := false, formers := s.vet.formers.filter (· != n) ++ [n] } }
  let s := s.setSlot n { s.slot n with absorbed := s.vetOffset }
  let s := ((s.clr R.VET_STATUS_ACTIVE_VALID).raise (R.REF_STATUS_FORMER n)).cancelSlew
  if s.vetState = 2 ∧ s.loopMode ≠ 2 then s.enterHoldover.review false else s.review false

/-- A slot leaves qualification with a QSTATE; it counts where it was qualified or voted out (R80, R82). -/
def State.dropSlot (s : State) (n q : Nat) : State :=
  let was := s.q n
  let s := (s.setQ n q).setSlot n { s.slot n with wtrDone := false }
  if was = 3 ∨ was = 4 then (s.countSat (R.REF_CNT_LOSS_CNT n)).raise R.VET_EVENT_DISQUAL else s

/-- After slots have dropped out: the loss of the active slot takes effect at once (R80). While ADPLL_0 coasts Vetiver keeps its
state, and the loss takes effect when the suspension ends (R118; log entry 275). -/
def State.afterDrops (s : State) : State :=
  if s.vet.suspended then s
  else
    match s.activeSlot with
    | some a => if s.q a ≠ 3 then s.loseActive a else s.review false
    | none => s.review false

/-- Disqualify a slot with a QSTATE (R80, R82). -/
def State.disqualify (s : State) (n q : Nat) : State := (s.dropSlot n q).afterDrops

/-- A slot becomes QUALIFIED (R82). -/
def State.qualify (s : State) (n : Nat) : State := (s.setQ n 3).review false

/-- The QSTATE a slot starts from under its present settings (R78, Table 3.16). -/
def State.startQ (s : State) (n : Nat) : Nat :=
  if !s.slotUsed n then 0
  else if s.slotConflict n then 7
  else if s.badRate n then 5
  else if isPtpSrc (s.src n) && (s.ptpOf n).present && !(s.slot n).gone then
    (if s.flag (R.REF_CFG_QL_MODE n) && (classQuality (s.get (R.REF_STATUS_CLASS n))).isNone then 1 else 2)
  else 1

/-- Restart a slot from its settings, as a failure of its reference if it was qualified (R78). -/
def State.restartSlot (s : State) (n : Nat) : State :=
  let s := s.setSlot n { s.slot n with last := none, glitches := [], line := none, group := [], phase := 0 }
  let q := s.startQ n
  if s.q n = 3 ∨ s.q n = 4 then s.disqualify n q else (s.setQ n q).review false

/-- Slots other than `n` whose CONFLICT standing a change of slot `n` altered start over (R78). -/
def State.reconflict (s : State) (n : Nat) : State :=
  forN 8 (fun m s =>
    if m ≠ n ∧ (s.slotConflict m ≠ (s.q m == 7)) ∧ s.slotUsed m then s.restartSlot m else s) s

/-- A PTP slot whose quality has changed moves to or from ABSENT as its clockClass asks (Table 3.3). -/
def State.reclass (s : State) (n : Nat) : State :=
  if !isPtpSrc (s.src n) || s.q n == 0 || s.q n == 7 then s.review false
  else
    let q := s.startQ n
    if q = 1 ∧ s.q n ≠ 1 then s.disqualify n 1
    else if q = 2 ∧ s.q n = 1 then (s.setQ n 2).review false
    else s.review false

/-- The clockClass last seen at the port that a PTP slot names (R81). -/
def State.classShow (s : State) (n : Nat) : State :=
  if isPtpSrc (s.src n) then s.put (R.REF_STATUS_CLASS n) (s.ptpOf n).cls else s

/-- A write of a slot's CFG, RATE or PERIOD word (R78): SRC, RATE, PERIOD or ENABLE restart the slot, the rest re-ranks it. -/
def State.refWrite (s : State) (n k : Nat) (w : Word) : State :=
  let a := if k = 0 then R.REF_CFG n else if k = 1 then R.REF_RATE n else R.REF_PERIOD n
  let keep : Word := if k = 0 then 0x01FF1F1F else if k = 1 then 0x0FFF0007 else 0xFFFFFFFF
  let old := s.rd a
  let new := w &&& keep
  let s := s.wr a new
  let hard : Word := if k = 0 then 0x0100001F else 0xFFFFFFFF
  let s := if k = 0 ∧ (old ^^^ new) &&& 0x1F ≠ 0 then s.setSlot n { s.slot n with gone := false } else s
  if (old ^^^ new) &&& hard ≠ 0 then (((s.classShow n).setQl n).restartSlot n).reconflict n
  else (s.setQl n).reclass n

/-- Keep a phase error in PHASE_ERR: units of 2^-8 ns, saturating (Table 3.13). -/
def State.setPhaseErr (s : State) (e : Int) : State :=
  s.wr R.VET_PHASE_ERR (BitVec.ofInt 32 (if e / 256 > 2 ^ 31 - 1 then 2 ^ 31 - 1 else if e / 256 < -(2 ^ 31) then -(2 ^ 31) else e / 256))

/-- The natural frequency of the loop for a bandwidth code, in 10^-9 rad/s: a fixed part of 2π times the bandwidth, with π to 16 digits
(R93; log entry 20). -/
def loopOmega (c : Nat) : Nat := 6283185307179586 * bwMilliHz c * Config.loopRatio / 10 ^ 18

/-- One closed-loop step (R77, R93, R96): a second-order loop with a proportional and an integral path and a damping factor of 1,
so of gains 2 ω and ω² for the natural frequency ω of the bandwidth in use, held within ±200 ppm. It forms the word's change, so
that neither a commit nor a change of bandwidth steps FW (R92, R95). With a slew limit FW follows at each core sample. -/
def State.loopStep (s : State) (n : Nat) (err : Int) : State :=
  let ω : Int := loopOmega (s.get R.VET_STATUS_EFF_BW)
  let f := s.fUpd n
  let de := match s.vet.lastErr with
    | some e => s.wrapFor n (err - e)
    | none => 0
  let raw := s.vet.integ - (ω * de * 2 ^ 57 / 10 ^ 18 + ω * ω * err * 2 ^ 56 * f.2 / (10 ^ 27 * f.1 : Nat))
  let integ := clampI (ppm 200 * 2 ^ 32) raw
  let s := if integ ≠ raw then s.raise R.VET_EVENT_FREQ_CAP else s
  let s := { s with vet := { s.vet with integ, lastErr := some err, want := integ / 2 ^ 32 } }
  if s.get R.VET_HOLD_FSLEW = 0 then s.setFw s.vet.want else s

/-- The absorbed offset of a slot: VET.OFFSET while it steers, else the one it had when it last steered (R97; log entry 274). -/
def State.slotOffset (s : State) (n : Nat) : Int := if s.activeSlot = some n then s.vetOffset else (s.slot n).absorbed

/-- An offset of slot `n` at media time `t`, collected while it is the target of a switch in its measure phase (R89). -/
def State.vetCollect (s : State) (n : Nat) (t ofs : Int) : State :=
  let s := s.setSlot n { s.slot n with ofs }
  match s.vet.switch with
  | some sw =>
    if sw.target = n ∧ !sw.measured ∧ !s.vet.suspended then
      { s with vet := { s.vet with switch := some { sw with points := sw.points ++ [(t, ofs)] } } }
    else s
  | none => s

/-- A comparison of slot `n` (R79): it steers the loop while the slot is active, after it has taken a phase gained or lost into
VET.OFFSET (R90); in OPEN mode FORCE_SLOT's is reported against that slot's offset (R97). -/
def State.vetCompare (s : State) (n : Nat) (ofs : Int) : State :=
  if s.vet.suspended then s
  else if s.loopMode = 2 then
    (if n = s.get R.VET_LOOP_CTRL_FORCE_SLOT then s.setPhaseErr (s.wrapFor n (ofs - s.slotOffset n)) else s)
  else if s.activeSlot = some n then
    let s := if s.vet.absorb then ({ s with vet := { s.vet with absorb := false } }).setVetOffset ofs else s
    let err := s.wrapFor n (ofs - s.vetOffset)
    (s.setPhaseErr err).loopStep n err
  else s

/-- A measured offset that is a comparison of its own, as every PTP offset is (R79). -/
def State.vetSample (s : State) (n : Nat) (t ofs : Int) : State := (s.vetCollect n t ofs).vetCompare n ofs

/-- The mean of a group of offsets, which may lie on both sides of a wrap (R79). -/
def meanOfs (wrap : Int → Int) (g : List (Int × Int)) : Int :=
  match g with
  | [] => 0
  | (_, o) :: _ => wrap (o + (g.foldl (fun a e => a + wrap (e.2 - o)) 0) / (g.length : Int))

/-- A measured offset of an edge reference (R79): events are averaged in groups, which are as long as f_upd asks. -/
def State.vetEdge (s : State) (n : Nat) (t ofs : Int) : State :=
  let s := s.vetCollect n t ofs
  let v := s.slot n
  let p := s.eventPeriod n
  let f := s.fUpd n
  let g := (t, ofs) :: v.group
  let phase := v.phase + f.1 * p.1
  let whole := f.2 * p.2 * ofsSecond
  if phase < whole then s.setSlot n { v with group := g, phase }
  else (s.setSlot n { v with group := [], phase := phase - whole }).vetCompare n (meanOfs (s.wrapFor n) g)

/-- The line number of a video line pulse at `t`: 0 with the frame pulse, then counted on from the last line
numbered, over a missing pulse and past a glitch too (R79). -/
def VetSlot.nextLine (v : VetSlot) (p : Nat × Nat) (t : Nat) (vref : Bool) : Option Nat :=
  if vref then some 0
  else
    match v.line, v.last with
    | some k, some _ => some (k + max 1 ((2 * (t - v.lineAt) * p.2 + p.1) / (2 * p.1)))
    | _, _ => none

/-- The offset of an event at media time `t` (R79): of line `k` from that line's ideal time, of any other event from the nearest
whole multiple of the period. -/
def State.edgeOfs (s : State) (n t : Nat) : Int :=
  let p := s.eventPeriod n
  wrapOfs (s.wrapPeriod n) ((t : Int) - ((s.slot n).line.getD 0 * p.1 / p.2 : Nat))

/-- An edge of a reference at media time `t`, with a frame pulse of a video reference where `vref` (R79, R80): a glitch is counted
and left out; a good event is measured, of a video reference once its lines are numbered. -/
def State.refEdge (s : State) (n : Nat) (t : Nat) (vref : Bool) : State :=
  if !s.on .clk || !s.slotUsed n || isPtpSrc (s.src n) || s.vet.suspended || s.q n == 7 || s.badRate n then s
  else
    let q := s.q n
    let v := s.slot n
    let p := s.eventPeriod n
    let early := match v.last with
      | some l => decide (4 * (t - l) * p.2 < 3 * p.1)
      | none => false
    let aged := (v.glitches.map (· + 1)).filter (· < 64)
    if early then
      let s := (s.countSat (R.REF_CNT_GLITCH_CNT n)).raise R.VET_EVENT_GLITCH
      let s := s.setSlot n { v with last := some t, glitches := 0 :: aged }
      if aged.length ≥ 3 ∧ q ≠ 5 ∧ q ≠ 6 then s.disqualify n 6 else s
    else
      let line := if isVideoSrc (s.src n) then v.nextLine p t vref else none
      let s := s.setSlot n { v with last := some t, glitches := aged, line, lineAt := t }
      let s := if q = 1 then s.setQ n 2 else s
      if q = 5 ∨ (isVideoSrc (s.src n) ∧ line = none) then s else s.vetEdge n t (s.edgeOfs n t)

/-- A reference fails the conditions of Table 3.2 (R80). -/
def State.refLost (s : State) (n : Nat) : State :=
  if s.on .clk && s.slotUsed n && (s.q n == 2 || s.q n == 3 || s.q n == 4 || s.q n == 6 || (s.q n == 5 && !s.badRate n)) then
    (s.setSlot n { s.slot n with
      last := none, line := none, group := [], phase := 0, gone := isPtpSrc (s.src n), syncBack := false, respBack := false }).disqualify n 1
  else s

/-- A PTP slot lost by a condition of Table 3.2 is present again once Syncs and Delay_Resps both come and its port has a selected
best master (R81; log entry 277). -/
def State.ptpBack (s : State) (n : Nat) (sync resp : Bool) : State :=
  if s.slotUsed n && s.q n == 1 && (s.ptpOf n).present then
    let v := s.slot n
    let both := (v.syncBack || sync) && (v.respBack || resp)
    let s := s.setSlot n { v with syncBack := v.syncBack || sync, respBack := v.respBack || resp, gone := v.gone && !both }
    if both && s.startQ n == 2 && !s.vet.suspended then s.setQ n 2 else s
  else s

/-- The loss of a source that slots name (R79). -/
def State.srcLost (s : State) (c : Nat) : State := forN 8 (fun n s => if s.src n = c then s.refLost n else s) s

/-- A slot's rate has left its nominal rate (R80). -/
def State.refRateBad (s : State) (n : Nat) : State :=
  if s.on .clk && !s.vet.suspended && (s.q n == 1 || s.q n == 2 || s.q n == 3 || s.q n == 4 || s.q n == 6) then
    s.disqualify n 5 else s

/-- The measured rate has been `code` for 1 ms, which for video is that of the settings (R80): a slot in RATE_ERR returns to QUALIFYING
at its nominal rate. Under AUTO a slot at a new rate that is permitted goes to QUALIFYING at it, from RATE_ERR or as a disqualification
that passes over RATE_ERR. -/
def State.refRateGood (s : State) (n code : Nat) : State :=
  if s.on .clk && !s.vet.suspended && s.slotUsed n && s.get (R.REF_RATE_RATE n) == 7 && isEdgeSrc (s.src n) && s.q n != 5 then
    if ratePermitted (s.src n) code && code != (s.slot n).rate && (s.q n == 2 || s.q n == 3 || s.q n == 4 || s.q n == 6) then
      (s.setSlot n { s.slot n with rate := code, group := [], phase := 0 }).disqualify n 2
    else s
  else if s.on .clk && !s.vet.suspended && s.q n == 5 && s.slotUsed n then
    if isVideoSrc (s.src n) then (if s.badRate n then s else s.setQ n 2)
    else if s.get (R.REF_RATE_RATE n) = 7 then
      (if ratePermitted (s.src n) code then (s.setSlot n { s.slot n with rate := code }).setQ n 2 else s)
    else if code = s.get (R.REF_RATE_RATE n) ∧ !s.badRate n then s.setQ n 2
    else s
  else s

/-- A slot in GLITCH returns to QUALIFYING after 64 clean periods (R80). -/
def State.refGlitchDone (s : State) (n : Nat) : State :=
  if s.on .clk && !s.vet.suspended && s.q n == 6 then (s.setQ n 2).setSlot n { s.slot n with glitches := [] } else s

/-- A frequency lies within `lim` of a reference frequency. -/
def within (lim a b : Int) : Bool := decide (clampI lim (a - b) = a - b)

/-- VOTE_TOL in the units of FW: units of 0.05 ppm (Table 3.10). -/
def State.voteTol (s : State) : Int := s.get R.VET_CTRL_VOTE_TOL * 2 ^ 40 / 20000000

/-- A slot qualifies within ±100 ppm: it has met the conditions for QUAL_TIME, or, within 1 s of its loss as the active slot, its
frequency lies within VOTE_TOL of the holdover word (R82). Within that second only QUAL_TIME 0 can have been met. -/
def State.refQualified (s : State) (n : Nat) (freq : Int) : State :=
  if s.on .clk && s.q n == 2 && !s.vet.suspended then
    let ok := !s.flag (R.REF_STATUS_FORMER n) || s.get (R.REF_CFG_QUAL_TIME n) == 0 || within s.voteTol freq s.vet.fw
    if ok && within (ppm 100) freq 0 then (s.wr (R.REF_FREQ n) (BitVec.ofInt 32 freq)).qualify n else s
  else s

/-- Insert a frequency into a list in rising order. -/
def insertI : List Int → Int → List Int
  | [], x => [x]
  | y :: t, x => if x ≤ y then x :: y :: t else y :: insertI t x

/-- The middle of a list of frequencies; the mean of the middle two where their count is even, rounded down (R84; log entry 306). -/
def median (l : List Int) : Int :=
  let a := l.foldl insertI []
  let n := a.length
  if n % 2 = 1 then a.getD (n / 2) 0 else (a.getD (n / 2 - 1) 0 + a.getD (n / 2) 0) / 2

def State.freqOf (s : State) (n : Nat) : Int := (s.rd (R.REF_FREQ n)).toInt

/-- The slots that take part in the vote: qualified ones. A forced slot is exempt, and is left out of the count and of the median
(R84, R97; log entry 273). -/
def State.voters (s : State) : List Nat :=
  sel 8 (fun n => s.q n == 3 && !(s.loopMode == 1 && s.get R.VET_LOOP_CTRL_FORCE_SLOT == n))

/-- Evaluate the condition of R85: exactly two slots take part and differ by more than VOTE_TOL. -/
def State.disagree (s : State) : State :=
  let l := sel 8 (fun n => s.q n == 3)
  let d : Bool := match l with
    | [a, b] => s.get R.VET_CTRL_VOTE_TOL != 0 && !within s.voteTol (s.freqOf a) (s.freqOf b)
    | _ => false
  let s := if d && !s.flag R.VET_STATUS_DISAGREE then s.raise R.VET_EVENT_DISAGREE else s
  s.put R.VET_STATUS_DISAGREE (toBit d)

/-- The slots that the vote puts out: those more than VOTE_TOL from the median of three or more (R84). -/
def State.outliers (s : State) : List Nat :=
  let l := s.voters
  let m := median (l.map s.freqOf)
  if s.get R.VET_CTRL_VOTE_TOL ≠ 0 ∧ 3 ≤ l.length then l.filter (fun n => !within s.voteTol (s.freqOf n) m) else []

/-- VOTE_TOL 0 disables voting: every slot voted out returns to QUALIFYING and DISAGREE clears (R84). -/
def State.voteOff (s : State) : State :=
  (forN 8 (fun n s => if s.q n = 4 then s.setQ n 2 else s) s).clr R.VET_STATUS_DISAGREE

/-- The qualified slots whose frequency over the last second lies beyond ±100 ppm (R82). -/
def State.strays (s : State) : List Nat := sel 8 (fun n => s.q n == 3 && !within (ppm 100) (s.freqOf n) 0)

/-- Vote once over the frequencies in FREQ (R82, R84, R85): strays and outliers drop out together, and then the choice of slot is
reviewed once. -/
def State.vote (s : State) : State :=
  let s := s.strays.foldl (fun s n => s.dropSlot n 2) s
  let s := s.outliers.foldl (fun s n => (s.dropSlot n 4).raise R.VET_EVENT_VOTED_OUT) s
  let s := if s.get R.VET_CTRL_VOTE_TOL = 0 then s.voteOff else s.disagree
  s.afterDrops

/-- FW moves one core sample's worth towards a word at no more than `f` × 0.01 ppm/s, exactly (R88, R96). -/
def State.moveFw (s : State) (goal : Int) (f : Nat) : State :=
  if s.vet.fw = goal then
    ({ s with vet := { s.vet with part := 0 } }).clr R.VET_STATUS_FSLEWING
  else
    let part := s.vet.part + f * 2 ^ 40
    let unit := 100000000 * s.rate
    let fw := s.vet.fw + clampI (part / unit : Nat) (goal - s.vet.fw)
    (({ s with vet := { s.vet with part := part % unit } }).setFw fw).put R.VET_STATUS_FSLEWING (toBit (fw != goal))

/-- FW at a core sample: in FREE_RUN and LOST it moves to FREE_WORD at 0.1 ppm/s, or at FSLEW if that is lower, and it is held
while a switch measures (R88, R89); in closed loop it moves to the loop's word, within FSLEW, and goes into the history
(R87, R96). In OPEN mode, in HOLDOVER and while comparisons are suspended it stays. What is no steering is a gap in the history. -/
def State.fwTick (s : State) : State :=
  let f := s.get R.VET_HOLD_FSLEW
  if s.vet.suspended ∨ s.loopMode = 2 then s.addHist none
  else if s.vetState = 0 ∨ s.vetState = 4 then
    let s := s.addHist none
    if s.vet.switch.isSome then s.clr R.VET_STATUS_FSLEWING
    else
      let s := s.moveFw (s.rd R.VET_FREE_WORD).toInt (if f ≠ 0 ∧ f < 10 then f else 10)
      { s with vet := { s.vet with integ := s.vet.fw * 2 ^ 32, want := s.vet.fw, lastErr := none } }
  else if s.activeSlot.isSome then
    let s := if f = 0 then (s.setFw s.vet.want).clr R.VET_STATUS_FSLEWING else s.moveFw s.vet.want f
    s.addHist (some s.vet.fw)
  else s.addHist none

/-- VET.OFFSET of the active slot moves; for an edge reference it is wrapped (R79, R100). With no active slot none is kept. -/
def State.moveOffset (s : State) (d : Int) : State :=
  match s.activeSlot with
  | some n => s.setVetOffset (s.wrapFor n (s.vetOffset + d))
  | none => s

/-- A slew at a core sample: VET.OFFSET moves with it (R100). SLEW_REF has no effect on FW, and so makes no way, in OPEN mode
and while Vetiver is suspended (R97, R118; log entry 307). -/
def State.slewTick (s : State) : State :=
  match s.vet.realign with
  | some r =>
    if r.slewing ∧ s.slewRest r ≠ 0 ∧ ¬ (r.op = 2 ∧ (s.loopMode = 2 ∨ s.vet.suspended)) then
      let d : Int := r.moved s.rate (r.ticks + 1) - r.moved s.rate r.ticks
      let s := { s with vet := { s.vet with realign := some { r with ticks := r.ticks + 1 } } }
      (s.moveOffset (if r.remainder < 0 then -d else d)).setFw s.vet.fw
    else s
  | none => s

/-- Once per second (R82, R84): the frequencies are loaded, slots beyond ±100 ppm fall back, and the vote is taken. The same
second advances the holdover timer. -/
def State.voteTick (s : State) (freqs : List Int) : State :=
  if !s.on .clk || s.vet.suspended then s
  else
    let s := forN 8 (fun n s => s.wr (R.REF_FREQ n) (BitVec.ofInt 32 (freqs.getD n 0))) s
    let s := if s.vetState = 3 ∧ s.loopMode ≠ 2 ∧ s.get R.VET_HOLD_HOLD_TIME ≠ 0xFFFF then
        s.put R.VET_HOLD_REMAIN_REMAIN (s.get R.VET_HOLD_REMAIN_REMAIN - 1) else s
    s.vote

/-- A voted-out slot has stayed within VOTE_TOL/2 of the median for QUAL_TIME (R84). -/
def State.voteBack (s : State) (n : Nat) (freqs : List Int) : State :=
  if s.on .clk && s.q n == 4 && !s.vet.suspended then
    let others := sel 8 (fun m => m != n && s.q m == 3)
    let s := s.wr (R.REF_FREQ n) (BitVec.ofInt 32 (freqs.getD n 0))
    let m := median ((s.freqOf n) :: others.map s.freqOf)
    if 2 ≤ others.length then
      (if within (s.voteTol / 2) (s.freqOf n) m then (s.qualify n).disagree else s)
    else s.setQ n 2
  else s

/-- The least-squares line through the collected offsets, evaluated at media time `t` (R89). -/
def fitAt (p : List (Int × Int)) (wrap : Int → Int) (t : Int) : Int :=
  match p with
  | [] => 0
  | (t0, o0) :: _ =>
    let q := p.map (fun e => (e.1 - t0, wrap (e.2 - o0)))
    let n : Int := q.length
    let sx := q.foldl (fun a e => a + e.1) 0
    let sy := q.foldl (fun a e => a + e.2) 0
    let sxx := q.foldl (fun a e => a + e.1 * e.1) 0
    let sxy := q.foldl (fun a e => a + e.1 * e.2) 0
    let d := n * sxx - sx * sx
    if d = 0 then o0 + sy / n
    else o0 + (sy * d + (n * sxy - sx * sy) * (n * (t - t0) - sx)) / (n * d)

/-- The measure phase ends (R89). -/
def State.switchMeasured (s : State) : State :=
  match s.vet.switch with
  | some sw =>
    if s.on .clk && !s.vet.suspended then { s with vet := { s.vet with switch := some { sw with measured := true } } } else s
  | none => s

/-- The target becomes active at an engine frame boundary (R86, R89, R95). -/
def State.switchCommit (s : State) : State :=
  match s.vet.switch with
  | some sw =>
    if s.on .clk && sw.measured && !s.vet.suspended && s.atBoundary then
      let n := sw.target
      let t : Int := s.time.index * ofsSecond / s.rate
      let ofs := s.wrapFor n (fitAt sw.points (s.wrapFor n) t)
      let was := s.vetState
      let near := within (2 ^ 40 / 10000000) (s.freqOf n) s.vet.fw
      let s := match s.activeSlot with
        | some a => s.setSlot a { s.slot a with absorbed := s.vetOffset }
        | none => s
      let s := (s.endSwitch.setVetOffset ofs).activate n
      let s := if was = 2 ∨ (was = 3 ∧ near) then (s.keepBw n).setVetState 2
        else
          let s := { s with vet := { s.vet with bwDue := false } }
          let acq := s.effCode n (s.get R.VET_CTRL_ACQ_BW)
          let bw := s.effCode n (s.get R.VET_CTRL_BW)
          let s := if bw < acq then (s.setBw n (s.get R.VET_CTRL_ACQ_BW)).raise R.VET_STATUS_GEARING
            else (s.setBw n (s.get R.VET_CTRL_BW)).clr R.VET_STATUS_GEARING
          s.setVetState 1
      ((s.clr R.VET_STATUS_FSLEWING).resumeRealign).wtrShow
    else s
  | none => s

/-- A slot becomes selectable and the measure phase of a switch to it begins (R89). -/
def State.switchStart (s : State) (n : Nat) : State :=
  if s.on .clk && s.vet.switch.isNone && s.selectable false == some n then s.review false else s

/-- The wait-to-restore time of a better slot passes (R91). -/
def State.wtrDone (s : State) (n : Nat) : State :=
  if s.on .clk && s.q n == 3 && !s.vet.suspended then
    let s := s.setSlot n { s.slot n with wtrDone := true }
    let s := { s with vet := { s.vet with settled := true } }
    s.review false
  else s

/-- The lock threshold of a slot in the units of PHASE_ERR, 2^-8 ns (R95): 1 µs for PTP, 50 ns for edge references. -/
def State.lockLimit (s : State) (n : Nat) : Nat := if isPtpSrc (s.src n) then 256000 else 12800

/-- The phase error has stayed below the lock threshold for the lock time (R95). -/
def State.vetLocked (s : State) : State :=
  match s.activeSlot with
  | some n =>
    if s.on .clk && s.vetState == 1 && s.loopMode != 2 && !s.vet.suspended
        && decide ((s.rd R.VET_PHASE_ERR).toInt.natAbs < s.lockLimit n) then s.setVetState 2 else s
  | none => s

/-- Four τ have passed at the current bandwidth: step to the next narrower code, down to the effective BW (R95). -/
def State.gearStep (s : State) : State :=
  match s.activeSlot with
  | some n =>
    if s.on .clk && s.flag R.VET_STATUS_GEARING && s.loopMode != 2 && !s.vet.suspended then
      let goal := s.effCode n (s.get R.VET_CTRL_BW)
      let c := s.get R.VET_STATUS_EFF_BW - 1
      let s := s.put R.VET_STATUS_EFF_BW (max c goal)
      if c ≤ goal then (s.setBw n (s.get R.VET_CTRL_BW)).clr R.VET_STATUS_GEARING else s
    else s
  | none => s

/-- The holdover timer reaches HOLD_TIME (Table 3.4). -/
def State.holdoverDone (s : State) : State :=
  if s.on .clk && s.vetState == 3 && s.loopMode != 2 && !s.vet.suspended && s.get R.VET_HOLD_HOLD_TIME != 0xFFFF then
    let s := ((s.clr R.VET_HOLD_REMAIN_REMAIN).setVetState 4).raise R.VET_EVENT_LOST
    ({ s with vet := { s.vet with former := none } }).towardFree
  else s

/-- One second after its loss a former active slot loses its right to requalify at once (R82): the one that was lost first. -/
def State.formerDone (s : State) : State :=
  match s.vet.formers with
  | n :: t =>
    if s.on .clk && !s.vet.suspended then
      ({ s with vet := { s.vet with formers := t } }).clr (R.REF_STATUS_FORMER n)
    else s
  | [] => s

/-- A write of FREE_WORD (R88). -/
def State.freeWordWrite (s : State) (w : Word) : State :=
  if s.on .clk then
    let s := s.wr R.VET_FREE_WORD w
    if (s.vetState = 0 ∨ s.vetState = 4) ∧ s.loopMode ≠ 2 then s.towardFree else s
  else s

/-- A write of VET.CTRL (R95): BW applies at once outside gearing; within gearing a narrower BW becomes its end, a wider one
ends it; with no active slot, or in OPEN mode, it waits for the next that steers; ACQ_BW waits for the next acquisition. VOTE_TOL 0 ends every vote (R84). -/
def State.vetCtrlWrite (s : State) (w : Word) : State :=
  if s.on .clk then
    let s := s.wr R.VET_CTRL (w &&& 0xFFFF1F1F)
    let s := if s.get R.VET_CTRL_VOTE_TOL = 0 then s.voteOff else s
    let s := match s.activeSlot with
      | some n => if s.loopMode = 2 then { s with vet := { s.vet with bwDue := true } } else s.bwApply n
      | none => { s with vet := { s.vet with bwDue := true } }
    s.review false
  else s

/-- The vote does not apply to a forced slot (R97): one that was voted out counts as qualified again (log entry 276). -/
def State.exempt (s : State) : State :=
  let n := s.get R.VET_LOOP_CTRL_FORCE_SLOT
  if s.loopMode = 1 ∧ s.q n = 4 then s.setQ n 3 else s

/-- A guarded write of VET.LOOP_CTRL (R97). -/
def State.loopCtrlWrite (s : State) (w : Word) : State :=
  if s.on .clk then
    let was := s.loopMode
    let s := s.wr R.VET_LOOP_CTRL (w &&& 0x1F)
    let now := s.loopMode
    let s := (s.put R.VET_STATUS_OPEN (toBit (now == 2))).put R.VET_STATUS_FORCED (toBit (now == 1))
    if now = 2 then
      let s := if was ≠ 2 then (s.wr R.VET_HOST_WORD (s.rd R.VET_FREQ_WORD)).setWord (s.rd R.VET_FREQ_WORD).toInt else s
      let s := if s.vet.switch.isSome then s.cancelSwitch.resumeRealign else s
      (s.clr R.VET_STATUS_FSLEWING).wtrShow
    else if was = 2 then
      let st := s.vetState
      let s := match s.activeSlot with
        | some a => s.setSlot a { s.slot a with absorbed := s.vetOffset }
        | none => s
      let s := ({ s with vet := { s.vet with former := none, absorb := false } }).clr R.VET_STATUS_ACTIVE_VALID
      let s := s.cancelSlew.exempt
      let s := if st = 2 ∨ st = 3 then
          ((s.put R.VET_HOLD_REMAIN_REMAIN (s.get R.VET_HOLD_HOLD_TIME)).raise R.VET_EVENT_HOLDOVER).setVetState 3
        else if (s.selectable true).isSome then s
        else if st = 0 ∨ st = 1 then (s.setVetState 0).towardFree
        else s.towardFree
      s.review true
    else s.exempt.review (was == 1)
  else s

/-- A write of HOST_WORD (R97, R98): in OPEN mode FW follows it, unlimited; in other modes it is stored. -/
def State.hostWordWrite (s : State) (w : Word) : State :=
  if s.on .clk then
    let s := s.wr R.VET_HOST_WORD w
    if s.loopMode = 2 then s.setWord w.toInt else s
  else s

/-- The sample index named for a timed realignment (R102). -/
def State.realignAt (s : State) : Nat := s.get64 R.VET_REALIGN_AT_LO R.VET_REALIGN_AT_HI

/-- A guarded write of VET.REALIGN (R100 to R102): refused, deferred, made to wait for its index, or due at the next boundary. -/
def State.realignWrite (s : State) (w : Word) : State :=
  if s.on .clk then
    let op := bitsOf w.toNat 1 0
    let timed := bitOf w.toNat 2
    let busy := s.flag R.VET_REALIGN_STATUS_BUSY
    let s := s.wr R.VET_REALIGN (w &&& 0xFF07)
    if op = 0 then s
    else if busy then s.put R.VET_REALIGN_STATUS_RESULT 4
    else if op ≠ 2 ∧ s.anyRunning then s.put R.VET_REALIGN_STATUS_RESULT 1
    else
      let deferred := decide (op ≠ 3) && s.vet.switch.isSome
      if op ≠ 3 ∧ !deferred ∧ s.activeSlot = none then s.put R.VET_REALIGN_STATUS_RESULT 2
      else
        let late := timed && decide (s.realignAt < s.time.index)
        let r : VetRealign :=
          { op, timed := timed && !late, at_ := s.realignAt, deferred, due := !deferred && (!timed || late)
            speed := max 1 (s.get R.VET_REALIGN_SLEW_RATE) }
        let s := s.raise R.VET_REALIGN_STATUS_BUSY
        let s := if timed then s.put R.VET_REALIGN_STATUS_LATE (toBit late) else s
        { s with vet := { s.vet with realign := some r } }
  else s

/-- A timed realignment's index is reached: it becomes due at this boundary (R102). -/
def State.realignTimed (s : State) : State :=
  match s.vet.realign with
  | some r =>
    if s.on .clk && r.timed && !r.deferred && decide (r.at_ ≤ s.time.index) && s.atBoundary then
      { s with vet := { s.vet with realign := some { r with timed := false, due := true } } }
    else s
  | none => s

/-- A number of samples for an offset, rounded to nearest with ties away from zero (Table 3.8). -/
def wholeSamples (rate : Nat) (ofs : Int) : Int :=
  let x := 2 * ofs.natAbs * rate + ofsSecond
  let k : Int := (x / (2 * ofsSecond) : Nat)
  if ofs < 0 then -k else k

/-- PPS_OUT and FRAME_OUT as an engine frame begins, after any step that falls due there (R103): both rise only at such an index, and
a rise that falls within a pulse in progress is suppressed. -/
def State.pulsesRise (s : State) : State :=
  let x := s.time.index
  let s := if s.flag R.VET_PULSE_CFG_PPS_EN ∧ x % s.rate = 0 ∧ s.time.ppsLeft = 0 then
      { s.emit (.pulse 0 true) with time := { s.time with ppsLeft := max 1 (s.get R.VET_PULSE_CFG_PPS_WIDTH) * s.rate / 1000 } }
    else s
  if s.flag R.VET_PULSE_CFG_FRAME_EN && s.atBoundary && s.time.frameLeft == 0
      && x / 8 % (s.get R.VET_PULSE_CFG_FRAME_DIV + 1) == 0 then
    { s.emit (.pulse 1 true) with time := { s.time with frameLeft := 4 } }
  else s

/-- WCLK_OUT at a core sample (R103). At half the core rate each half-period is one sample, high from an even index: the half-period
in progress has just completed, and after a step none is cut. At the core rate the output falls halfway through the sample that
ends, and rises. -/
def State.wclkTick (s : State) : State :=
  if s.flag R.VET_PULSE_CFG_WCLK_EN then
    let half := s.flag R.VET_PULSE_CFG_WCLK_HALF
    let up := !half || s.time.index % 2 == 0
    let s := if !half && s.time.wclk then s.emit (.pulse 2 false) else s
    let edge := !half || up != s.time.wclk
    let s := { s with time := { s.time with wclk := up } }
    if edge then s.emit (.pulse 2 up) else s
  else s

/-- One core sample of the pulses in progress passes. -/
def State.pulsesTick (s : State) : State :=
  let s := if s.time.ppsLeft = 1 then s.emit (.pulse 0 false) else s
  let s := if s.time.frameLeft = 1 then s.emit (.pulse 1 false) else s
  { s with time := { s.time with ppsLeft := s.time.ppsLeft - 1, frameLeft := s.time.frameLeft - 1 } }

/-- A write of PULSE_CFG: a disabled output is driven low (R103). -/
def State.pulseCfgWrite (s : State) (w : Word) : State :=
  if s.on .clk then
    let s := s.wr R.VET_PULSE_CFG (w &&& 0xFFFF0FFF)
    let s := if s.flag R.VET_PULSE_CFG_PPS_EN ∨ s.time.ppsLeft = 0 then s
      else { s.emit (.pulse 0 false) with time := { s.time with ppsLeft := 0 } }
    let s := if s.flag R.VET_PULSE_CFG_FRAME_EN ∨ s.time.frameLeft = 0 then s
      else { s.emit (.pulse 1 false) with time := { s.time with frameLeft := 0 } }
    if s.flag R.VET_PULSE_CFG_WCLK_EN ∨ !s.time.wclk then s
    else { s.emit (.pulse 2 false) with time := { s.time with wclk := false } }
  else s

/-- Media time moves against the references by `d`, in 2^-16 ns (R100): the active slot's VET.OFFSET with it, and what a running
measure phase and the edge monitors hold of event times. -/
def State.shiftMedia (s : State) (d : Int) : State :=
  let s := s.moveOffset d
  let switch := s.vet.switch.map (fun sw => { sw with points := sw.points.map (fun e => (e.1 + d, e.2 + d)) })
  let slots := s.vet.slots.map (fun e => (e.1, { e.2 with
    last := e.2.last.map (fun l => ((l : Int) + d).toNat), lineAt := ((e.2.lineAt : Int) + d).toNat }))
  { s with vet := { s.vet with switch, slots } }

/-- Step the sample index by a signed number of samples; a grid broken by the step gives a short frame (R8, R100). -/
def State.stepIndex (s : State) (k : Int) : State :=
  let i := (((s.time.index : Int) + k) % (2 ^ 64 : Nat)).toNat
  { s with time := { s.time with index := i, shortFrame := decide (i % 8 ≠ 0) } }

/-- By how much a step is to move media time, in 2^-16 ns (Table 3.8). -/
def State.stepAmount (s : State) (op : Nat) : Int :=
  if op = 1 then -s.vetOffset
  else
    let sec := s.get64 R.VET_REALIGN_SEC_LO R.VET_REALIGN_SEC_HI
    let ns := min (s.get R.VET_REALIGN_NS_NS) 999999999
    ((sec * ofsSecond + ns * 65536 : Nat) : Int) - ((s.time.index * ofsSecond / s.rate : Nat) : Int)

/-- A due realignment is applied at an engine frame boundary (R100, R101): the whole-sample part of a step moves the index, unless
a unit runs, and its remainder is slewed; a slew begins. One that needs a slot waits while a switch runs, and ends without one. A
SLEW_REF, which would move FW, waits while Vetiver is suspended (R118; log entry 307). -/
def State.realignApply (s : State) : State :=
  match s.vet.realign with
  | some r =>
    if s.on .clk && r.due && !r.deferred && s.atBoundary && !s.time.begun && !(r.op == 2 && s.vet.suspended) then
      if r.op ≠ 2 ∧ s.anyRunning then s.endRealign 1
      else if r.op ≠ 3 ∧ s.vet.switch.isSome then
        { s with vet := { s.vet with realign := some { r with due := false, deferred := true } } }
      else if r.op ≠ 3 ∧ s.activeSlot = none then s.endRealign 2
      else if r.op = 2 then
        let r := { r with due := false, slewing := true, remainder := -s.vetOffset, ticks := 0 }
        ({ s with vet := { s.vet with realign := some r } }).setFw s.vet.fw
      else
        let d := s.stepAmount r.op
        let k := wholeSamples s.rate d
        let whole := k * ofsSecond / s.rate
        let s := (s.stepIndex k).shiftMedia whole
        { s with vet := { s.vet with realign := some { r with due := false, slewing := true, remainder := d - whole, ticks := 0 } } }
    else s
  | none => s

/-- An accepted realignment ends its slew (R101): what was left of it has been moved, and a reference's VET.OFFSET is 0. -/
def State.realignDone (s : State) : State :=
  match s.vet.realign with
  | some r =>
    if s.on .clk && r.slewing && !(r.op == 2 && s.vet.suspended) then
      let d : Int := s.slewRest r
      (s.moveOffset (if r.remainder < 0 then -d else d)).endRealign 0
    else s
  | none => s

/-- A write of 1 to VET.SNAP captures the sample index and media time (R104). -/
def State.snap (s : State) : State :=
  if s.on .clk then
    let sec := s.time.index / s.rate
    let ns := s.mediaNs % 1000000000
    ((s.put64 R.VET_SNAP_IDX_LO R.VET_SNAP_IDX_HI s.time.index).put64 R.VET_SNAP_SEC_LO R.VET_SNAP_SEC_HI (sec % 2 ^ 48)).put
      R.VET_SNAP_NS_NS ns
  else s

/-- ADPLL_0 enters COAST: comparisons stop, and a switch in its measure phase is cancelled to start again later (R118). -/
def State.vetSuspend (s : State) : State :=
  let s := match s.vet.switch with
    | some sw => if sw.measured then s else ({ s with vet := { s.vet with restart := some sw.target } }).cancelSwitch
    | none => s
  { s with vet := { s.vet with suspended := true } }

/-- ADPLL_0 is LOCKED again: Vetiver resumes on the active slot, absorbing the phase of the coast, unless that slot was lost
meanwhile, and a cancelled switch starts again if its target is still selectable (R118). The resume ends a SLEW_REF (R101). -/
def State.vetUnsuspend (s : State) : State :=
  if s.vet.suspended then
    let again := s.vet.restart
    let s := { s with vet := { s.vet with
      suspended := false, restart := none, lastErr := none, absorb := s.activeSlot.isSome || s.vet.switch.isSome } }
    let s := s.cancelSlew.afterDrops
    match again with
    | some n => if s.vet.switch = none ∧ s.selectable true = some n then s.beginSwitch n else s
    | none => s
  else s

def execRefSlotConfigWrite (n : Fin 8) (k : Fin 3) (w : BitVec 32) (s : State) : Result :=
  finish (s.hostPut (R.REF_CFG n + 4 * k) w (fun s => if s.on .clk then s.refWrite n k w else s))
def execRefEdgeEvent (n : Fin 8) (e : RefEdge) (s : State) : Result := finish (s.refEdge n e.t e.vref)
def execRefLoss (n : Fin 8) (s : State) : Result := finish (s.refLost n)
def execRefRateError (n : Fin 8) (s : State) : Result := finish (s.refRateBad n)
def execRefRateRecover (n : Fin 8) (rate : Fin 4) (s : State) : Result := finish (s.refRateGood n rate)
def execRefGlitchRecover (n : Fin 8) (s : State) : Result := finish (s.refGlitchDone n)
def execRefQualify (n : Fin 8) (freq : Int) (s : State) : Result := finish (s.refQualified n freq)
def execFormerWindowExpire (s : State) : Result := finish s.formerDone
def execVoteTick (freqs : List Int) (s : State) : Result := finish (s.voteTick freqs)
def execVoteRequalify (n : Fin 8) (freqs : List Int) (s : State) : Result := finish (s.voteBack n freqs)
def execSwitchStart (n : Fin 8) (s : State) : Result := finish (s.switchStart n)
def execSwitchMeasureEnd (s : State) : Result := finish s.switchMeasured
def execSwitchCommit (s : State) : Result := finish s.switchCommit
def execWtrExpire (n : Fin 8) (s : State) : Result := finish (s.wtrDone n)
def execVetLock (s : State) : Result := finish s.vetLocked
def execGearStep (s : State) : Result := finish s.gearStep
def execHoldoverExpire (s : State) : Result := finish s.holdoverDone
def execFreeWordWrite (w : BitVec 32) (s : State) : Result :=
  finish (s.hostPut (R.VET_FREE_WORD) w (fun s => s.freeWordWrite w))
def execVetCtrlWrite (w : BitVec 32) (s : State) : Result :=
  finish (s.hostPut (R.VET_CTRL) w (fun s => s.vetCtrlWrite w))

/-- The word of a LOOP_CTRL write with MODE set to `m`: the row names the mode. -/
def withMode (w : Word) (m : Nat) : Word := R.VET_LOOP_CTRL_MODE.inWord w m

def execLoopModeAuto (w : BitVec 32) (s : State) : Result :=
  finish (s.hostPut (R.VET_LOOP_CTRL) (withMode w 0) (fun s => s.loopCtrlWrite (withMode w 0)))
def execLoopModeForced (w : BitVec 32) (s : State) : Result :=
  finish (s.hostPut (R.VET_LOOP_CTRL) (withMode w 1) (fun s => s.loopCtrlWrite (withMode w 1)))
def execLoopModeOpen (w : BitVec 32) (s : State) : Result :=
  finish (s.hostPut (R.VET_LOOP_CTRL) (withMode w 2) (fun s => s.loopCtrlWrite (withMode w 2)))
def execHostWordWrite (w : BitVec 32) (s : State) : Result :=
  finish (s.hostPut (R.VET_HOST_WORD) w (fun s => s.hostWordWrite w))
def execRealignStepRef (w : BitVec 32) (s : State) : Result :=
  finish (s.hostPut (R.VET_REALIGN) (R.VET_REALIGN_OP.inWord w 1) (fun s => s.realignWrite (R.VET_REALIGN_OP.inWord w 1)))
def execRealignSlewRef (w : BitVec 32) (s : State) : Result :=
  finish (s.hostPut (R.VET_REALIGN) (R.VET_REALIGN_OP.inWord w 2) (fun s => s.realignWrite (R.VET_REALIGN_OP.inWord w 2)))
def execRealignStepValue (w : BitVec 32) (s : State) : Result :=
  finish (s.hostPut (R.VET_REALIGN) (R.VET_REALIGN_OP.inWord w 3) (fun s => s.realignWrite (R.VET_REALIGN_OP.inWord w 3)))
def execRealignTimedDue (s : State) : Result := finish s.realignTimed
def execRealignStepApply (s : State) : Result := finish s.realignApply
def execRealignComplete (s : State) : Result := finish s.realignDone
def execSnap (s : State) : Result := finish s.snap

end Sys2Proof.Machine
end

