-- ==== Sys2Proof/Machine/Net.lean ====
section
/-!
DEFINITION. Network ports: link, transmission by class, timestamps, the PTP clock, the host frame path's transmit side,
MDIO and IGMP (chapter 5). Received frames are classified in NetRx.lean.
-/
namespace Sys2Proof.Machine

def State.port (s : State) (x : Nat) : NetPort := if x = 0 then s.net.a else s.net.b

def State.setPort (s : State) (x : Nat) (p : NetPort) : State :=
  { s with net := if x = 0 then { s.net with a := p } else { s.net with b := p } }

/-- Whether port `x`'s domain is on. -/
def State.netOn (s : State) (x : Nat) : Bool := s.on (if x = 0 then .neta else .netb)

/-- Whether port `x`'s link is up (R132). -/
def State.linkIsUp (s : State) (x : Nat) : Bool := s.flag (R.NET_STATUS_LINK x)

/-- Add `k` to counter `c` of port `x`, modulo 2^32; a wrap sets its WRAP bit and CNT_WRAP (Table 5.14). -/
def State.netCount (s : State) (x c k : Nat) : State :=
  let v := s.get (R.NET_CNT_COUNT x c) + k
  let s := s.put (R.NET_CNT_COUNT x c) v
  if 2 ^ 32 ≤ v then (s.raise ((R.NET_CNT_WRAP_WRAP x).bit c)).raise (R.NET_EVENT_CNT_WRAP x) else s

/-- The port's own MAC address. -/
def State.macOf (s : State) (x : Nat) : Nat :=
  s.get (R.NET_MAC_HI_MAC_HI x) * 2 ^ 32 + s.get (R.NET_MAC_LO_MAC_LO x)

/-- The port's own IPv4 address; 0 while it has none (R136). -/
def State.ipOf (s : State) (x : Nat) : Nat := s.get (R.NET_IP_ADDR_ADDR x)

/-- The port's clockIdentity, and its portIdentity with portNumber 1. -/
def State.clockId (s : State) (x : Nat) : Nat :=
  s.get (R.NET_CLOCK_ID_HI_ID x) * 2 ^ 32 + s.get (R.NET_CLOCK_ID_LO_ID x)

def State.portId (s : State) (x : Nat) : Nat := s.clockId x * 65536 + 1

/-- The tag of a frame the device originates, by its class (R135). -/
def State.tagOf (s : State) (x : Nat) (pcp : Field) : Option (Nat × Nat) :=
  if s.flag (R.NET_VLAN_TAG_EN x) then some (s.get pcp, s.get (R.NET_VLAN_VID x)) else none

/-- Media time now in 2^-16 ns: that of the sample index, plus a free part within the sample (log entry 31). -/
def State.fineTime (s : State) : Nat × State :=
  let (k, s) := s.draw
  (s.mediaNs * 65536 + Config.freeNat k % (65536000000000 / s.rate), s)

/-- A correction of TS_CORR in 2^-16 ns (R143). -/
def corrUnits (v : Nat) : Int := sgn 16 v * 16384

/-- A time moved by a correction. -/
def shiftTime (t : Nat) (c : Int) : Nat := ((t : Int) + c).toNat

/-- Seconds and nanoseconds as a PTP timestamp's ten bytes. -/
def ptpTime (t16 : Nat) : List (BitVec 8) :=
  let ns := t16 / 65536
  beBytes 6 (ns / 1000000000) ++ beBytes 4 (ns % 1000000000)

/-- The offset of the UDP header in an untagged or tagged frame, where the frame holds an IPv4 UDP datagram or its first fragment. -/
def udpOffset (bs : List (BitVec 8)) : Option Nat :=
  let o := if beAt bs 12 2 = 0x8100 then 18 else 14
  let v := beAt bs o 1
  if beAt bs (o - 2) 2 = 0x0800 ∧ v / 16 = 4 ∧ 5 ≤ v % 16 ∧ beAt bs (o + 6) 2 % 8192 = 0 ∧ beAt bs (o + 9) 1 = 17 then
    some (o + v % 16 * 4)
  else none

/-- Whether a frame is a PTP event message in IPv4 UDP to port 319 (R145). -/
def isPtpEvent (bs : List (BitVec 8)) : Bool :=
  match udpOffset bs with
  | some o => beAt bs (o + 2) 2 == 319 && decide (beAt bs (o + 8) 1 % 16 < 4) && beAt bs (o + 9) 1 % 16 == 2
  | none => false

/-- Overwrite bytes from an offset. -/
def patch (bs : List (BitVec 8)) (o : Nat) (v : List (BitVec 8)) : List (BitVec 8) :=
  bs.take o ++ v ++ bs.drop (o + v.length)

/-- Insert originTimestamp and set the UDP checksum to zero (R145). -/
def oneStepInsert (bs : List (BitVec 8)) (t : Nat) : List (BitVec 8) :=
  match udpOffset bs with
  | some o => patch (patch bs (o + 6) [0, 0]) (o + 8 + 34) (ptpTime t)
  | none => bs

/-- The PTP header (IEEE 1588, log entry 32): type, flags, correction, source, sequence, control, interval. -/
def ptpHeader (type len domain flags : Nat) (source seq control : Nat) (corr logInt : Int) : List (BitVec 8) :=
  beBytes 1 type ++ beBytes 1 2 ++ beBytes 2 len ++ beBytes 1 domain ++ [0] ++ beBytes 2 flags ++ beBytes 8 (unsgn 64 corr)
    ++ beBytes 4 0 ++ beBytes 10 source ++ beBytes 2 seq ++ beBytes 1 control ++ beBytes 1 (unsgn 8 logInt)

/-- 224.0.1.129 -/
def ptpGroup : Nat := 0xE0000181

/-- The next identification value of a port (R136). -/
def State.nextIdent (s : State) (x : Nat) : Nat × State :=
  let p := s.port x
  (p.ident, s.setPort x { p with ident := (p.ident + 1) % 65536 })

/-- A flow counter of the transmit direction, with its WRAP bit and TX CNT_WRAP (Table 6.12, R184). -/
def State.txCount (s : State) (n k by_ : Nat) : State :=
  let f : Field := ⟨R.FLOW_TXC_PKT n + 4 * k, 31, 0⟩
  let v := s.get f + by_
  let s := s.put f v
  if 2 ^ 32 ≤ v then (s.raise ((R.FLOW_TXC_WRAP_WRAP n).bit k)).raise ⟨R.FLOW_EVENT, 12, 12⟩ else s

/-- Put a frame in a port's queue. -/
def State.enqueue (s : State) (x : Nat) (f : TxFrame) : State :=
  s.setPort x { s.port x with queue := (s.port x).queue ++ [f] }

/-- The number of the first class of R141 with a frame waiting. -/
def firstClass (q : List TxFrame) : Option TxFrame :=
  (List.range 7).findSome? (fun c => q.find? (fun f => f.cls == c))

/-- Build and queue a PTP message from port `x` (R136, R141, R145). -/
def State.sendPtp (s : State) (x : Nat) (event : Bool) (kind : TxKind) (dstIp dstMac : Nat) (msg : List (BitVec 8)) : State :=
  if s.ipOf x = 0 ∨ ¬ s.linkIsUp x then s
  else
    let (id, s) := s.nextIdent x
    let port := if event then 319 else 320
    let dscp := s.get (if event then R.NET_IP_CFG_DSCP_EVENT x else R.NET_IP_CFG_DSCP_GENERAL x)
    let u := udp (s.ipOf x) dstIp port port msg
    let ip := ipv4 dscp (s.get (R.NET_IP_CFG_TTL_PTP x)) 17 id (s.ipOf x) dstIp [] u
    let f := ether dstMac (s.macOf x) (s.tagOf x (R.NET_VLAN_PCP_PTP x)) 0x0800 ip
    s.enqueue x { cls := if event then 1 else 4, kind, bytes := f }

/-- The domainNumber of a port. -/
def State.ptpDomain (s : State) (x : Nat) : Nat := s.get (R.NET_PTP_CFG_DOMAIN x)

/-- The Follow_Up of a two-step Sync (R151). -/
def State.sendFollowUp (s : State) (x seq t : Nat) : State :=
  let li := sgn 4 (s.get (R.NET_PTP_RATES_LOG_SYNC x))
  s.sendPtp x false .plain ptpGroup (groupMac ptpGroup)
    (ptpHeader 8 44 (s.ptpDomain x) 0 (s.portId x) seq 2 0 li ++ ptpTime t)

/-- The bytes in which a frame leaves at time `t`: with originTimestamp inserted where one is asked for (R145). -/
def sentAs (k : TxKind) (body : List (BitVec 8)) (t : Nat) : List (BitVec 8) :=
  match k with
  | .oneStep => oneStepInsert body t
  | .host _ true _ => if isPtpEvent body then oneStepInsert body t else body
  | _ => body

/-- A frame starts to leave a port: what depends on the time it leaves happens now (R143 to R145, R150, R176). -/
def State.txBegin (s : State) (x : Nat) (f : TxFrame) : State :=
  let (t0, s) := s.fineTime
  let t := shiftTime t0 (corrUnits (s.get (R.NET_TS_CORR_TX_CORR x)))
  let body := f.bytes ++ List.replicate (60 - f.bytes.length) 0
  let s := (s.netCount x 7 1).netCount x 8 (body.length + 4)
  let looped := if s.flag (R.NET_CTRL_LOOPBACK x) then some (sentAs f.kind body t, t0) else none
  let s := s.setPort x { s.port x with busy := true, looped }
  match f.kind with
  | .plain => s.emit (.frame x body)
  | .oneStep => s.emit (.frame x (oneStepInsert body t))
  | .syncTwoStep seq => (s.emit (.frame x body)).sendFollowUp x seq t
  | .delayReq seq =>
    let s := s.emit (.frame x body)
    match (s.port x).dreq with
    | some (q, none) => if q = seq then s.setPort x { s.port x with dreq := some (seq, some t) } else s
    | _ => s
  | .audio n launch =>
    let s := s.emit (.frame x body)
    if launch + 20000 * 65536 < t0 then
      (s.txCount n 1 1).raise ⟨R.FLOW_EVENT, 11, 11⟩
    else s
  | .host _ one tag =>
    let s := s.count R.NETC_HFP_TX_FRAMES_COUNT
    let s := if one then
        (if isPtpEvent body then s.emit (.frame x (oneStepInsert body t))
         else (s.emit (.frame x body)).raise R.NETC_HFP_EVENT_TX_BAD)
      else s.emit (.frame x body)
    match tag with
    | some g => s.setPort x { s.port x with taken := (s.port x).taken ++ [{ ns := t / 65536, tag := g }] }
    | none => s

/-- An idle port takes its next frame by class (R141). -/
def State.txPick (s : State) (x : Nat) : State :=
  let p := s.port x
  if p.busy || !s.linkIsUp x then s
  else
    match firstClass p.queue with
    | some f => (s.setPort x { p with queue := p.queue.erase f }).txBegin x f
    | none => s

/-- A frame has finished leaving a port (R141). -/
def State.txEnd (s : State) (x : Nat) : State :=
  if (s.port x).busy then (s.setPort x { s.port x with busy := false, looped := none }).txPick x else s

/-- A frame queued on a port whose link is down, or that goes down, is discarded (Table 5.2). -/
def State.txDiscard (s : State) (x : Nat) (f : TxFrame) : State :=
  match f.kind with
  | .audio _ _ => if s.netOn x then s.netCount x 9 1 else s
  | .host false _ _ => s.count R.NETC_HFP_TX_DROP_COUNT
  | _ => s

/-- Give a frame to a port. -/
def State.txSend (s : State) (x : Nat) (f : TxFrame) : State :=
  if s.linkIsUp x then (s.enqueue x f).txPick x else s.txDiscard x f

/-- Send the PTP message and let the port choose. -/
def State.ptpSend (s : State) (x : Nat) (event : Bool) (kind : TxKind) (dstIp dstMac : Nat) (msg : List (BitVec 8)) : State :=
  (s.sendPtp x event kind dstIp dstMac msg).txPick x

/-! PTP (R146 to R152) -/

/-- The order of data sets: the smaller is better (R147). -/
def dsKey (d : PtpDs) (source : Nat) : List Nat :=
  [d.priority1, d.cls, d.accuracy, d.variance, d.priority2, d.gm, d.steps, source]

/-- Lexicographic order. -/
def lexLt : List Nat → List Nat → Bool
  | [], _ => false
  | _ :: _, [] => false
  | a :: s, b :: t => decide (a < b) || (a == b && lexLt s t)

/-- The best qualified foreign master (R147). -/
def bestForeign (l : List Foreign) : Option Foreign :=
  (l.filter (·.qualified)).foldl
    (fun b f => match b with
      | none => some f
      | some g => if lexLt (dsKey f.ds f.source) (dsKey g.ds g.source) then some f else some g) none

/-- The port's own data set as master (R151). -/
def State.ownDs (s : State) (x : Nat) : PtpDs :=
  { priority1 := s.get (R.NET_PTP_DS0_PRIORITY1 x), cls := s.get (R.NET_PTP_DS0_CLASS x),
    accuracy := s.get (R.NET_PTP_DS0_ACCURACY x), variance := s.get (R.NET_PTP_DS1_VARIANCE x),
    priority2 := s.get (R.NET_PTP_DS0_PRIORITY2 x), gm := s.clockId x, steps := 0 }

def State.ptpState (s : State) (x : Nat) : Nat := s.get (R.NET_PTP_STATE_STATE x)

def State.setPtpState (s : State) (x v : Nat) : State :=
  if s.ptpState x = v then s else (s.put (R.NET_PTP_STATE_STATE x) v).raise (R.NET_EVENT_PTP_STATE x)

/-- The Vetiver slots fed by port `x`. -/
def State.ptpSlots (s : State) (x : Nat) : List Nat := sel 8 (fun n => s.src n == x + 1)

/-- Vetiver follows a port's best master: its presence, its grandmaster and its clockClass (R81). -/
def State.vetFollow (s : State) (x : Nat) (present : Bool) (gm cls : Nat) : State :=
  if !s.on .clk then s
  else
    let v := look {} s.vet.ptp x
    let w : VetPtp := { v with present, gm := if present then gm else v.gm, cls := if present then cls else v.cls }
    let s := { s with vet := { s.vet with ptp := upd s.vet.ptp x w } }
    (s.ptpSlots x).foldl (fun s n =>
      let s := (s.classShow n).setQl n
      if !s.slotUsed n || s.q n == 7 then s
      else if present ≠ v.present then (s.setSlot n { s.slot n with gone := false }).restartSlot n
      else if present ∧ gm ≠ v.gm then s.restartSlot n
      else if present ∧ cls ≠ v.cls then s.reclass n
      else s) s

/-- The interval of a port's Syncs, from the logMessageInterval of the last accepted one: f_upd of a slot on it, and with it the
cap on the active slot's bandwidth (Table 3.2, R94). -/
def State.vetSyncRate (s : State) (x : Nat) (l : Int) : State :=
  let v := look {} s.vet.ptp x
  if !s.on .clk || v.sync == l then s
  else
    let s := { s with vet := { s.vet with ptp := upd s.vet.ptp x { v with sync := l } } }
    match s.activeSlot with
    | some n =>
      if s.src n ≠ x + 1 ∨ s.loopMode = 2 then s
      else if s.flag R.VET_STATUS_GEARING then s.keepBw n
      else s.setBw n (s.get R.VET_CTRL_BW)
    | none => s

/-- Show Ebest in the registers, and hand it to Vetiver (R147). -/
def State.showEbest (s : State) (x : Nat) : State :=
  let p := s.port x
  let n := (p.foreign.filter (·.qualified)).length
  let s := s.put (R.NET_PTP_STATE_FM_COUNT x) n
  let slave := s.ptpState x == 2 || s.ptpState x == 3
  match p.foreign.find? (fun f => some f.source == p.ebest) with
  | some f =>
    let s := (s.raise (R.NET_PTP_STATE_EBEST_VALID x)).put (R.NET_PTP_STATE_STEPS x) f.ds.steps
    let s := s.put64 (R.NET_GM_ID_LO x) (R.NET_GM_ID_HI x) f.ds.gm
    let s := s.wr (R.NET_GM_DS x)
      (BitVec.ofNat 32 (f.ds.priority1 % 256 + f.ds.cls % 256 * 2 ^ 8 + f.ds.accuracy % 256 * 2 ^ 16 + f.ds.priority2 % 256 * 2 ^ 24))
    s.vetFollow x slave f.ds.gm f.ds.cls
  | none =>
    let s := (s.clr (R.NET_PTP_STATE_EBEST_VALID x)).clr (R.NET_PTP_STATE_STEPS x)
    ((s.put64 (R.NET_GM_ID_LO x) (R.NET_GM_ID_HI x) 0).wr (R.NET_GM_DS x) 0).vetFollow x false 0 0

/-- What belongs to one master goes when Ebest changes. -/
def NetPort.forget (p : NetPort) : NetPort :=
  { p with lastSync := none, waiting := none, sync := none, dreqDue := false, dreq := none, dreqLog := none }

/-- Bring a port's PTP state to its role, its link and its foreign masters (Table 5.7). -/
def State.ptpReview (s : State) (x : Nat) : State :=
  let role := s.get (R.NET_PTP_CFG_ROLE x)
  let en := s.flag (R.NET_CTRL_EN x)
  if !s.netOn x then s
  else if !en || role == 0 || role == 3 then
    ((s.setPort x { (s.port x).forget with foreign := [], ebest := none }).setPtpState x 0).showEbest x
  else
    let best := bestForeign (s.port x).foreign
    let was := (s.port x).ebest
    let now := best.map (·.source)
    let p := s.port x
    let s := s.setPort x { (if was = now then p else p.forget) with ebest := now }
    let better := match best with
      | some f => lexLt (dsKey f.ds f.source) (dsKey (s.ownDs x) (s.portId x))
      | none => false
    let yields := role == 2 && better && s.flag (R.NET_PTP_CFG_AUTO_YIELD x)
    let s := if role == 2 then s.setPtpState x 4 else s
    let s := if role == 2 && better then s.raise (R.NET_EVENT_BETTER_MASTER x) else s
    let s := if yields then s.put (R.NET_PTP_CFG_ROLE x) 1 else s
    let s :=
      if role == 2 && !yields then s
      else
        let s := if s.ptpState x = 4 ∨ (s.ptpState x = 0 ∧ s.linkIsUp x) then s.setPtpState x 1 else s
        if s.ptpState x = 0 then s
        else
          match now with
          | none => s.setPtpState x 1
          | some _ => if s.ptpState x = 1 ∨ was ≠ now then s.setPtpState x 2 else s
    s.showEbest x

/-- An Announce (R147). -/
def State.ptpAnnounce (s : State) (x : Nat) (m : PtpMsg) (t : Nat) : State :=
  let prof := s.get (R.NET_PTP_CFG_PROFILE x)
  let lo : Int := if prof = 0 then -3 else 0
  let hi : Int := if prof = 0 then 1 else 4
  if !s.netOn x || s.ptpState x == 0 || !s.linkIsUp x || m.source / 65536 == s.clockId x || decide (255 ≤ m.ds.steps)
      || decide (m.logInterval < lo) || decide (hi < m.logInterval) then s
  else
    let p := s.port x
    let window := if m.logInterval < 0 then 4 * 1000000000 * 65536 / 2 ^ (-m.logInterval).toNat
      else 4 * 1000000000 * 65536 * 2 ^ m.logInterval.toNat
    match p.foreign.find? (fun f => f.source == m.source) with
    | some f =>
      let g : Foreign := { f with ds := m.ds, logInterval := m.logInterval, last := t, qualified := f.qualified || decide (t - f.last ≤ window) }
      (s.setPort x { p with foreign := p.foreign.map (fun e => if e.source == m.source then g else e) }).ptpReview x
    | none =>
      if 8 ≤ p.foreign.length then s.netCount x 15 1
      else s.setPort x { p with foreign := p.foreign ++ [{ source := m.source, ds := m.ds, logInterval := m.logInterval, last := t }] }

/-- A foreign master has sent no Announce for ANN_TIMEOUT of its intervals (R147). Of Ebest this is a loss of the reference, also
where another foreign master follows it (Table 3.2). -/
def State.annTimeout (s : State) (x source : Nat) : State :=
  if s.netOn x && (s.port x).foreign.any (fun f => f.source == source) then
    let s := if (s.port x).ebest = some source then s.srcLost (x + 1) else s
    (s.setPort x { s.port x with foreign := (s.port x).foreign.filter (fun f => f.source != source) }).ptpReview x
  else s

/-- The offset of a complete Sync, once MPD exists (R150): to OFFSET, to Vetiver, and UNCALIBRATED becomes SLAVE. -/
def State.ptpOffset (s : State) (x : Nat) : State :=
  match (s.port x).sync, (s.port x).mpd with
  | some (t1, t2, cS), some mpd =>
    let ofs : Int := ((((t2 : Int) - t1 * 65536 - cS : Int) : Rat) - mpd).floor
    let s := s.put64 (R.NET_OFFSET_LO x) (R.NET_OFFSET_HI x) (unsgn 64 ofs)
    let s := if s.ptpState x = 2 then s.setPtpState x 3 else s
    if s.on .clk then
      (s.ptpSlots x).foldl (fun s n =>
        let s := s.ptpBack n true false
        if s.slotUsed n && (s.q n == 2 || s.q n == 3 || s.q n == 4) then s.vetSample n t2 ofs else s) s
    else s
  | _, _ => s

/-- A complete Sync of Ebest (R150). -/
def State.ptpComplete (s : State) (x t1 t2 : Nat) (cS : Int) : State :=
  (s.setPort x { s.port x with sync := some (t1, t2, cS), waiting := none }).ptpOffset x

/-- A Sync discarded for its source, its sequenceId or a missing Follow_Up (R148). -/
def State.syncDiscard (s : State) (x : Nat) : State := s.netCount x 11 1

/-- A Sync (R148): accepted only from Ebest and newer; a two-step one waits for its Follow_Up. -/
def State.ptpSync (s : State) (x : Nat) (m : PtpMsg) (t : Nat) : State :=
  if !s.netOn x || !(s.ptpState x == 2 || s.ptpState x == 3) then s
  else
    let s := s.netCount x 10 1
    let p := s.port x
    let newer : Bool := match p.lastSync with
      | some q => let d := (m.seq + 65536 - q) % 65536; decide (1 ≤ d) && decide (d ≤ 32767)
      | none => true
    if p.ebest ≠ some m.source ∨ ¬ newer then s.syncDiscard x
    else
      let s := if p.waiting.isSome then s.syncDiscard x else s
      let p := { s.port x with lastSync := some m.seq, masterIp := m.ip, masterMac := m.mac, dreqDue := true, waiting := none }
      let s := (s.setPort x p).vetSyncRate x m.logInterval
      if m.twoStep then s.setPort x { p with waiting := some (m.seq, t, m.corr) }
      else s.ptpComplete x m.time t m.corr

/-- A Follow_Up completes the Sync that waits for it (R148). -/
def State.ptpFollowUp (s : State) (x : Nat) (m : PtpMsg) : State :=
  if !s.netOn x || (s.port x).ebest != some m.source then s
  else
    match (s.port x).waiting with
    | some (seq, t2, c) => if seq = m.seq then s.ptpComplete x m.time t2 (c + m.corr) else s
    | none => s

/-- No Follow_Up came within one Sync interval (R148). -/
def State.followUpLate (s : State) (x : Nat) : State :=
  if (s.port x).waiting.isSome then (s.setPort x { s.port x with waiting := none }).syncDiscard x else s

/-- A slave port sends a Delay_Req (R149). -/
def State.sendDelayReq (s : State) (x : Nat) : State :=
  let p := s.port x
  if s.netOn x && (s.ptpState x == 2 || s.ptpState x == 3) && p.dreqDue && s.ipOf x != 0 && s.linkIsUp x then
    let seq := p.dreqSeq
    let s := s.setPort x { p with dreqDue := false, dreqSeq := (seq + 1) % 65536, dreq := some (seq, none) }
    let uni := s.flag (R.NET_PTP_CFG_DREQ_UNICAST x)
    let (k, s) := s.draw
    (s.netCount x 12 1).ptpSend x true (.delayReq seq) (if uni then p.masterIp else ptpGroup)
      (if uni then p.masterMac else groupMac ptpGroup)
      (ptpHeader 1 44 (s.ptpDomain x) (if uni then 0x400 else 0) (s.portId x) seq 1 0 127 ++ beBytes 10 (Config.freeNat k))
  else s

/-- A Delay_Resp (R149, R150). -/
def State.ptpDelayResp (s : State) (x : Nat) (m : PtpMsg) : State :=
  if !s.netOn x || !(s.ptpState x == 2 || s.ptpState x == 3) then s
  else
    let s := s.netCount x 13 1
    let p := s.port x
    match p.dreq, p.sync with
    | some (seq, some t3), some (t1, t2, cS) =>
      if seq = m.seq ∧ m.req = s.portId x then
        let d : Rat := ((((t2 : Int) - t1 * 65536 - cS) + ((m.time : Int) * 65536 - t3 - m.corr) : Int) : Rat) / 2
        let lim : Rat := ((s.get (R.NET_PTP_CFG_DELAY_REJECT x) * 65536 : Nat) : Rat)
        let far : Bool := match p.mpd with
          | some v => decide (lim < d - v) || decide (lim < v - d)
          | none => false
        let p := { p with dreq := none, dreqLog := some m.logInterval }
        let s :=
          if d < 0 ∨ far then
            let s := s.netCount x 14 1
            if p.rejects + 1 = 4 then
              (s.setPort x { p with mpd := some d, rejects := 0 }).raise (R.NET_EVENT_DELAY_OUTLIER x)
            else s.setPort x { p with rejects := p.rejects + 1 }
          else
            let v := match p.mpd with
              | some v => v + (d - v) / ((2 ^ s.get (R.NET_PTP_CFG_DELAY_AVG x) : Nat) : Rat)
              | none => d
            s.setPort x { p with mpd := some v, rejects := 0 }
        let s := (s.ptpSlots x).foldl (fun s n => s.ptpBack n false true) s
        match (s.port x).mpd with
        | some v => s.wr (R.NET_MPD x) (BitVec.ofInt 32 (v / 256).floor)
        | none => s
      else s
    | some (seq, some _), none =>
      if seq = m.seq ∧ m.req = s.portId x then
        (s.ptpSlots x).foldl (fun s n => s.ptpBack n false true) (s.setPort x { p with dreq := none, dreqLog := some m.logInterval })
      else s
    | _, _ => s

/-- A Delay_Req to a master port is answered, up to 4,096 in a second (R151). -/
def State.ptpDelayReq (s : State) (x : Nat) (m : PtpMsg) (t : Nat) : State :=
  if s.netOn x && s.ptpState x == 4 && s.linkIsUp x then
    let sec := t / (65536 * 1000000000)
    let p := s.port x
    let n := if p.answered.1 = sec then p.answered.2 else 0
    if 4096 ≤ n then s.netCount x 15 1
    else
      let s := s.setPort x { p with answered := (sec, n + 1) }
      let li := sgn 4 (s.get (R.NET_PTP_RATES_LOG_DREQ x))
      s.ptpSend x false .plain ptpGroup (groupMac ptpGroup)
        (ptpHeader 9 54 (s.ptpDomain x) 0 (s.portId x) m.seq 3 m.corr li ++ ptpTime t ++ beBytes 10 m.source)
  else s

/-- A master port sends an Announce (R151). -/
def State.sendAnnounce (s : State) (x : Nat) : State :=
  if s.netOn x && s.ptpState x == 4 && s.linkIsUp x && s.ipOf x != 0 then
    let p := s.port x
    let d := s.ownDs x
    let b (f : Field) (v : Nat) : Nat := if s.flag f then v else 0
    let flags := b (R.NET_UTC_LEAP61 x) 1 + b (R.NET_UTC_LEAP59 x) 2 + b (R.NET_UTC_UTC_VALID x) 4 + b (R.NET_UTC_PTP_TIMESCALE x) 8
      + b (R.NET_UTC_TIME_TRACEABLE x) 16 + b (R.NET_UTC_FREQ_TRACEABLE x) 32
    let (t, s) := s.fineTime
    let s := s.setPort x { p with annSeq := (p.annSeq + 1) % 65536 }
    s.ptpSend x false .plain ptpGroup (groupMac ptpGroup)
      (ptpHeader 11 64 (s.ptpDomain x) flags (s.portId x) p.annSeq 5 0 (sgn 4 (s.get (R.NET_PTP_RATES_LOG_ANNOUNCE x)))
        ++ ptpTime t ++ beBytes 2 (s.get (R.NET_UTC_UTC_OFFSET x)) ++ [0] ++ beBytes 1 d.priority1 ++ beBytes 1 d.cls
        ++ beBytes 1 d.accuracy ++ beBytes 2 d.variance ++ beBytes 1 d.priority2 ++ beBytes 8 d.gm ++ beBytes 2 0
        ++ beBytes 1 (s.get (R.NET_PTP_DS1_TIME_SOURCE x)))
  else s

/-- A master port sends a Sync, one-step, or two-step with a Follow_Up (R145, R151). -/
def State.sendSync (s : State) (x : Nat) : State :=
  if s.netOn x && s.ptpState x == 4 && s.linkIsUp x && s.ipOf x != 0 then
    let p := s.port x
    let two := s.flag (R.NET_PTP_CFG_TWO_STEP x)
    let s := s.setPort x { p with syncSeq := (p.syncSeq + 1) % 65536 }
    let (k, s) := s.draw
    s.ptpSend x true (if two then .syncTwoStep p.syncSeq else .oneStep) ptpGroup (groupMac ptpGroup)
      (ptpHeader 0 44 (s.ptpDomain x) (if two then 0x200 else 0) (s.portId x) p.syncSeq 0 0
        (sgn 4 (s.get (R.NET_PTP_RATES_LOG_SYNC x))) ++ beBytes 10 (Config.freeNat k))
  else s

/-- A write of PTP_CFG (R146). -/
def State.ptpCfgWrite (s : State) (x : Nat) (w : Word) : State :=
  if s.netOn x then (s.wr (R.NET_PTP_CFG x) w).ptpReview x else s

/-- The nearest value in a range. -/
def nearest (lo hi v : Int) : Int := if v < lo then lo else if hi < v then hi else v

/-- A write of PTP_RATES stores the nearest intervals in the profile's range (R152, Table 5.8). -/
def State.ptpRatesWrite (s : State) (x : Nat) (w : Word) : State :=
  if s.netOn x then
    let p1 := s.flag (R.NET_PTP_CFG_PROFILE x)
    let f (g : Field) : Int := sgn 4 (g.ofWord w)
    let sync := if p1 then (let v := nearest (-4) 1 (f (R.NET_PTP_RATES_LOG_SYNC x)); if v = 1 then 0 else v)
      else nearest (-7) (-1) (f (R.NET_PTP_RATES_LOG_SYNC x))
    let ann := if p1 then nearest 0 4 (f (R.NET_PTP_RATES_LOG_ANNOUNCE x)) else nearest (-3) 1 (f (R.NET_PTP_RATES_LOG_ANNOUNCE x))
    let dr := nearest (if p1 then -3 else -7) 5 (f (R.NET_PTP_RATES_LOG_DREQ x))
    s.wr (R.NET_PTP_RATES x) ((w &&& 0x1F000) ||| BitVec.ofNat 32 (unsgn 4 sync + unsgn 4 ann * 16 + unsgn 4 dr * 256))
  else s

/-! Link (R129 to R133) -/

/-- Whether an entry of the membership table is joined on port `x`. -/
def State.joinedOn (s : State) (n x : Nat) : Bool := (s.get (R.MEMB_PORTS_JOINED n)).testBit x

/-- Whether port `x` reports in IGMPv2 now (R155). -/
def State.igmpV2 (s : State) (x : Nat) : Bool :=
  if x = 0 then !s.flag R.NETC_IGMP_CFG_VER_A || s.flag R.NETC_IGMP_STATUS_V2_FALLBACK_A
  else !s.flag R.NETC_IGMP_CFG_VER_B || s.flag R.NETC_IGMP_STATUS_V2_FALLBACK_B

/-- Send one IGMP message: Router Alert, TTL 1, the IGMP class (R136, R141, R155). -/
def State.sendIgmp (s : State) (x dst : Nat) (body : Nat → List (BitVec 8)) : State :=
  if s.ipOf x = 0 ∨ ¬ s.linkIsUp x ∨ ¬ s.netOn x then s
  else
    let (id, s) := s.nextIdent x
    let m := body (checksum (body 0))
    let ip := ipv4 (s.get R.NETC_IGMP_CFG_DSCP) 1 2 id (s.ipOf x) dst [0x94, 0x04, 0, 0] m
    let f := ether (groupMac dst) (s.macOf x) (s.tagOf x (R.NET_VLAN_PCP_HOST x)) 0x0800 ip
    s.txSend x { cls := 5, bytes := f }

/-- One report, or leave, of a group and source on port `x` (R153 to R155; record types of RFC 3376, log entry 32).
`kind`: 0 a change to joined, 1 a leave, 2 a statement of the present membership. -/
def State.igmpReport (s : State) (x kind group source : Nat) : State :=
  if s.igmpV2 x then
    let type := if kind = 1 then 0x17 else 0x16
    s.sendIgmp x (if kind = 1 then 0xE0000002 else group) (fun ck => beBytes 1 type ++ [0] ++ beBytes 2 ck ++ beBytes 4 group)
  else
    let rec_ := if source = 0 then (if kind = 0 then 4 else if kind = 1 then 3 else 2)
      else (if kind = 0 then 5 else if kind = 1 then 6 else 1)
    let srcs := if source = 0 then [] else beBytes 4 source
    s.sendIgmp x 0xE0000016 (fun ck => beBytes 1 0x22 ++ [0] ++ beBytes 2 ck ++ beBytes 2 0 ++ beBytes 2 1
      ++ beBytes 1 rec_ ++ [0] ++ beBytes 2 (srcs.length / 4) ++ beBytes 4 group ++ srcs)

/-- Send one round of a job's reports, on each of its ports. -/
def State.igmpRound (s : State) (j : IgmpJob) : State :=
  forN 2 (fun x s => if j.ports.testBit x then s.igmpReport x (if j.leave then 1 else 0) j.group j.source else s) s

/-- ROBUST, where 0 acts as 1. -/
def State.robust (s : State) : Nat := max 1 (s.get R.NETC_IGMP_CFG_ROBUST)

/-- The running IGMP command ends, with RESULT DONE (R154). -/
def State.igmpDone (s : State) : State :=
  ((s.put R.NETC_IGMP_STATUS_RESULT 0).clr R.NETC_IGMP_STATUS_BUSY).raise R.NETC_HFP_EVENT_IGMP_DONE

/-- Start a run of reports: the first goes now, the others wait UNSOL_INT each (R154). -/
def State.igmpStart (s : State) (j : IgmpJob) : State :=
  let s := s.igmpRound j
  if j.left ≤ 1 then (if j.cmd then s.igmpDone else s)
  else { s with net := { s.net with jobs := s.net.jobs ++ [{ j with left := j.left - 1 }] } }

/-- The next report of a run goes; the last ends its command (R154). -/
def State.igmpRepeat (s : State) (k : Nat) : State :=
  match s.net.jobs[k]? with
  | none => s
  | some j =>
    let s := s.igmpRound j
    if j.left ≤ 1 then
      let s := { s with net := { s.net with jobs := s.net.jobs.eraseIdx k } }
      if j.cmd then s.igmpDone else s
    else { s with net := { s.net with jobs := setAt s.net.jobs k { j with left := j.left - 1 } } }

/-- A port's link comes up (R132, R133). -/
def State.linkUpNow (s : State) (x : Nat) : State :=
  let s := (s.raise (R.NET_STATUS_LINK x)).raise (R.NET_EVENT_LINK_UP x)
  let s := s.ptpReview x
  let l := sel 512 (fun n => s.joinedOn n x)
  l.foldl (fun s n => s.igmpStart
    { leave := false, index := n, group := s.get (R.MEMB_GROUP_GROUP n), source := s.get (R.MEMB_SOURCE_SOURCE n),
      ports := 2 ^ x, left := s.robust, cmd := false }) s

/-- A port's link goes down (Table 5.2). -/
def State.linkDownNow (s : State) (x : Nat) : State :=
  if s.linkIsUp x then
    let q := (s.port x).queue
    let s := (s.clr (R.NET_STATUS_LINK x)).raise (R.NET_EVENT_LINK_DOWN x)
    let s := q.foldl (fun s f => s.txDiscard x f) s
    let s := s.setPort x { (s.port x).forget with queue := [], busy := false, looped := none, foreign := [], ebest := none, queries := [] }
    s.ptpReview x
  else s

/-- Whether auto-negotiation is enabled in the port's mode (Table 5.1). -/
def State.anInUse (s : State) (x : Nat) : Bool := s.flag (R.NET_CTRL_AN_EN x) && decide (s.get (R.NET_CTRL_MODE x) < 2)

/-- STATUS.LOS shows whether the LOS pin is active at the level LOS_POL sets; active, with LOS_EN set, it takes the link down
(R132). -/
def State.losShow (s : State) (x : Nat) : State :=
  let active := (s.port x).los != s.flag (R.NET_CTRL_LOS_POL x)
  let s := s.put (R.NET_STATUS_LOS x) (toBit active)
  if active && s.flag (R.NET_CTRL_LOS_EN x) && !s.flag (R.NET_CTRL_LOOPBACK x) then s.linkDownNow x else s

/-- What a port's lane does as EN changes (R130, Table 5.2): electrical idle with EN clear, else idle, and in 1000BASE-X with AN_EN
set clause 37 negotiation, which advertises full duplex and no pause. -/
def State.laneShow (s : State) (x : Nat) (was : Bool) : State :=
  let en := s.flag (R.NET_CTRL_EN x)
  let s := if en = was then s else s.emit (.lane x en)
  if en && !was && s.anInUse x && s.get (R.NET_CTRL_MODE x) == 0 then s.emit (.advert x true false) else s

/-- A write of NET_x.CTRL (R129): refused as a whole, or stored with what follows from EN. -/
def State.netCtrlWrite (s : State) (x : Nat) (w : Word) : State :=
  if s.netOn x then
    let old := s.rd (R.NET_CTRL x)
    let new := w &&& 0x7F
    if s.flag (R.NET_CTRL_EN x) ∧ (old ^^^ new) &&& 0x4E ≠ 0 then s.raise (R.NET_STATUS_MODE_REFUSED x)
    else
      let was := s.flag (R.NET_CTRL_EN x)
      let s := ((s.wr (R.NET_CTRL x) new).clr (R.NET_STATUS_MODE_REFUSED x)).laneShow x was
      let s := if s.flag (R.NET_CTRL_EN x) then s else
        ((s.clr (R.NET_STATUS_AN_DONE x)).clr (R.NET_STATUS_SPEED_ERR x)).linkDownNow x
      (s.losShow x).ptpReview x
  else s

/-- Auto-negotiation completes, at a partner speed in Mb/s (R130). -/
def State.anDone (s : State) (x mbps : Nat) : State :=
  if s.netOn x && s.flag (R.NET_CTRL_EN x) && s.anInUse x && !s.flag (R.NET_CTRL_LOOPBACK x) then
    if s.get (R.NET_CTRL_MODE x) = 1 ∧ mbps ≠ 1000 then
      (((s.raise (R.NET_STATUS_SPEED_ERR x)).raise (R.NET_EVENT_SPEED_ERR x)).raise (R.NET_STATUS_AN_DONE x)).linkDownNow x
    else (s.raise (R.NET_STATUS_AN_DONE x)).clr (R.NET_STATUS_SPEED_ERR x)
  else s

/-- The link conditions have held for UP_HOLD ms, with the LOS pin at level `los` (R132). -/
def State.linkReady (s : State) (x : Nat) (los : Bool) : State :=
  if s.netOn x && s.flag (R.NET_CTRL_EN x) && !s.linkIsUp x then
    let s := (s.setPort x { s.port x with los }).losShow x
    if s.flag (R.NET_CTRL_LOOPBACK x) then s.linkUpNow x
    else
      let s := s.raise (R.NET_STATUS_PCS_LOCK x)
      let an := !s.anInUse x || (s.flag (R.NET_STATUS_AN_DONE x) && !s.flag (R.NET_STATUS_SPEED_ERR x))
      if an && !(s.flag (R.NET_CTRL_LOS_EN x) && s.flag (R.NET_STATUS_LOS x)) then s.linkUpNow x else s
  else s

/-- A link condition fails, or the LOS pin takes a level (R132); in loopback every condition counts as met. -/
def State.linkFails (s : State) (x : Nat) (c : LinkCause) : State :=
  let down (s : State) : State := if s.flag (R.NET_CTRL_LOOPBACK x) then s else s.linkDownNow x
  match c with
  | .pcs => if s.netOn x then down ((s.clr (R.NET_STATUS_PCS_LOCK x)).clr (R.NET_STATUS_AN_DONE x)) else s
  | .los high =>
    let s := s.setPort x { s.port x with los := high }
    if s.netOn x then s.losShow x else s
  | .an =>
    if s.netOn x then
      let s := s.clr (R.NET_STATUS_AN_DONE x)
      if s.anInUse x then down s else s
    else s

/-- A port's domain goes off, or is reset: its link is down and its hidden state goes. -/
def State.netPortOff (s : State) (x : Nat) : State :=
  let s := s.linkDownNow x
  let s := if s.flag (R.NET_CTRL_EN x) then s.emit (.lane x false) else s
  (s.setPort x { los := (s.port x).los }).vetFollow x false 0 0

/-! MDIO (R131) -/

/-- The preamble of an MDIO frame (log entry 313). -/
def mdioPreamble : List Bool := List.replicate 32 true

/-- A write of MDIO_CMD. -/
def State.mdioWrite (s : State) (w : Word) : State :=
  if s.on .flowptp then
    if s.flag R.NETC_MDIO_STATUS_BUSY then s.raise R.NETC_MDIO_STATUS_REFUSED
    else
      let op := R.NETC_MDIO_CMD_OP.ofWord w
      let read := if R.NETC_MDIO_CMD_ST.ofWord w = 1 then op == 2 else op == 2 || op == 3
      let s := (s.raise R.NETC_MDIO_STATUS_BUSY).clr R.NETC_MDIO_STATUS_REFUSED
      ({ s with net := { s.net with mdioRead := read } }).emit (.mdio mdioPreamble w (2 * (max 24 (s.get R.NETC_MDIO_CFG_DIV) + 1)))
  else s

/-- An MDIO frame completes. -/
def State.mdioEnd (s : State) (rdata : Nat) : State :=
  if s.on .flowptp && s.flag R.NETC_MDIO_STATUS_BUSY then
    let s := s.clr R.NETC_MDIO_STATUS_BUSY
    if s.net.mdioRead then s.put R.NETC_MDIO_STATUS_RDATA rdata else s
  else s

/-! The host frame path's transmit side (R138, R140 to R142) -/

/-- The transmit prefix's fields (Table 5.5): LENGTH, and the bits of word 0. -/
def hfpLen (w0 : Nat) : Nat := bitsOf w0 13 0

/-- Whether a transmit packet is bad (R140). -/
def hfpBad (w0 ns : Nat) (frame : List (BitVec 8)) : Bool :=
  let len := hfpLen w0
  let tagged := beAt frame 12 2 == 0x8100
  let tag := bitOf w0 16
  bitsOf w0 15 14 == 0 || decide (len < 14) || decide ((if tagged && !tag then 1518 else 1514) < len)
    || decide (frame.length < len) || (tag && tagged) || decide (999999999 < ns)

/-- Send a host frame on the ports it names whose links are up (Table 5.2). A tag it asks for is inserted while TAG_EN is set (R135). -/
def State.hfpSend (s : State) (w0 cls : Nat) (frame : List (BitVec 8)) : State :=
  let ports := bitsOf w0 15 14
  let ups := sel 2 (fun x => ports.testBit x && s.linkIsUp x)
  if ups.isEmpty then s.count R.NETC_HFP_TX_DROP_COUNT
  else
    ups.foldl (fun s x =>
      let bs := if bitOf w0 16 && s.flag (R.NET_VLAN_TAG_EN x) then
          frame.take 12 ++ beBytes 2 0x8100 ++ beBytes 2 (s.get (R.NET_VLAN_PCP_HOST x) * 8192 + s.get (R.NET_VLAN_VID x)) ++ frame.drop 12
        else frame
      s.txSend x { cls, kind := .host (ports == 3) (bitOf w0 18) (if bitOf w0 17 then some (bitsOf w0 31 21) else none), bytes := bs }) s

/-- What becomes of a frame whose launch time has passed (R142): one sent has priority as its launch time has come (R141). -/
def State.hfpLate (s : State) (w0 : Nat) (frame : List (BitVec 8)) : State :=
  let s := s.raise R.NETC_HFP_EVENT_TX_LATE
  if bitOf w0 20 then s.count R.NETC_HFP_TX_DROP_COUNT else s.hfpSend w0 2 frame

/-- Whether a host frame still waits in a port's queue: the next would overtake it, and host frames leave in order (R141). -/
def State.hfpWaits (s : State) : Bool :=
  (s.net.a.queue ++ s.net.b.queue).any (fun f => match f.kind with
    | .host _ _ _ => true
    | _ => false)

/-- A packet at the head of the transmit silo is checked and sent, held or discarded (R138, R140, R142). -/
def State.hfpTx (s : State) : State :=
  if !s.on .flowptp || !s.flag R.NETC_HFP_CFG_EN || s.hfpWaits then s
  else
    match s.net.held with
    | some _ => s
    | none =>
      match s.siloTakeFrame (s.get R.NETC_HFP_CFG_TX_SILO) with
      | (none, s) => s
      | (some bs, s) =>
        let le (o : Nat) := beNat ((bs.drop o).take 4).reverse
        let w0 := le 0
        let ns := le 4 % 2 ^ 30
        let sec := le 8 + le 12 % 65536 * 2 ^ 32
        if bs.length < 16 ∨ hfpBad w0 ns (bs.drop 16) then (s.count R.NETC_HFP_TX_DROP_COUNT).raise R.NETC_HFP_EVENT_TX_BAD
        else
          let frame := (bs.drop 16).take (hfpLen w0)
          if !bitOf w0 19 then s.hfpSend w0 6 frame
          else
            let at_ := sec * 1000000000 + ns
            let now := s.mediaNs
            if now + 1000000000 < at_ then (s.count R.NETC_HFP_TX_DROP_COUNT).raise R.NETC_HFP_EVENT_TX_FAR
            else if now < at_ then { s with net := { s.net with held := some (w0, at_, frame) } }
            else s.hfpLate w0 frame

/-- A held frame's launch time arrives: within the present sample (R142). One that passed while the path did not run, or that
comes while no port it names has a link, makes the frame late (Table 5.2). -/
def State.hfpLaunch (s : State) : State :=
  match s.net.held with
  | some (w0, at_, frame) =>
    let sample := 1000000000 / s.rate
    if !s.on .flowptp || !s.flag R.NETC_HFP_CFG_EN || decide (s.mediaNs + sample < at_) then s
    else
      let s' : State := { s with net := { s.net with held := none } }
      if at_ + sample < s.mediaNs ∨ sel 2 (fun x => (bitsOf w0 15 14).testBit x && s.linkIsUp x) = [] then s'.hfpLate w0 frame
      else s'.hfpSend w0 2 frame
  | none => s

/-- An abort of the transmit silo discards a held frame (R142). -/
def State.hfpAbort (s : State) (n : Nat) : State :=
  if n = s.get R.NETC_HFP_CFG_TX_SILO then { s with net := { s.net with held := none } } else s

/-- A write of HFP_CFG: clearing EN stops the path as the producer of its silo (R138, R279). -/
def State.hfpCfgWrite (s : State) (w : Word) : State :=
  if s.on .flowptp then
    let was := s.flag R.NETC_HFP_CFG_EN
    let silo := s.get R.NETC_HFP_CFG_RX_SILO
    let s := s.wr R.NETC_HFP_CFG (w &&& 0x000F3F3F)
    if was && !s.flag R.NETC_HFP_CFG_EN && s.siloOpen silo && s.get (R.SILO_S_CFG_PROD silo) == 4 then s.siloStopProducer silo else s
  else s

/-- A transmit timestamp enters the port's FIFO (R144). -/
def State.stampCapture (s : State) (x : Nat) : State :=
  let p := s.port x
  match p.taken with
  | [] => s
  | e :: t =>
    if 16 ≤ p.stamps.length then
      (s.setPort x { p with taken := t, stampLost := true }).raise (R.NET_EVENT_TXTS_LOST x)
    else (s.setPort x { p with taken := t, stamps := p.stamps ++ [e] }).raise (R.NET_EVENT_TXTS x)

/-- A read of TXTS_NS: the word, the TXTS_INFO it latches, and the state after it (R144). -/
def State.txtsRead (s : State) (x : Nat) : Word × Word × State :=
  let p := s.port x
  if !s.netOn x then (0, 0, s)
  else
    match p.stamps with
    | [] => (0, 0, s)
    | e :: t =>
      (BitVec.ofNat 32 (e.ns % 1000000000),
       BitVec.ofNat 32 (e.ns / 1000000000 % 65536 + e.tag % 2048 * 2 ^ 16 + 2 ^ 27 + (if p.stampLost then 2 ^ 28 else 0)),
       s.setPort x { p with stamps := t, stampLost := false })

/-! IGMP (R153 to R155) -/

/-- A write to a membership entry, ignored while its JOINED is not 0 (R153). -/
def State.membWrite (s : State) (n a : Nat) (w : Word) : State :=
  if s.on .flowptp && s.get (R.MEMB_PORTS_JOINED n) == 0 then
    s.wr a (if a = R.MEMB_PORTS n then w &&& 3 else w)
  else s

/-- The entries with JOINED not 0. -/
def State.igmpUsed (s : State) : List Nat := sel 512 (fun n => s.get (R.MEMB_PORTS_JOINED n) != 0)

/-- The refusal of a JOIN (Table 5.9); a port without an address refuses with a RESULT the spec does not state (R136). -/
def State.joinRefusal (s : State) (n : Nat) : Option Nat × State :=
  if 511 < n then (some 5, s)
  else
    let used := s.igmpUsed
    let g := s.get (R.MEMB_GROUP_GROUP n)
    let src := s.get (R.MEMB_SOURCE_SOURCE n)
    let ports := s.get (R.MEMB_PORTS_PORTS n)
    if used.length = 512 then (some 1, s)
    else if ¬ isGroup g ∨ g / 256 = 0xE00000 ∨ ports = 0 then (some 2, s)
    else if used.any (fun m => m != n && s.get (R.MEMB_GROUP_GROUP m) == g && s.get (R.MEMB_SOURCE_SOURCE m) == src
        && (s.get (R.MEMB_PORTS_JOINED m) &&& ports) != 0) then (some 3, s)
    else if (ports.testBit 0 ∧ s.ipOf 0 = 0) ∨ (ports.testBit 1 ∧ s.ipOf 1 = 0) then
      let (k, s) := s.draw
      (some (1 + Config.freeNat k % 6), s)
    else (none, s)

/-- A refused command: RESULT, and the command has ended. -/
def State.igmpRefuse (s : State) (r : Nat) : State := (s.put R.NETC_IGMP_STATUS_RESULT r).raise R.NETC_HFP_EVENT_IGMP_DONE

/-- A write of IGMP_CMD (R154, Table 5.9). -/
def State.igmpCmd (s : State) (w : Word) : State :=
  let op := R.NETC_IGMP_CMD_OP.ofWord w
  let n := R.NETC_IGMP_CMD_INDEX.ofWord w
  if !s.on .flowptp || op == 0 then s
  else if s.flag R.NETC_IGMP_STATUS_BUSY then s.put R.NETC_IGMP_STATUS_RESULT 4
  else if op = 1 then
    match s.joinRefusal n with
    | (some r, s) => s.igmpRefuse r
    | (none, s) =>
      let ports := s.get (R.MEMB_PORTS_PORTS n)
      let s := (s.put (R.MEMB_PORTS_JOINED n) ports).put R.NETC_IGMP_STATUS_RESULT 0
      let s := (s.put R.NETC_IGMP_STATUS_USED s.igmpUsed.length).raise R.NETC_IGMP_STATUS_BUSY
      s.igmpStart
        { leave := false, index := n, group := s.get (R.MEMB_GROUP_GROUP n), source := s.get (R.MEMB_SOURCE_SOURCE n),
          ports, left := s.robust, cmd := true }
  else if op = 2 then
    if 511 < n then s.igmpRefuse 5
    else if s.get (R.MEMB_PORTS_JOINED n) = 0 then s.igmpRefuse 6
    else
      let ports := s.get (R.MEMB_PORTS_JOINED n)
      let s := (s.clr (R.MEMB_PORTS_JOINED n)).put R.NETC_IGMP_STATUS_RESULT 0
      let s := (s.put R.NETC_IGMP_STATUS_USED s.igmpUsed.length).raise R.NETC_IGMP_STATUS_BUSY
      let s := { s with net := { s.net with jobs := s.net.jobs.filter (fun j => j.index != n) } }
      s.igmpStart
        { leave := true, index := n, group := s.get (R.MEMB_GROUP_GROUP n), source := s.get (R.MEMB_SOURCE_SOURCE n),
          ports, left := s.robust, cmd := true }
  else
    let s := s.igmpUsed.foldl (fun s n => forN 2 (fun x s =>
      if s.joinedOn n x then s.igmpReport x 2 (s.get (R.MEMB_GROUP_GROUP n)) (s.get (R.MEMB_SOURCE_SOURCE n)) else s) s) s
    (s.put R.NETC_IGMP_STATUS_RESULT 0).igmpDone

/-- Whether a query concerns a joined group of port `x` (R155). -/
def State.queryMatches (s : State) (x : Nat) (q : IgmpQuery) (n : Nat) : Bool :=
  s.joinedOn n x && (q.group == 0 || s.get (R.MEMB_GROUP_GROUP n) == q.group)
    && (q.sources.isEmpty || s.get (R.MEMB_SOURCE_SOURCE n) == 0 || q.sources.contains (s.get (R.MEMB_SOURCE_SOURCE n)))

/-- A Membership Query (R155): reports become due, and a version 2 query may start the fallback; with QRESP clear neither. -/
def State.igmpQuery (s : State) (x : Nat) (q : IgmpQuery) : State :=
  if !s.on .flowptp || !s.linkIsUp x then s
  else
    let v3 := s.flag (if x = 0 then R.NETC_IGMP_CFG_VER_A else R.NETC_IGMP_CFG_VER_B)
    let s := if q.version = 2 ∧ v3 ∧ s.flag R.NETC_IGMP_CFG_QRESP then
        (s.raise (if x = 0 then R.NETC_IGMP_STATUS_V2_FALLBACK_A else R.NETC_IGMP_STATUS_V2_FALLBACK_B)).raise R.NETC_HFP_EVENT_IGMP_V2
      else s
    if s.flag R.NETC_IGMP_CFG_QRESP && (sel 512 (s.queryMatches x q)) != [] then
      s.setPort x { s.port x with queries := (s.port x).queries ++ [q] }
    else s

/-- The reports answering the oldest pending query are sent on its port (R155). -/
def State.igmpAnswer (s : State) (x : Nat) : State :=
  match (s.port x).queries with
  | [] => s
  | q :: t =>
    let s := s.setPort x { s.port x with queries := t }
    (sel 512 (s.queryMatches x q)).foldl
      (fun s n => s.igmpReport x 2 (s.get (R.MEMB_GROUP_GROUP n)) (s.get (R.MEMB_SOURCE_SOURCE n))) s

/-- The Older Version Querier Present timeout ends (R155). -/
def State.igmpV3Again (s : State) (x : Nat) : State :=
  if s.on .flowptp then
    s.clr (if x = 0 then R.NETC_IGMP_STATUS_V2_FALLBACK_A else R.NETC_IGMP_STATUS_V2_FALLBACK_B)
  else s

/-- NET_C's hidden state goes with FLOWPTP. -/
def State.netcOff (s : State) : State := { s with net := { s.net with held := none, jobs := [], mdioRead := false } }

def execMdioCommand (w : BitVec 32) (s : State) : Result :=
  finish (s.hostPut (R.NETC_MDIO_CMD) w (fun s => s.mdioWrite w))
def execMdioDone (rdata : BitVec 16) (s : State) : Result := finish (s.mdioEnd rdata.toNat)
def execPtpSyncRx (x : Fin 2) (m : PtpMsg) (t : Nat) (s : State) : Result := finish (s.ptpSync x m t)
def execPtpFollowUpRx (x : Fin 2) (m : PtpMsg) (s : State) : Result := finish (s.ptpFollowUp x m)
def execPtpDelayReqRx (x : Fin 2) (m : PtpMsg) (t : Nat) (s : State) : Result := finish (s.ptpDelayReq x m t)
def execPtpDelayRespRx (x : Fin 2) (m : PtpMsg) (s : State) : Result := finish (s.ptpDelayResp x m)
def execPtpAnnounceRx (x : Fin 2) (m : PtpMsg) (t : Nat) (s : State) : Result := finish (s.ptpAnnounce x m t)
def execFollowUpTimeout (x : Fin 2) (s : State) : Result := finish (s.followUpLate x)
def execAnnounceReceiptTimeout (x : Fin 2) (source : Nat) (s : State) : Result := finish (s.annTimeout x source)
def execDelayReqSend (x : Fin 2) (s : State) : Result := finish (s.sendDelayReq x)
def execAnnounceSend (x : Fin 2) (s : State) : Result := finish (s.sendAnnounce x)
def execSyncSend (x : Fin 2) (s : State) : Result := finish (s.sendSync x)
def execPtpRoleWrite (x : Fin 2) (w : BitVec 32) (s : State) : Result :=
  finish (s.hostPut (R.NET_PTP_CFG x) w (fun s => s.ptpCfgWrite x w))
def execPtpRatesWrite (x : Fin 2) (w : BitVec 32) (s : State) : Result :=
  finish (s.hostPut (R.NET_PTP_RATES x) w (fun s => s.ptpRatesWrite x w))
def execHostFrameTx (s : State) : Result := finish s.hfpTx
def execHostFrameLaunch (s : State) : Result := finish s.hfpLaunch
def execTxTimestampCapture (x : Fin 2) (s : State) : Result := finish (s.stampCapture x)
def execIgmpJoin (w : BitVec 32) (s : State) : Result :=
  finish (s.hostPut (R.NETC_IGMP_CMD) (R.NETC_IGMP_CMD_OP.inWord w 1) (fun s => s.igmpCmd (R.NETC_IGMP_CMD_OP.inWord w 1)))
def execIgmpLeave (w : BitVec 32) (s : State) : Result :=
  finish (s.hostPut (R.NETC_IGMP_CMD) (R.NETC_IGMP_CMD_OP.inWord w 2) (fun s => s.igmpCmd (R.NETC_IGMP_CMD_OP.inWord w 2)))
def execIgmpReportAll (w : BitVec 32) (s : State) : Result :=
  finish (s.hostPut (R.NETC_IGMP_CMD) (R.NETC_IGMP_CMD_OP.inWord w 3) (fun s => s.igmpCmd (R.NETC_IGMP_CMD_OP.inWord w 3)))
def execIgmpRepeat (job : Nat) (s : State) : Result := finish (s.igmpRepeat job)
def execIgmpQueryRx (x : Fin 2) (q : IgmpQuery) (s : State) : Result := finish (s.igmpQuery x q)
def execIgmpQueryResponse (x : Fin 2) (s : State) : Result := finish (s.igmpAnswer x)
def execIgmpV2Timeout (x : Fin 2) (s : State) : Result := finish (s.igmpV3Again x)

end Sys2Proof.Machine
end

