-- ==== Sys2Proof/Machine/Flow.lean ====
section
/-!
DEFINITION. Audio flows: commands and refusals, the receive buffer, placement by timestamp, presentation, packet building,
launch and budget (chapter 6). `tx` picks the direction where both have an operation.
-/
namespace Sys2Proof.Machine

/-- The first word of a flow's entry. -/
def flowBase (tx : Bool) (n : Nat) : Nat := if tx then R.FLOW_TX_CFG n else R.FLOW_RX_CFG n

/-- Fields that both directions hold at the same place (Tables 6.9 and 6.10). -/
def fFormat (tx : Bool) (n : Nat) : Field := ⟨flowBase tx n, 1, 0⟩
def fRate (tx : Bool) (n : Nat) : Field := ⟨flowBase tx n, 2, 2⟩
def fPtime (tx : Bool) (n : Nat) : Field := ⟨flowBase tx n, 5, 3⟩
def fChannels (tx : Bool) (n : Nat) : Field := ⟨flowBase tx n, 12, 6⟩
def fPorts (tx : Bool) (n : Nat) : Field := ⟨flowBase tx n, 14, 13⟩
def fChBase (tx : Bool) (n : Nat) : Field := ⟨flowBase tx n + 4, 9, 0⟩
def fDst (tx : Bool) (n x : Nat) : Field := ⟨flowBase tx n + 8 + 4 * x, 31, 0⟩
def fDport (tx : Bool) (n x : Nat) : Field := ⟨flowBase tx n + (if tx then 0x10 else 0x18) + 4 * x, 15, 0⟩
def fSport (tx : Bool) (n x : Nat) : Field := ⟨flowBase tx n + (if tx then 0x10 else 0x18) + 4 * x, 31, 16⟩
def fTimed (tx : Bool) (n : Nat) : Field := ⟨flowBase tx n + 0x2C, 2, 2⟩
def fCommon (tx : Bool) (n : Nat) : Field := ⟨flowBase tx n + 0x2C, 3, 3⟩
def fState (tx : Bool) (n : Nat) : Field := ⟨flowBase tx n + 0x38, 1, 0⟩
def fLate (tx : Bool) (n : Nat) : Field := ⟨flowBase tx n + 0x38, 2, 2⟩
def fResult (tx : Bool) (n : Nat) : Field := ⟨flowBase tx n + 0x38, 6, 4⟩
def fNofade (tx : Bool) (n : Nat) : Field := if tx then R.FLOW_TX_CFG_NOFADE n else R.FLOW_RX_CFG_NOFADE n

/-- A bit of FLOW.EVENT (Table 6.13). -/
def flowEvent (b : Nat) : Field := ⟨R.FLOW_EVENT, b, b⟩

def State.flowState (s : State) (tx : Bool) (n : Nat) : Nat := s.get (fState tx n)

/-- A change of state, with its event (R179). -/
def State.setFlowState (s : State) (tx : Bool) (n v : Nat) : State :=
  if s.flowState tx n = v then s else (s.put (fState tx n) v).raise (flowEvent (if tx then 8 else 0))

/-- The flow's rate in samples per second. -/
def State.flowRate (s : State) (tx : Bool) (n : Nat) : Nat := if s.flag (fRate tx n) then 96000 else 48000

/-- Samples per packet at 48 kHz, by PTIME code (Table 6.2); 0 for a refused code. -/
def ptimeSamples (c : Nat) : Nat := look 0 [(0, 6), (1, 12), (2, 16), (3, 48), (4, 192)] c

/-- P: the samples of a packet. -/
def State.flowP (s : State) (tx : Bool) (n : Nat) : Nat := ptimeSamples (s.get (fPtime tx n)) * (s.flowRate tx n / 48000)

/-- Bytes of a sample on the wire, and stored (R160). -/
def wireBytes (f : Nat) : Nat := if f = 0 then 2 else if f = 1 then 3 else 4
def storedBytes (f : Nat) : Nat := if f = 2 then 4 else 3

/-- The flow-rate index at or after a core index, and the core index of a flow-rate index. -/
def State.toFlow (s : State) (tx : Bool) (n x : Nat) : Nat := (x * s.flowRate tx n + s.rate - 1) / s.rate
def State.toCore (s : State) (tx : Bool) (n q : Nat) : Nat := q * s.rate / s.flowRate tx n

/-- Rounded up to a multiple. -/
def roundUp (m v : Nat) : Nat := (v + m - 1) / m * m

def State.rxf (s : State) (n : Nat) : RxFlow := look {} s.flow.rx n
def State.txf (s : State) (n : Nat) : TxFlow := look {} s.flow.tx n
def State.setRxf (s : State) (n : Nat) (f : RxFlow) : State := { s with flow := { s.flow with rx := upd s.flow.rx n f } }
def State.setTxf (s : State) (n : Nat) (f : TxFlow) : State := { s with flow := { s.flow with tx := upd s.flow.tx n f } }

/-- Whether a flow has been started and has not returned to IDLE. -/
def State.flowUsed (s : State) (tx : Bool) (n : Nat) : Bool := if tx then has s.flow.tx n else has s.flow.rx n

/-- Whether a flow is never faded (R162, R168, R180). -/
def State.noFade (s : State) (tx : Bool) (n : Nat) : Bool := s.get (fFormat tx n) == 2 || s.flag (fNofade tx n)

/-- Pool granules in use (R171, R175). -/
def State.poolUsed (s : State) : Nat :=
  (s.flow.rx.map (fun e => s.get (R.FLOW_RX_BUF_ONCHIP e.1))).sum + (s.flow.tx.map (fun e => e.2.granules)).sum

/-- The DRAM region in 64 KiB granules, used only up to 8 GiB (R173), and what is free of it. -/
def State.rxdramFree (s : State) : Nat :=
  min (s.get R.FLOW_RXDRAM_SIZE_SIZE) (131072 - s.get R.FLOW_RXDRAM_BASE_BASE)
    - (s.flow.rx.map (fun e => s.get (R.FLOW_RX_BUF_DRAM e.1))).sum

/-- Whether any receive flow is spilled to DRAM (R171). -/
def State.anySpilled (s : State) : Bool := s.flow.rx.any (fun e => s.flag (R.FLOW_RX_STATUS_SPILLED e.1))

/-- Bring the free figures of Table 6.13 to the flows. -/
def State.flowShow (s : State) : State :=
  let low (tx : Bool) : Nat := ((List.range 256).find? (fun n => !s.flowUsed tx n)).getD 256
  let s := (s.put R.FLOW_RX_FREE_LOWEST (low false)).put R.FLOW_RX_FREE_ACTIVE (s.flow.rx.filter (fun e => !e.2.allocating)).length
  let s := (s.put R.FLOW_TX_FREE_LOWEST (low true)).put R.FLOW_TX_FREE_ACTIVE (s.flow.tx.filter (fun e => !e.2.allocating)).length
  (s.put R.FLOW_POOL_FREE (3072 - s.poolUsed)).put R.FLOW_RXDRAM_FREE_FREE s.rxdramFree

/-- What both directions refuse with BAD_PARAM (Table 6.7, order 2). -/
def State.flowBad (s : State) (tx : Bool) (n : Nat) : Bool :=
  let fmt := s.get (fFormat tx n)
  let ch := s.get (fChannels tx n)
  let p := s.flowP tx n
  let ports := s.get (fPorts tx n)
  let lim := if s.rate = 96000 then 512 else 1024
  let named := sel 2 (fun x => ports.testBit x)
  fmt == 3 || p == 0 || ch == 0 || decide (64 < ch) || decide (1460 < ch * p * wireBytes fmt) || ports == 0
    || decide (lim < s.get (fChBase tx n) + ch)
    || named.any (fun x => s.get (fDst tx n x) == 0 || [0, 319, 320].contains (s.get (fDport tx n x)))
    || (fmt == 2 && s.flowRate tx n != s.rate)

/-- The destination MAC of a transmit flow on a port (R177). -/
def State.flowMac (s : State) (n x : Nat) : Nat :=
  let d := s.get (fDst true n x)
  if isGroup d then groupMac d
  else (if x = 0 then s.get (R.FLOW_TX_DMAC_HI_DMAC_A_HI n) else s.get (R.FLOW_TX_DMAC_HI_DMAC_B_HI n)) * 2 ^ 32
    + (if x = 0 then s.get (R.FLOW_TX_DMAC_A_LO_DMAC_LO n) else s.get (R.FLOW_TX_DMAC_B_LO_DMAC_LO n))

/-- Another flow of the direction in use shares a port, DST and DPORT; for receive the filters must overlap (Table 6.7). -/
def State.flowConflict (s : State) (tx : Bool) (n : Nat) : Bool :=
  (List.range 256).any (fun m => m != n && s.flowUsed tx m && (sel 2 (fun x =>
    (s.get (fPorts tx n)).testBit x && (s.get (fPorts tx m)).testBit x && s.get (fDst tx n x) == s.get (fDst tx m x)
      && s.get (fDport tx n x) == s.get (fDport tx m x)
      && (tx ||
        (let a := s.get ⟨R.FLOW_RX_SRC_A n + 4 * x, 31, 0⟩
         let b := s.get ⟨R.FLOW_RX_SRC_A m + 4 * x, 31, 0⟩
         let c := s.get (fSport tx n x)
         let d := s.get (fSport tx m x)
         (a == b || a == 0 || b == 0) && (c == d || c == 0 || d == 0))))) != [])

/-- Another flow of the direction in use shares a channel ID (Table 6.7). -/
def State.flowOverlap (s : State) (tx : Bool) (n : Nat) : Bool :=
  let a := s.get (fChBase tx n)
  let c := s.get (fChannels tx n)
  (List.range 256).any (fun m => m != n && s.flowUsed tx m
    && decide (a < s.get (fChBase tx m) + s.get (fChannels tx m)) && decide (s.get (fChBase tx m) < a + c))

/-- A receive flow's buffer: depth D, and its on-chip granules, staging granules and DRAM granules (R171). -/
def State.rxDepth (s : State) (n : Nat) : Nat := roundUp 16 (s.get (R.FLOW_RX_OFFSET_OFFSET n) + 2 * s.flowP false n)

def State.rxBytes (s : State) (n depth : Nat) : Nat :=
  s.get (fChannels false n) * storedBytes (s.get (fFormat false n)) * depth

def granules (unit b : Nat) : Nat := (b + unit - 1) / unit

/-- Where the buffer goes: whether it is spilled, its pool granules and its DRAM granules (R171). -/
def State.rxPlace (s : State) (n : Nat) : Bool × Nat × Nat :=
  let chip := granules 1024 (s.rxBytes n (s.rxDepth n))
  let mode := s.get (R.FLOW_RX_CFG_BUF_MODE n)
  if mode = 0 ∨ (mode = 1 ∧ chip ≤ 3072 - s.poolUsed) then (false, chip, 0)
  else (true, granules 1024 (s.rxBytes n (roundUp 16 (2 * s.flowP false n + 64))), granules 65536 (s.rxBytes n (s.rxDepth n)))

/-- The RESULT of a receive START (Table 6.7). -/
def State.rxResult (s : State) (n : Nat) : Nat :=
  let ofs := s.get (R.FLOW_RX_OFFSET_OFFSET n)
  let pl := s.rxPlace n
  if s.flowUsed false n then 6
  else if s.flowBad false n ∨ s.get (R.FLOW_RX_CFG_BUF_MODE n) = 3 ∨ ofs < s.flowP false n ∨ s.flowRate false n < ofs then 1
  else if s.flowConflict false n then 2
  else if s.flowOverlap false n then 3
  else if 3072 - s.poolUsed < pl.2.1 then 4
  else if pl.1 ∧ (¬ s.on .memc ∨ s.rxdramFree < pl.2.2) then 5
  else 0

/-- Packets per second by PTIME code (R178). -/
def ptimePps (c : Nat) : Nat := look 0 [(0, 8000), (1, 4000), (2, 3000), (3, 1000), (4, 250)] c

/-- A transmit flow's cost on a port in kb/s (R178). -/
def State.txCost (s : State) (n x : Nat) : Nat :=
  if (s.get (fPorts true n)).testBit x then
    let pay := s.get (fChannels true n) * s.flowP true n * wireBytes (s.get (fFormat true n))
    let w := pay + 12 + 8 + 20 + 14 + 4 + 8 + 12 + (if s.flag (R.NET_VLAN_TAG_EN x) then 4 else 0)
    (w * 8 * ptimePps (s.get (fPtime true n)) + 999) / 1000
  else 0

/-- The cost in use on a port in kb/s. -/
def State.costUsed (s : State) (x : Nat) : Nat := (s.flow.tx.map (fun e => if x = 0 then e.2.costA else e.2.costB)).sum

/-- A port's data rate in kb/s (Table 5.1), and what its budget admits (R178). -/
def State.dataRate (s : State) (x : Nat) : Nat := look 1000000 [(2, 2500000), (3, 10000000)] (s.get (R.NET_CTRL_MODE x))

def State.budgetLimit (s : State) (x : Nat) : Nat :=
  min (s.get (if x = 0 then R.NETC_BUDGET_A_LIMIT else R.NETC_BUDGET_B_LIMIT) * 1000) (s.dataRate x * 9 / 10)

/-- BUDGET_x.USED reads the charged total rounded up to Mb/s (R178). -/
def State.budgetShow (s : State) : State :=
  (s.put R.NETC_BUDGET_A_USED ((s.costUsed 0 + 999) / 1000)).put R.NETC_BUDGET_B_USED ((s.costUsed 1 + 999) / 1000)

/-- The staging of a transmit flow in pool granules (R175). -/
def State.txGranules (s : State) (n : Nat) : Nat :=
  granules 1024 (s.get (fChannels true n) * storedBytes (s.get (fFormat true n)) * roundUp 16 (2 * s.flowP true n + 16))

/-- The RESULT of a transmit START (Table 6.7). -/
def State.txResult (s : State) (n : Nat) : Nat :=
  let named := sel 2 (fun x => (s.get (fPorts true n)).testBit x)
  if s.flowUsed true n then 6
  else if s.flowBad true n ∨ named.any (fun x => s.ipOf x == 0 || (!isGroup (s.get (fDst true n x)) && s.flowMac n x == 0))
      ∨ s.flowP true n * 10000000 ≤ s.get (R.FLOW_TX_SEQ_LAUNCH_DLY n) * s.flowRate true n then 1
  else if s.flowConflict true n then 2
  else if s.flowOverlap true n then 3
  else if named.any (fun x => decide (s.budgetLimit x < s.costUsed x + s.txCost n x)) then 7
  else if 3072 - s.poolUsed < s.txGranules n then 4
  else 0

/-- The index of a timed command, and whether it has passed (R180). -/
def State.flowAt (s : State) (tx : Bool) (n : Nat) : Nat := s.get64 (flowBase tx n + 0x30) (flowBase tx n + 0x34)

def State.flowPassed (s : State) (tx : Bool) (n : Nat) : Bool := s.passed (s.flowAt tx n)

/-- STATUS.LATE and its event for an accepted command (R180). -/
def State.flowLate (s : State) (tx : Bool) (n : Nat) (late : Bool) : State :=
  let s := s.put (fLate tx n) (toBit late)
  if late then s.raise (flowEvent (if tx then 10 else 2)) else s

/-- A refused command (R181). -/
def State.flowRefuse (s : State) (tx : Bool) (n r : Nat) : State :=
  (s.put (fResult tx n) r).raise (flowEvent (if tx then 9 else 1))

/-- Command START (R180, R181). -/
def State.flowStart (s : State) (tx : Bool) (n : Nat) : State :=
  let r := if tx then s.txResult n else s.rxResult n
  if r ≠ 0 then s.flowRefuse tx n r
  else
    let common := s.flag (fCommon tx n)
    let timed := s.flag (fTimed tx n) && !common
    let late := timed && s.flowPassed tx n
    let at_ := s.toFlow tx n (if !timed then s.cmdBoundary else if late then s.nextBoundary else s.flowAt tx n)
    let start := if common then none else some at_
    let s := (s.put (fResult tx n) 0).flowLate tx n late
    let s :=
      if tx then
        let cA := s.txCost n 0
        let cB := s.txCost n 1
        let s := s.setTxf n { start, timed, common, granules := s.txGranules n, costA := cA, costB := cB }
        (s.put (R.FLOW_TX_STATUS_COST n) ((max cA cB + 999) / 1000)).budgetShow
      else
        let pl := s.rxPlace n
        let s := s.setRxf n { start, timed, common }
        ((s.put (R.FLOW_RX_BUF_ONCHIP n) pl.2.1).put (R.FLOW_RX_BUF_DRAM n) pl.2.2).put (R.FLOW_RX_STATUS_SPILLED n) (toBit pl.1)
    s.flowShow

/-- A channel-status capture ends: ARM clears and CS_DONE is set (R162). -/
def State.csEnd (s : State) (valid : Bool) : State :=
  let s := (s.clr R.FLOW_CS_CAP_ARM).put R.FLOW_CS_CAP_VALID (toBit valid)
  ({ s with flow := { s.flow with csBits := none } }).raise (flowEvent 7)

/-- Whether a capture waits on receive flow `n`. -/
def State.csWaits (s : State) (n : Nat) : Bool := s.flag R.FLOW_CS_CAP_ARM && s.get R.FLOW_CS_CAP_FLOW == n

/-- The start index when allocation completes: a timed one that has passed meanwhile is applied late, at the next boundary (R180). -/
def State.startDue (s : State) (tx : Bool) (n : Nat) (timed : Bool) (start : Option Nat) : Option Nat × State :=
  match start with
  | none => (none, s)
  | some st =>
    if timed && s.passed (s.toCore tx n st) then
      (some (s.toFlow tx n s.nextBoundary), if s.flag (fLate tx n) then s else s.flowLate tx n true)
    else if timed then (some st, s)
    else (some (max st (s.toFlow tx n s.nextBoundary)), s)

/-- Allocation completes: the flow enters ARMED (R165, R179). A capture that waits on a flow that is not AM824 ends (R162). -/
def State.flowArm (s : State) (tx : Bool) (n : Nat) : State :=
  if !s.on .flowptp then s
  else if tx then
    let t := s.txf n
    if has s.flow.tx n && t.allocating then
      let (start, s) := s.startDue true n t.timed t.start
      let seed := (s.rd R.FLOW_DITHER_SEED).toNat
      let done := s.toFlow true n s.audio.first
      let s := s.setTxf n { t with allocating := false, start, done, lfsr := if seed = 0 then 1 else seed }
      ((s.put (R.FLOW_TX_SEQ_NOW_NEXT n) (s.get (R.FLOW_TX_SEQ_SEQ_INIT n))).setFlowState true n 1).flowShow
    else s
  else
    let t := s.rxf n
    if has s.flow.rx n && t.allocating then
      let (start, s) := s.startDue false n t.timed t.start
      let s := if s.csWaits n && s.get (fFormat false n) != 2 then s.csEnd false else s
      let s := s.setRxf n { t with allocating := false, start, f := s.toFlow false n s.nextBoundary }
      (s.setFlowState false n 1).flowShow
    else s

/-- A flow returns to IDLE: its buffer, staging and budget are returned (R179). -/
def State.flowToIdle (s : State) (tx : Bool) (n : Nat) : State :=
  if tx then
    let s := { s with flow := { s.flow with tx := del s.flow.tx n } }
    (((s.clr (R.FLOW_TX_STATUS_COST n)).setFlowState true n 0).budgetShow).flowShow
  else
    let s := { s with flow := { s.flow with rx := del s.flow.rx n } }
    let s := (s.clr (R.FLOW_RX_BUF_ONCHIP n)).clr (R.FLOW_RX_BUF_DRAM n)
    let s := ((s.clr (R.FLOW_RX_STATUS_SPILLED n)).clr (R.FLOW_RX_STATUS_RX_A n)).clr (R.FLOW_RX_STATUS_RX_B n)
    let s := if s.csWaits n && s.flowState false n != 1 then s.csEnd false else s
    ((s.clr (R.FLOW_RX_STATUS_SYNC_ERR n)).setFlowState false n 0).flowShow

/-- Command STOP (R180, R181, Table 6.6). -/
def State.flowStop (s : State) (tx : Bool) (n : Nat) : State :=
  let st := s.flowState tx n
  if st = 3 then s.flowRefuse tx n 6
  else
    let s := s.put (fResult tx n) 0
    if !s.flowUsed tx n then s
    else if st ≠ 2 then
      let s := s.flowLate tx n false
      if tx then s.setTxf n { s.txf n with cancelled := true } else s.setRxf n { s.rxf n with cancelled := true }
    else
      let timed := s.flag (fTimed tx n)
      let late := timed && s.flowPassed tx n
      let s := (s.flowLate tx n late).setFlowState tx n 3
      let s := if !tx && s.csWaits n then s.csEnd false else s
      let nb := s.toFlow tx n (if late then s.nextBoundary else s.cmdBoundary)
      let len := if s.noFade tx n then 0 else 64
      if tx then
        let t := s.txf n
        let p := s.flowP true n
        if timed && !late then
          let e := max (s.toFlow tx n (s.flowAt tx n) / p * p) (roundUp p t.done)
          s.setTxf n { t with stop := some e, fadeFrom := max (e - len) t.done, fadeTo := e }
        else
          s.setTxf n { t with stop := some (roundUp p (nb + len)), fadeFrom := nb, fadeTo := nb + len }
      else
        let t := s.rxf n
        if timed && !late then
          let e := s.toFlow tx n (s.flowAt tx n)
          s.setRxf n { t with stop := some e, fadeFrom := max (e - len) t.f }
        else s.setRxf n { t with stop := some (nb + len), fadeFrom := nb }

/-- Zero a flow's counters and their WRAP bits (R180). -/
def State.flowClear (s : State) (tx : Bool) (n : Nat) : State :=
  if tx then (forN 3 (fun k s => s.wr (R.FLOW_TXC_PKT n + 4 * k) 0) s).wr (R.FLOW_TXC_WRAP n) 0
  else (forN 14 (fun k s => s.wr (R.FLOW_RXC_CNT n k) 0) s).wr (R.FLOW_RXC_WRAP n) 0

/-- A write of a flow's CTRL. -/
def State.flowCtrlWrite (s : State) (tx : Bool) (n : Nat) (w : Word) : State :=
  if s.on .flowptp then
    let s := s.wr (flowBase tx n + 0x2C) (w &&& 0xC)
    let s := if bitOf w.toNat 4 then s.flowClear tx n else s
    let cmd := w.toNat % 4
    if cmd = 1 then s.flowStart tx n else if cmd = 2 then s.flowStop tx n else s
  else s

/-- A write of a flow's configuration words, ignored while the flow is not IDLE (R182). -/
def State.flowCfgWrite (s : State) (tx : Bool) (n a : Nat) (w mask : Word) : State :=
  if s.on .flowptp then
    if s.flowUsed tx n then s.raise (flowEvent (if tx then 13 else 6)) else s.wr a (w &&& mask)
  else s

/-- A write of RXDRAM_BASE or RXDRAM_SIZE, ignored while any flow is spilled (R173). -/
def State.rxdramWrite (s : State) (a : Nat) (w mask : Word) : State :=
  if s.on .flowptp then
    if s.anySpilled then s.raise (flowEvent 6) else (s.wr a (w &&& mask)).flowShow
  else s

/-! Receiving (R163 to R170) -/

/-- A receive flow's counter, modulo 2^32, with its WRAP bit and RX CNT_WRAP (Table 6.11). -/
def State.rxCount (s : State) (n k by_ : Nat) : State :=
  let f := R.FLOW_RXC_CNT_COUNT n k
  let v := s.get f + by_
  let s := s.put f v
  if 2 ^ 32 ≤ v then (s.raise ((R.FLOW_RXC_WRAP_WRAP n).bit k)).raise (flowEvent 5) else s

/-- Whether a packet on port `x` matches receive flow `n` (R163). -/
def State.rxMatches (s : State) (x : Nat) (p : RtpPacket) (n : Nat) : Bool :=
  s.flowState false n != 0 && (s.get (fPorts false n)).testBit x && p.dst == s.get (fDst false n x)
    && p.dport == s.get (fDport false n x)
    && (let a := s.get ⟨R.FLOW_RX_SRC_A n + 4 * x, 31, 0⟩; a == 0 || a == p.src)
    && (let b := s.get (fSport false n x); b == 0 || b == p.sport)

/-- The flow a packet matches (Table 5.3, row 4). -/
def State.rxFind (s : State) (x : Nat) (p : RtpPacket) : Option Nat := (s.flow.rx.map (·.1)).find? (s.rxMatches x p)

/-- What a sequence number does to a port's counters (R166): counts as (kind, amount), the port after it, and whether the
packet goes on. Kinds: 0 LOST, 1 REORDER, 2 DUP, 3 RESTART. -/
def seqStep (q : RxSeq) (seq : Nat) : List (Nat × Nat) × RxSeq × Bool :=
  match q.high with
  | none => ([], { high := some seq, hist := 0 }, true)
  | some h =>
    let d := (seq + 65536 - h) % 65536
    if 1 ≤ d ∧ d ≤ 1024 then
      ([(0, d - 1)], { high := some seq, hist := ((q.hist <<< d) ||| 2 ^ (d - 1)) % 2 ^ 64 }, true)
    else if 1025 ≤ d ∧ d ≤ 32767 then ([(3, 1)], { high := some seq, hist := 0 }, true)
    else if d = 0 then ([(2, 1)], q, false)
    else if 65472 ≤ d then
      let b := 65536 - d - 1
      if q.hist.testBit b then ([(2, 1)], q, false) else ([(1, 1)], { q with hist := q.hist ||| 2 ^ b }, true)
    else ([(1, 1)], q, true)

/-- The words of one sample of a payload. -/
def sampleWords (payload : List (BitVec 8)) (ch wb k : Nat) : List Nat :=
  (List.range ch).map (fun c => beAt payload ((k * ch + c) * wb) wb)

def State.rxMon (s : State) (n : Nat) : RxMon := look {} s.flow.mons n

/-- The monitor's figures after an accepted packet that arrived at `t` with a margin of `m` samples (R170); `other` is the arrival of its
other copy. A pair counts in the second of its later copy. -/
def monPacket (k : RxMon) (x t : Nat) (other : Option Nat) (late : Bool) (m : Option Nat) : RxMon :=
  let skew := match other with
    | some a => max k.skew (min 0xFFFF ((max t a - min t a) / 65536000))
    | none => k.skew
  let margin := match m with
    | some m => some (min m (k.margin.getD 0xFFFF))
    | none => k.margin
  { seenA := k.seenA || x == 0, seenB := k.seenB || x == 1, skew, margin, late := k.late || late }

/-- A matched packet (R164 to R167, R169, R170). Any shows that its port delivers. -/
def State.rxPacket (s : State) (n x : Nat) (p : RtpPacket) (t : Nat) : State :=
  let s := s.raise (if x = 0 then R.FLOW_RX_STATUS_RX_A n else R.FLOW_RX_STATUS_RX_B n)
  let fmt := s.get (fFormat false n)
  let ch := s.get (fChannels false n)
  let np := s.flowP false n
  let wb := wireBytes fmt
  let bad := p.version != 2 || p.pt != s.get (R.FLOW_RX_CFG_PT n)
    || (s.flag (R.FLOW_RX_CFG_SSRC_EN n) && p.ssrc != s.get (R.FLOW_RX_SSRC_SSRC n)) || p.payload.length != ch * np * wb
  if bad then s.rxCount n 10 1
  else
    let f := s.rxf n
    let r := seqStep (if x = 0 then f.sa else f.sb) p.seq
    let s := r.1.foldl (fun s e =>
      s.rxCount n (if e.1 = 0 then 2 + x else if e.1 = 1 then 4 + x else if e.1 = 2 then 6 + x else 11) e.2) s
    let f := if x = 0 then { f with sa := r.2.1 } else { f with sb := r.2.1 }
    if !r.2.2 then s.setRxf n f
    else
      let s := s.rxCount n x 1
      let ofs := s.get (R.FLOW_RX_OFFSET_OFFSET n)
      let d := sgn 32 (unsgn 32 ((p.ts : Int) - s.get (R.FLOW_RX_TS_OFS_TS_OFS n) - ((f.f : Int) - ofs)))
      let early := decide ((s.rxDepth n : Int) < d + np)
      let late := !early && decide (d < 0)
      let q : Int := f.f + d
      let slots := if early then f.slots else
        (List.range np).foldl (fun l (k : Nat) =>
          let i := q + (k : Int)
          if (f.f : Int) ≤ i ∧ ¬ has l i.toNat then upd l i.toNat (sampleWords p.payload ch wb k) else l) f.slots
      let other := (f.arrivals.find? (fun a => a.1 == p.seq && a.2.1 != x)).map (·.2.2)
      let arrivals := (f.arrivals.filter (fun a => decide (t < a.2.2 + 65536000000000))) ++ [(p.seq, x, t)]
      let frame := s.toCore false n q.toNat / 8 * 8 * 65536000000000 / s.rate
      let m := min 0xFFFF ((frame - t) * s.flowRate false n / 65536000000000)
      let off := early || late
      let mon := monPacket (s.rxMon n) x t other late (if off then none else some m)
      let s : State := { s with flow := { s.flow with mons := upd s.flow.mons n mon } }
      let f : RxFlow :=
        { f with slots, arrivals, bad := if off then f.bad + 1 else 0, good := if off then 0 else f.good + 1 }
      let s := if early then s.rxCount n 9 1 else if late then s.rxCount n 8 1 else s
      let s := s.setRxf n f
      if f.bad = 8 ∧ ¬ s.flag (R.FLOW_RX_STATUS_SYNC_ERR n) then (s.raise (R.FLOW_RX_STATUS_SYNC_ERR n)).raise (flowEvent 4)
      else if 8 ≤ f.good then s.clr (R.FLOW_RX_STATUS_SYNC_ERR n) else s

/-- A packet reaches the flow engine on port `x`: true where it matches a flow. -/
def State.flowRx (s : State) (x : Nat) (p : RtpPacket) (t : Nat) : Bool × State :=
  if s.on .flowptp then
    match s.rxFind x p with
    | some n => (true, s.rxPacket n x p t)
    | none => (false, s)
  else (false, s)

/-- No matched packet on a port for 4 packet times (R167). -/
def State.rxSilent (s : State) (n x : Nat) : State :=
  if s.on .flowptp then s.clr (if x = 0 then R.FLOW_RX_STATUS_RX_A n else R.FLOW_RX_STATUS_RX_B n) else s

/-- Once per second MON takes the figures of the second just ended (R170). -/
def State.rxMonitor (s : State) (n : Nat) : State :=
  if s.on .flowptp then
    let k := s.rxMon n
    let s := s.put (R.FLOW_RXC_MON_SKEW n) (if k.seenA && k.seenB then k.skew else 0)
    let s := s.put (R.FLOW_RXC_MON_MARGIN n) (if k.late then 0 else k.margin.getD 0xFFFF)
    { s with flow := { s.flow with mons := del s.flow.mons n } }
  else s

/-- A received word as a sample (R160, R162). -/
def wordSample (fmt w : Nat) : F32 := if fmt = 0 then fofScaled (sgn 16 w) 15 else fofScaled (sgn 24 w) 23

/-- How a flow presents: its format, channels, whether missing slots fade, and whether starts and stops fade. -/
structure RxMode where
  fmt : Nat
  ch : Nat
  missFade : Bool
  fade : Bool

/-- The factor of a stop fade at index `q`, from `k0` on, to zero before `e` (R180). -/
def stopFade (k0 e q : Nat) (xs : List F32) : List F32 :=
  if k0 ≤ q then xs.map (fun x => (fmul x (fratio (e - q - 1) (e - k0))).v) else xs

/-- One flow-rate index of presentation (R168, R180): the row of samples, the flow after it, and the counts of missing and of
late DRAM slots. `last` is the row last presented with data, all fades in it; a miss fades from there, and a stop fade that begins
or goes on during it takes what is left (log entry 285). -/
def rxRow (m : RxMode) (q : Nat) (f : RxFlow) : List F32 × RxFlow × Nat × Nat :=
  let zeros := List.replicate m.ch (0 : F32)
  let live := match f.start with
    | some st => !f.cancelled && decide (st ≤ q) && (match f.stop with | some e => decide (q < e) | none => true)
    | none => false
  let held := (f.slots.find? (fun e => e.1 == q)).map (·.2)
  let lateD := f.dramLate.contains q && held.isSome
  let slot := if lateD then none else held
  let f := { f with slots := del f.slots q, dramLate := dropFrom f.dramLate q, f := q + 1 }
  let stops (k0 : Nat) (xs : List F32) : List F32 :=
    match f.stop with
    | some e => if m.fade then stopFade k0 e q xs else xs
    | none => xs
  if !live then (zeros, f, 0, 0)
  else
    match slot with
    | some ws =>
      let xs := ws.map (wordSample m.fmt)
      let ret := if 0 < f.miss then some 0 else f.ret
      let (xs, ret) : List F32 × Option Nat := match ret with
        | some k => (xs.map (fun x => (fmul x (fadeIn64 k)).v), if 64 ≤ k + 1 then none else some (k + 1))
        | none => (xs, none)
      let st := f.start.getD q
      let xs := if m.fade ∧ q < st + 64 then xs.map (fun x => (fmul x (fadeIn64 (q - st))).v) else xs
      let xs := stops f.fadeFrom xs
      (xs, { f with miss := 0, ret, last := xs }, 0, 0)
    | none =>
      if m.missFade then
        let xs := f.last.map (fun x => (fmul x (fadeOut64 f.miss)).v)
        (stops (max f.fadeFrom (q - f.miss)) xs, { f with miss := f.miss + 1 }, toBit !lateD, toBit lateD)
      else (zeros, { f with last := zeros }, toBit !lateD, toBit lateD)

/-- Several indexes of presentation. -/
def rxRows (m : RxMode) : Nat → Nat → RxFlow → List (List F32) × RxFlow × Nat × Nat
  | 0, _, f => ([], f, 0, 0)
  | k + 1, q, f =>
    let a := rxRow m q f
    let b := rxRows m k (q + 1) a.2.1
    (a.1 :: b.1, b.2.1, a.2.2.1 + b.2.2.1, a.2.2.2 + b.2.2.2)

/-- The C bits of received words, from the first B bit on (R162): AM824 label bits B at 29 and C at 26 (log entry 36). -/
def csCollect (acc : Option (List Bool)) : List Nat → Option (List Bool)
  | [] => acc
  | w :: t =>
    match acc with
    | none => if w.testBit 29 then csCollect (some [w.testBit 26]) t else csCollect none t
    | some l => csCollect (some (if l.length < 192 then l ++ [w.testBit 26] else l)) t

/-- Feed the capture with the words presented, and end it when the block is complete (R162). -/
def State.csFeed (s : State) (ws : List Nat) : State :=
  match csCollect s.flow.csBits ws with
  | some l =>
    if l.length = 192 then
      let v := (List.range 192).foldl (fun a j => if (l[j]?).getD false then a + 2 ^ j else a) 0
      (forN 6 (fun k s => s.wr (R.FLOW_CS k) (BitVec.ofNat 32 (v >>> (32 * k)))) s).csEnd true
    else { s with flow := { s.flow with csBits := some l } }
  | none => s

/-- A receive flow presents the slots of the engine frame that begins (R168). -/
def State.rxPresent (s : State) (n : Nat) : State :=
  let f := s.rxf n
  if f.allocating then s
  else
    let core := s.rate
    let fr := s.flowRate false n
    let q0 := f.f
    let q1 := s.toFlow false n (s.audio.first + s.audio.len)
    let fmt := s.get (fFormat false n)
    let ch := s.get (fChannels false n)
    let base := s.get (fChBase false n)
    let nf := s.noFade false n
    let m : RxMode := { fmt, ch, missFade := s.flag (R.FLOW_RX_CFG_MISS n) && !nf, fade := !nf }
    let due := List.range' q0 (q1 - q0)
    let f := if s.flag (R.FLOW_RX_STATUS_SPILLED n) && s.get R.MEM_STATUS_STATE != 2 then
        { f with dramLate := due.foldl addTo f.dramLate } else f
    let r := rxRows m (q1 - q0) q0 (if f.last.isEmpty then { f with last := List.replicate ch 0 } else f)
    let past := ((due.zip r.1).reverse ++ f.past).take 64
    let heard := match f.start with
      | some st => !f.cancelled && decide (st < q1) && (match f.stop with | some e => decide (q0 < e) | none => true)
      | none => false
    let s := s.setRxf n { r.2.1 with past }
    let s := if 0 < r.2.2.1 then s.rxCount n 12 r.2.2.1 else s
    let s := if 0 < r.2.2.2 then s.rxCount n 13 r.2.2.2 else s
    let s := if 0 < r.2.2.1 + r.2.2.2 then s.raise (flowEvent 3) else s
    let s := if s.csWaits n && fmt == 2 && s.flowState false n == 2 then
        s.csFeed (((List.range (q1 - q0)).filterMap (fun k => (f.slots.find? (fun e => e.1 == q0 + k)).map
          (fun e => (e.2[s.get R.FLOW_CS_CAP_CHANNEL]?).getD 0)))) else s
    if !heard then s
    else if fr = core then
      forN ch (fun c s => s.present (base + c) (r.1.map (fun row => (row[c]?).getD 0))) s
    else
      forN ch (fun c s => s.present (base + c) ((List.range s.audio.len).map (fun j =>
        resample fr core (fun q => ((look [] past q)[c]?).getD 0) (s.audio.first + j)))) s

/-- A receive buffer read that completes late (R168, R237): a spilled flow's slots due in the frame that begins next count as late. Which
flow, and which of those slots beside the first, are free values (log entry 286). -/
def State.rxReadLate (s : State) : State :=
  let l := (s.flow.rx.map (·.1)).filter (fun n => s.flag (R.FLOW_RX_STATUS_SPILLED n))
  if l.isEmpty then s
  else
    let (k, s) := s.draw
    let n := (l[Config.freeNat k % l.length]?).getD 0
    let f := s.rxf n
    let due := (List.range' f.f (s.toFlow false n (s.nextBoundary + 8) - f.f)).filter (fun q =>
      q == f.f || (Config.freeWord k).toNat.testBit (q - f.f))
    s.setRxf n { f with dramLate := due.foldl addTo f.dramLate }

/-! Sending (R174 to R178) -/

/-- Two steps of a dither generator: its state after them and the sum of the two states (R480). -/
def tpdf (g : Nat) : Nat × Nat :=
  let step (v : Nat) : Nat := if v % 2 = 1 then (v / 2) ^^^ 0x80200003 else v / 2
  let a := step g
  let b := step a
  (b, a + b)

/-- round(x × 2^n + dither), ties to even; `sum` is the sum of two generator states (R160, R480). -/
def ditherRound (x : F32) (n sum : Nat) : Int :=
  let o := fop x
  if o.e + n ≥ 20 ∧ o.m ≠ 0 then fscaled x n
  else
    let k : Nat := max 32 (-(o.e + n)).toNat
    let v : Int := (o.m <<< (o.e + n + k).toNat : Nat)
    let d : Int := ((sum : Int) - 2 ^ 32) * 2 ^ (k - 32)
    let t := (if o.neg then -v else v) + d
    let r : Int := rneShift t.natAbs k
    if t < 0 then -r else r

/-- The AM824 label of a sample (R162): bits 0 0 B F P C U V; F marks even channels (log entry 36). -/
def amLabel (i c : Nat) (cbit : Bool) (audio : Nat) : Nat :=
  let ones := ((List.range 24).filter audio.testBit).length + toBit cbit
  (if i % 192 = 0 then 0x20 else 0) + (if c % 2 = 0 then 0x10 else 0) + (if ones % 2 = 1 then 8 else 0) + (if cbit then 4 else 0)

/-- One sample of a transmit flow as bytes: the bytes, the generator after it, and whether it saturated (R160, R162). -/
def State.txSample (s : State) (n i c g : Nat) (x : F32) : List (BitVec 8) × Nat × Bool :=
  let fmt := s.get (fFormat true n)
  let bits := if fmt = 0 then 15 else 23
  let dith := s.flag (R.FLOW_TX_CFG_DITHER n) && fmt != 2
  let (g', sum) := if dith then tpdf g else (g, 0)
  let v := if dith then ditherRound x bits sum else fscaled x bits
  let (w, sat) := satI (-(2 ^ bits)) (2 ^ bits - 1) v
  let u := unsgn (bits + 1) w
  if fmt = 2 then
    let j := i % 192
    let cbit := (s.rd (R.FLOW_CS_TPL (s.get (R.FLOW_TX_CFG_CS_TPL n)) (j / 32))).toNat.testBit (j % 32)
    (beBytes 1 (amLabel i c cbit u) ++ beBytes 3 u, g', sat)
  else (beBytes (wireBytes fmt) u, g', sat)

/-- A transmit sample's fades (R180). -/
def txFade (t : TxFlow) (p0 i : Nat) (x : F32) : F32 :=
  let x := if i < p0 + 64 then (fmul x (fadeIn64 (i - p0))).v else x
  match t.stop with
  | some _ =>
    if t.fadeTo ≤ i then 0
    else if t.fadeFrom ≤ i then (fmul x (fratio (t.fadeTo - i - 1) (t.fadeTo - t.fadeFrom))).v else x
  | none => x

/-- Take flow-rate index `i`, whose sink samples are `xs`, into the packet being filled; a full packet is built (R174, R176). -/
def State.txTake (s : State) (n i : Nat) (xs : List F32) : State :=
  let t := s.txf n
  let p := s.flowP true n
  match t.start with
  | none => s.setTxf n { t with done := i + 1 }
  | some st =>
    let p0 := roundUp p st
    let past := match t.stop with
      | some e => decide (e ≤ i)
      | none => false
    if i < p0 || past || t.cancelled then s.setTxf n { t with done := i + 1 }
    else
      let xs := if s.noFade true n then xs else xs.map (txFade t p0 i)
      let r := (List.range xs.length).foldl
        (fun (a : List (BitVec 8) × Nat × Nat) c =>
          let e := s.txSample n i c a.2.1 ((xs[c]?).getD 0)
          (a.1 ++ e.1, e.2.1, a.2.2 + toBit e.2.2))
        (if i % p = 0 then [] else t.part, t.lfsr, 0)
      let s := if 0 < r.2.2 then (s.txCount n 2 r.2.2).raise (flowEvent 14) else s
      let s := s.setTxf n { t with done := i + 1, part := r.1, lfsr := r.2.1 }
      if (i + 1) % p = 0 then
        let seq := s.get (R.FLOW_TX_SEQ_NOW_NEXT n)
        let frame := (8 * 65536000000000 : Nat) / s.rate
        let launch := (i + 1) * 65536000000000 / s.flowRate true n + frame + 5000 * 65536
          + s.get (R.FLOW_TX_SEQ_LAUNCH_DLY n) * 100 * 65536
        let k : TxPacket := { first := i + 1 - p, seq, payload := r.1, launch }
        let s := { s with flow := { s.flow with launches := s.flow.launches ++ [(n, k)] } }
        (s.put (R.FLOW_TX_SEQ_NOW_NEXT n) (seq + 1)).txCount n 0 1
      else s

/-- At a boundary a transmit flow reads the frame that has just ended (R175). -/
def State.txRead (s : State) (n : Nat) : State :=
  let t := s.txf n
  if t.allocating then s
  else
    let base := s.get (fChBase true n)
    let ch := s.get (fChannels true n)
    let q1 := s.toFlow true n (s.audio.first + s.audio.len)
    let fr := s.flowRate true n
    let same := fr == s.rate
    let row (j : Nat) : List F32 := (List.range ch).map (fun c => ((s.sinkNow (base + c))[j]?).getD 0)
    let rows := (List.range s.audio.len).map (fun j => (s.audio.first + j, row j))
    let past := if same then [] else (rows.reverse ++ t.past).take 64
    (List.range (q1 - t.done)).foldl (fun s k =>
      let i := t.done + k
      s.txTake n i (if same then row (i - s.audio.first)
        else (List.range ch).map (fun c => resample s.rate fr (fun x => ((look [] past x)[c]?).getD 0) i)))
      (s.setTxf n { t with past })

/-- A packet leaves on its ports at its launch time (R174, R176, R177); a unit that does not own the outputs discards it without
counting (R395). -/
def State.txLaunch (s : State) (n : Nat) : State :=
  match s.flow.launches.find? (fun e => e.1 == n) with
  | none => s
  | some (_, k) =>
    if !s.on .flowptp || decide ((s.mediaNs + 1000000000 / s.rate) * 65536 < k.launch) then s
    else
      let s := { s with flow := { s.flow with launches := s.flow.launches.erase (n, k) } }
      if !s.owns then s
      else
      let rtp := [0x80] ++ beBytes 1 (s.get (R.FLOW_TX_CFG_PT n)) ++ beBytes 2 k.seq ++ beBytes 4 k.first
        ++ beBytes 4 (s.get (R.FLOW_TX_SSRC_SSRC n)) ++ k.payload
      (sel 2 (fun x => (s.get (fPorts true n)).testBit x)).foldl (fun s x =>
        if s.linkIsUp x ∧ s.ipOf x ≠ 0 then
          let (id, s) := s.nextIdent x
          let dst := s.get (fDst true n x)
          let u := udp (s.ipOf x) dst (s.get (fSport true n x)) (s.get (fDport true n x)) rtp
          let ip := ipv4 (s.get (R.FLOW_TX_CH_DSCP n)) (s.get (R.FLOW_TX_CH_TTL n)) 17 id (s.ipOf x) dst [] u
          let bytes := ether (s.flowMac n x) (s.macOf x) (s.tagOf x (R.NET_VLAN_PCP_MEDIA x)) 0x0800 ip
          s.txSend x { cls := 3, kind := .audio n k.launch, bytes }
        else s.txDiscard x { cls := 3, kind := .audio n k.launch, bytes := [] }) s

/-! State changes at an index (R179) -/

/-- The start index is reached: ARMED becomes RUNNING; sources that an abort stopped return (R198). -/
def State.flowBegin (s : State) (tx : Bool) (n : Nat) : State :=
  let start := if tx then (s.txf n).start else (s.rxf n).start
  let cancelled := if tx then (s.txf n).cancelled else (s.rxf n).cancelled
  match start with
  | some st =>
    if s.flowState tx n = 1 ∧ ¬ cancelled ∧ st ≤ s.toFlow tx n s.time.index then
      let s := s.setFlowState tx n 2
      if tx then s else s.srcsReturn (s.get (fChBase false n)) (s.get (fChannels false n))
    else s
  | none => s

/-- The stop index is reached: the flow has ended. -/
def State.flowEnd (s : State) (tx : Bool) (n : Nat) : State :=
  if s.flowState tx n = 3 then
    if tx then
      let t := s.txf n
      match t.stop with
      | some e => if e ≤ t.done then s.setTxf n { t with ended := true } else s
      | none => s
    else
      let t := s.rxf n
      match t.stop with
      | some e => if e ≤ s.toFlow false n s.time.index then s.setRxf n { t with ended := true } else s
      | none => s
  else s

/-- An ended flow, or one stopped in ARMED, returns to IDLE. -/
def State.flowFree (s : State) (tx : Bool) (n : Nat) : State :=
  let e := if tx then (s.txf n).ended else (s.rxf n).ended
  let c := if tx then (s.txf n).cancelled else (s.rxf n).cancelled
  if s.flowUsed tx n && (e || (c && s.flowState tx n != 2 && s.atBoundary)) then s.flowToIdle tx n else s

/-- Every flow in use, of one direction. -/
def State.flowsOf (s : State) (tx : Bool) : List Nat := if tx then s.flow.tx.map (·.1) else s.flow.rx.map (·.1)

/-- At a boundary: transmit flows read the ended frame, ended flows return to IDLE, and indexes reached take effect. -/
def State.flowsAtBoundary (s : State) : State :=
  if s.on .flowptp then
    let s := (s.flowsOf true).foldl (fun s n => s.txRead n) s
    let each (tx : Bool) (s : State) : State :=
      (s.flowsOf tx).foldl (fun s n => ((s.flowFree tx n).flowBegin tx n).flowEnd tx n) s
    each true (each false s)
  else s

/-- Every receive flow presents its part of the frame that begins. -/
def State.flowsPresent (s : State) : State :=
  if s.on .flowptp then (s.flowsOf false).foldl (fun s n => s.rxPresent n) s else s

/-- The common start trigger gives every waiting flow its start index (R317). -/
def State.flowsCommon (s : State) (at_ : Nat) : State :=
  let s := (s.flowsOf false).foldl (fun s n =>
    let t := s.rxf n
    if t.common && !t.allocating then s.setRxf n { t with common := false, start := some (s.toFlow false n at_) } else s) s
  (s.flowsOf true).foldl (fun s n =>
    let t := s.txf n
    if t.common && !t.allocating then s.setTxf n { t with common := false, start := some (s.toFlow true n at_) } else s) s

/-- Flows waiting for the common trigger. -/
def State.flowsWaiting (s : State) : Nat :=
  (s.flow.rx.filter (fun e => e.2.common)).length + (s.flow.tx.filter (fun e => e.2.common)).length

/-- An abort of class 2 or 3 (R73): run state to reset values, the entry and the counters kept; true where it was running. -/
def State.flowAbort (s : State) (tx : Bool) (n : Nat) : State :=
  let s := if tx then
      let s : State := { s with flow := { s.flow with launches := s.flow.launches.filter (fun e => e.1 != n) } }
      let keep (l : List TxFrame) : List TxFrame := l.filter (fun f => match f.kind with
        | .audio m _ => m != n
        | _ => true)
      { s with net := { s.net with
        a := { s.net.a with queue := keep s.net.a.queue }, b := { s.net.b with queue := keep s.net.b.queue } } }
    else if s.flowState false n = 2 ∨ s.flowState false n = 3 then s.srcsStop (s.get (fChBase false n)) (s.get (fChannels false n)) else s
  let s := if s.flowUsed tx n then s.flowToIdle tx n else s
  let s := if tx then s.put (R.FLOW_TX_SEQ_NOW_NEXT n) 0 else s
  (s.wr (flowBase tx n + 0x2C) 0).wr (flowBase tx n + 0x38) 0

/-- A write of FLOW.CS_CAP (R162). VALID stays until the capture that it arms has ended (Table 6.13). -/
def State.csCapWrite (s : State) (w : Word) : State :=
  if s.on .flowptp then
    let s := s.wr R.FLOW_CS_CAP ((w &&& 0x00013FFF) ||| (s.rd R.FLOW_CS_CAP &&& 0x00020000))
    let s : State := { s with flow := { s.flow with csBits := none } }
    if s.flag R.FLOW_CS_CAP_ARM then
      if s.get (fFormat false (s.get R.FLOW_CS_CAP_FLOW)) = 2 then s else s.csEnd false
    else s
  else s

def execFlowRxStart (n : Fin 256) (w : BitVec 32) (s : State) : Result :=
  finish (s.hostPut (flowBase false n + 0x2C) ((R.FLOW_RX_CTRL_CMD n).inWord w 1) (fun s => s.flowCtrlWrite false n ((R.FLOW_RX_CTRL_CMD n).inWord w 1)))
def execFlowRxStop (n : Fin 256) (w : BitVec 32) (s : State) : Result :=
  finish (s.hostPut (flowBase false n + 0x2C) ((R.FLOW_RX_CTRL_CMD n).inWord w 2) (fun s => s.flowCtrlWrite false n ((R.FLOW_RX_CTRL_CMD n).inWord w 2)))
def execFlowTxStart (n : Fin 256) (w : BitVec 32) (s : State) : Result :=
  finish (s.hostPut (flowBase true n + 0x2C) ((R.FLOW_TX_CTRL_CMD n).inWord w 1) (fun s => s.flowCtrlWrite true n ((R.FLOW_TX_CTRL_CMD n).inWord w 1)))
def execFlowTxStop (n : Fin 256) (w : BitVec 32) (s : State) : Result :=
  finish (s.hostPut (flowBase true n + 0x2C) ((R.FLOW_TX_CTRL_CMD n).inWord w 2) (fun s => s.flowCtrlWrite true n ((R.FLOW_TX_CTRL_CMD n).inWord w 2)))
def execFlowClearCounters (rx : Bool) (n : Fin 256) (w : BitVec 32) (s : State) : Result :=
  finish (s.hostPut (flowBase (!rx) n + 0x2C) ((R.FLOW_RX_CTRL_CLR_CNT n).inWord w 1) (fun s => s.flowCtrlWrite (!rx) n ((R.FLOW_RX_CTRL_CLR_CNT n).inWord w 1)))
def execFlowArmed (rx : Bool) (n : Fin 256) (s : State) : Result := finish (s.flowArm (!rx) n)
def execFlowStartIndex (rx : Bool) (n : Fin 256) (s : State) : Result := finish (s.flowBegin (!rx) n)
def execFlowStopIndex (rx : Bool) (n : Fin 256) (s : State) : Result := finish (s.flowEnd (!rx) n)
def execFlowIdle (rx : Bool) (n : Fin 256) (s : State) : Result := finish (s.flowFree (!rx) n)
def execFlowPacketRx (x : Fin 2) (p : RtpPacket) (t : Nat) (s : State) : Result := finish (s.flowRx x p t).2
def execFlowRxPortSilent (n : Fin 256) (x : Fin 2) (s : State) : Result := finish (s.rxSilent n x)
def execFlowMonitorTick (n : Fin 256) (s : State) : Result := finish (s.rxMonitor n)
def execFlowTxLaunch (n : Fin 256) (s : State) : Result := finish (s.txLaunch n)
def execFlowCsCaptureArm (w : BitVec 32) (s : State) : Result :=
  finish (s.hostPut (R.FLOW_CS_CAP) (R.FLOW_CS_CAP_ARM.inWord w 1) (fun s => s.csCapWrite (R.FLOW_CS_CAP_ARM.inWord w 1)))

end Sys2Proof.Machine
end

