-- ==== Sys2Proof/Machine/Lane.lean ====
section
/-!
DEFINITION. What a Spelt lane is made of: its registers, its memories, its image, its state, its sources and its crosspoints
(R211 to R217, R220 to R225, R249, R251).
-/
namespace Sys2Proof.Machine

def State.lane (s : State) (n : Nat) : Lane := look {} s.spelt.lanes n

def State.setLane (s : State) (n : Nat) (l : Lane) : State := { s with spelt := { s.spelt with lanes := upd s.spelt.lanes n l } }

/-- The elements of vector register `r`. -/
def Lane.vec (l : Lane) (r : Nat) : List F32 := (List.range 8).map (fun j => look 0 l.v (8 * r + j))

def Lane.setVec (l : Lane) (r : Nat) (xs : List F32) : Lane :=
  { l with v := forN 8 (fun j v => upd v (8 * r + j) ((xs[j]?).getD 0)) l.v }

def Lane.sc (l : Lane) (r : Nat) : BitVec 32 := look 0 l.s r

def Lane.setSc (l : Lane) (r : Nat) (w : BitVec 32) : Lane := { l with s := upd l.s r w }

def Lane.ad (l : Lane) (r : Nat) : BitVec 32 := look 0 l.a r

def Lane.setAd (l : Lane) (r : Nat) (w : BitVec 32) : Lane := { l with a := upd l.a r w }

/-- Set a bit of FLAGS (Table 9.5). -/
def Lane.setFlag (l : Lane) (bit : Nat) (on : Bool) : Lane :=
  { l with flags := if on then l.flags ||| BitVec.ofNat 32 (2 ^ bit) else l.flags &&& ~~~(BitVec.ofNat 32 (2 ^ bit)) }

def Lane.flag (l : Lane) (bit : Nat) : Bool := l.flags.getLsbD bit

/-- The sticky events of a result: NV, OV and UN (R250, R253). -/
def Lane.stick (l : Lane) (r : FRes) : Lane :=
  let l := if r.nv then l.setFlag 8 true else l
  let l := if r.ov then l.setFlag 9 true else l
  if r.un then l.setFlag 10 true else l

def Lane.stickAll (l : Lane) (rs : List FRes) : Lane := rs.foldl Lane.stick l

/-- The registers of R216 as they stand before the first run: zero, with the sticky flags clear and FR set; Z and N stand (R250). -/
def Lane.zeroed (l : Lane) : Lane := { l with v := [], s := [], a := [], lc := [], flags := (l.flags &&& 3) ||| 4, loops := [] }

/-- The address of word `w` of lane `n`'s data memory (R213). -/
def dataAddr (n w : Nat) : Nat := 0x400000 + 0x40000 * n + 4 * (w % 65536)

/-- The data memory word an address register names with an offset (R251). -/
def wordAt (ar : BitVec 32) (off : Int) : Nat :=
  let ptr := bitsOf ar.toNat 15 0
  let ring := bitsOf ar.toNat 31 16
  let len := if ring = 0 then 65536 else ring
  let base := if ring = 0 then 0 else ptr / ring * ring
  (((base : Int) + ((ptr : Int) + off - base) % (len : Int)) % 65536).toNat

/-- An address register with its pointer moved (R251); RING is kept. -/
def moved (ar : BitVec 32) (off : Int) : BitVec 32 :=
  BitVec.ofNat 32 (bitsOf ar.toNat 31 16 * 65536 + wordAt ar off)

/-- The address of byte offset `o` of a lane's bank (R212). -/
def bankAddr (n bank o : Nat) : Nat := 0x200000 + 0x10000 * n + 0x8000 * bank + o

/-- The header word at a bank offset (Table 8.4). -/
def State.header (s : State) (n bank o : Nat) : Nat := (s.rd (bankAddr n bank o)).toNat

def State.codeLen (s : State) (n bank : Nat) : Nat := bitsOf (s.header n bank 8) 15 0

def State.entryOf (s : State) (n bank : Nat) : Nat := 8 + bitsOf (s.header n bank 8) 31 16

/-- The slots a map of 16 bytes names, from its first bank offset (Table 8.4). -/
def State.slotMap (s : State) (n bank o : Nat) : List Nat :=
  let w := s.header n bank o + s.header n bank (o + 4) * 2 ^ 32 + s.header n bank (o + 8) * 2 ^ 64 + s.header n bank (o + 12) * 2 ^ 96
  sel 128 (fun k => w.testBit k)

def State.inMap (s : State) (n bank : Nat) : List Nat := s.slotMap n bank 0x18

def State.outMap (s : State) (n bank : Nat) : List Nat := s.slotMap n bank 0x28

/-- One bit of the CRC-32 of the IEEE 802.3 frame check sequence, reflected (R225). -/
def crc32Step (c : Nat) : Nat := if c % 2 = 1 then (c >>> 1) ^^^ 0xEDB88320 else c >>> 1

def crc32Word (c : Nat) (w : Word) : Nat := forN 32 (fun _ c => crc32Step c) (c ^^^ w.toNat)

/-- CRC-32 over header words 0x00 to 0x3B and the code (R225). -/
def State.imageCrc (s : State) (n bank : Nat) : Nat :=
  let c := (List.range 15).foldl (fun c i => crc32Word c (s.rd (bankAddr n bank (4 * i)))) 0xFFFFFFFF
  let c := (List.range (2 * s.codeLen n bank)).foldl (fun c i => crc32Word c (s.rd (bankAddr n bank (0x40 + 4 * i)))) c
  c ^^^ 0xFFFFFFFF

/-- The lane's STATE: 0 STOPPED, 1 STARTING, 2 RUNNING, 3 HALTED, 4 FAULT (Table 8.11). -/
def State.laneState (s : State) (n : Nat) : Nat := s.get (R.LANE_STATUS_STATE n)

/-- STARTING, RUNNING and HALTED count as running (R227). -/
def State.laneRuns (s : State) (n : Nat) : Bool := s.laneState n == 1 || s.laneState n == 2 || s.laneState n == 3

def State.activeBank (s : State) (n : Nat) : Nat := s.get (R.LANE_STATUS_ACTIVE_BANK n)

/-- Whether the lane is in a run: RUNNING with its FEND still to come. -/
def State.inRun (s : State) (n : Nat) : Bool := s.domOn (laneDom n) && s.laneState n == 2 && (s.lane n).active

/-- RUN and XP_USED (Table 8.10, R221), and SWAP_HELD (R229). -/
def State.speltShow (s : State) : State :=
  let on := sel 16 s.laneRuns
  let s := (s.put R.SPELT_RUN_RUNNING (on.foldl (fun a n => a + 2 ^ n) 0)).put R.SPELT_XP_USED_USED
    (on.foldl (fun a n => a + s.get (R.LANE_XP_XP_COUNT n)) 0)
  forN 16 (fun n s =>
    s.put (R.LANE_STATUS_SWAP_HELD n) (toBit (s.flag (R.LANE_STATUS_SWAP_PENDING n) &&
      ((s.flag (R.LANE_CTRL_SWAP_HOLD n) && !(s.lane n).released) || s.flag (R.ISL_STATUS_SETTLING (8 + n)))))) s

/-- A lane that leaves STARTING, RUNNING and HALTED has its open packets closed as truncated (R279). -/
def State.laneSilos (s : State) (n : Nat) : State :=
  forN 64 (fun k s =>
    if s.siloOpen k && s.get (R.SILO_S_CFG_PROD k) == 3 && s.get (R.SILO_S_CFG_LANE k) == n then s.siloStopProducer k else s) s

/-- A change of the lane's state (R227). -/
def State.setLaneState (s : State) (n v : Nat) : State :=
  if s.laneState n = v then s
  else
    let s := if s.laneRuns n && (v == 0 || v == 4) then s.laneSilos n else s
    let s := (s.put (R.LANE_STATUS_STATE n) v).raise (R.LANE_EVENT_STATE n)
    let s := if v = 3 then (s.raise (R.LANE_EVENT_HALTED n)).put (R.LANE_DBG_STATUS_HALTED n) 1
      else s.put (R.LANE_DBG_STATUS_HALTED n) 0
    s.speltShow

/-- The source ID of an output slot (Table 8.1). -/
def slotId (n slot : Nat) : Nat := 2048 + 128 * n + slot

/-- Mapped output sources stop: they fade from their last good samples (R198, R219). -/
def State.laneFade (s : State) (n : Nat) (slots : List Nat) : State :=
  slots.foldl (fun s k => s.srcStopAt (slotId n k) (look 0 (s.lane n).lastOut k)) s

def State.laneMute (s : State) (n : Nat) : State := s.laneFade n (s.outMap n (s.activeBank n))

/-- What ends with a lane's program: the run, a pending swap, a pending stop (R220, R228, R231). -/
def State.laneQuit (s : State) (n : Nat) : State :=
  let s := s.put (R.LANE_STATUS_SWAP_PENDING n) 0
  s.setLane n { s.lane n with active := false, retired := none, waiting := none, outs := [], stopReq := false, wait := false, stepping := false
                              pastBp := false, loops := [], skipped := false, released := false, trapDue := none }

/-- The lane enters FAULT: it executes nothing and its mapped sources are muted (R220). -/
def State.laneFault (s : State) (n : Nat) : State := ((s.laneMute n).laneQuit n).setLaneState n 4

/-- The instruction at index `pc` traps with a cause (R269). -/
def State.laneTrap (s : State) (n pc cause : Nat) : State :=
  let s := ((s.put (R.LANE_TRAP_PC n) pc).put (R.LANE_TRAP_CAUSE n) cause).raise (R.LANE_EVENT_TRAP n)
  s.laneFault n

/-! Crosspoints (R221 to R223, R259) -/

/-- The hidden amplitude of a crosspoint: one that is not listed stands at its gain. -/
def State.xpoint (s : State) (e : Nat) : XPoint :=
  look { aS := 0, aT := gwamp (s.get (R.SPELT_XP_GAIN e)) } s.spelt.xps e

def State.setXpoint (s : State) (e : Nat) (x : XPoint) : State := { s with spelt := { s.spelt with xps := upd s.spelt.xps e x } }

/-- The amplitude reached at a boundary. -/
def XPoint.reached (x : XPoint) : F32 :=
  if x.n = 0 then x.aT else if x.k = 0 then x.aS else rampAt x.aS x.aT (x.k - 1) x.n

/-- The gain and the ramp code of a crosspoint word (Table 8.3). -/
def xpGain (w : Word) : F32 := gwamp (bitsOf w.toNat 15 0)
def xpCode (w : Word) : Nat := bitsOf w.toNat 19 16

/-- A write of a crosspoint entry (R221, R222): it takes effect at the first run that begins at least t_XPW later. -/
def State.xpWrite (s : State) (e : Nat) (w : Word) : State :=
  if s.on .flowptp then
    let x := s.xpoint e
    let v := w &&& 0x000FFFFF
    let x := if s.time.index % 8 = 0 ∧ s.time.begun = false then { x with soon := some (s.time.index, v) }
      else { x with wait := some v, soon := none }
    (s.wr (R.SPELT_XP e) v).setXpoint e x
  else s

/-- Every ramp advances by 8 samples at a boundary (R223); an entry that has arrived and waits for nothing is forgotten. -/
def State.xpsAdvance (s : State) : State :=
  let xs := s.spelt.xps.map (fun e => (e.1, ({ e.2 with k := e.2.k + 8 } : XPoint)))
  let xs := xs.filter (fun e => e.2.wait.isSome || e.2.soon.isSome || decide (e.2.k < e.2.n))
  { s with spelt := { s.spelt with xps := xs } }

/-- At a run that begins at index `x`: the write that takes effect, and the one that still waits (R222). -/
def XPoint.due (p : XPoint) (x : Nat) : Option Word × Option (Nat × Word) :=
  match p.soon with
  | some (at_, w) => if at_ = x then (p.wait, some (at_, w)) else (some w, none)
  | none => (p.wait, none)

/-- A crosspoint as a run takes it (R222, R223): at a lane's first run its amplitude is its gain at once; else the write that takes effect
ramps from the amplitude reached. -/
def XPoint.take (p : XPoint) (rate dflt x : Nat) (first : Bool) : XPoint :=
  let d := p.due x
  let aT := match d.1 with
    | some w => xpGain w
    | none => p.aT
  if first then { aS := 0, aT, soon := d.2 }
  else match d.1 with
    | some w => { aS := p.reached, aT, n := rampSamples rate (xpCode w) dflt, soon := d.2 }
    | none => { p with soon := d.2 }

/-- Writes to the entries a run of lane `n` is about to use take effect. -/
def State.xpsTake (s : State) (n : Nat) (first : Bool) : State :=
  let lo := s.get (R.LANE_XP_XP_BASE n)
  let hi := lo + s.get (R.LANE_XP_XP_COUNT n)
  let dflt := s.get R.SPELT_CFG_XP_DEF_RAMP
  let rate := s.rate
  let xs := s.spelt.xps.map (fun e =>
    if lo ≤ e.1 ∧ e.1 < hi then (e.1, e.2.take rate dflt s.time.index first) else e)
  { s with spelt := { s.spelt with xps := xs.filter (fun e => e.2.wait.isSome || e.2.soon.isSome || decide (e.2.k < e.2.n)) } }

end Sys2Proof.Machine
end

