-- ==== Sys2Proof/Machine/SpeltIsa.lean ====
section
/-!
DEFINITION. The Spelt instructions (chapter 9): the operand fields, issue cycles, latency and meaning of each opcode of
Table 9.3, and the issue of one instruction (R245 to R248).
-/
namespace Sys2Proof.Machine

/-- What follows an instruction: the next index, a taken branch, a loop skipped, the frame end, a trap, or a pop's stall. -/
inductive Next where
  | seq
  | jump (t : Nat)
  | skip (t : Nat)
  | fend
  | trap (cause : Nat)
  | stall
  deriving DecidableEq, Repr

/-- The kind of register a field names (R245). -/
inductive RegKind where
  | none
  | vec
  | sc
  | ad
  | lc
  deriving DecidableEq, Repr

/-- The immediate's shape (Table 9.2). -/
inductive ImmShape where
  | none
  | k32
  | mem
  | slot
  | el
  | mixf
  | queue
  | silo
  | tgt
  deriving DecidableEq, Repr

/-- An opcode of Table 9.3. -/
structure Op where
  d : RegKind := .none
  a : RegKind := .none
  b : RegKind := .none
  /-- The M bits that may be set. -/
  m : Nat := 0
  imm : ImmShape := .none
  /-- I, issue cycles; a branch taken and a loop skipped take 3. -/
  issue : Insn → Nat := fun _ => 1
  /-- L, latency; 0 where the table gives none. -/
  lat : Insn → Nat := fun _ => 0
  /-- Further encodings that trap with cause FIELD. -/
  bad : Insn → Bool := fun _ => false
  /-- Issues only when every earlier instruction has completed (R248). -/
  waits : Insn → Bool := fun _ => false
  /-- Reads or writes Z and N. -/
  zn : Insn → Bool := fun _ => false
  /-- Whether the registers that A and B name are read. -/
  reads : Insn → Bool × Bool := fun _ => (true, true)
  /-- Vector registers read beyond the fields. -/
  more : Insn → List Nat := fun _ => []
  /-- The operation, on lane `n`. -/
  run : Nat → Insn → State → Next × State

/-! Fields (R245) -/

def RegKind.ok (k : RegKind) (f : Nat) : Bool :=
  match k with
  | .none => f == 0
  | .vec => true
  | .sc => true
  | .ad => decide (f < 16)
  | .lc => decide (f < 4)

/-- The key of a register for R247: vectors from 0, scalars from 32, address registers from 64; Z and N are 80. -/
def RegKind.key (k : RegKind) (f : Nat) : List Nat :=
  match k with
  | .vec => [f]
  | .sc => [32 + f]
  | .ad => [64 + f]
  | _ => []

def ImmShape.ok (k : ImmShape) (w : Word) : Bool :=
  match k with
  | .none => w == 0
  | .k32 => true
  | .mem => true
  | .slot => w >>> 7 == 0
  | .el => w >>> 3 == 0
  | .mixf => w >>> 28 == 0
  | .queue => w &&& 0xFFFFC0E0 == 0
  | .silo => w &&& 0xFFFFF8C0 == 0
  | .tgt => w >>> 28 == 0

/-- The bits R245 requires to be zero are zero, and every register field is in range. -/
def Op.fieldsOk (o : Op) (i : Insn) : Bool :=
  i.z == 0 && o.d.ok i.d && o.a.ok i.a && o.b.ok i.b && (i.m &&& (15 - o.m)) == 0 && o.imm.ok i.imm && !o.bad i

/-- INC and DISP of the MEM shape. -/
def Insn.inc (i : Insn) : Int := sgn 16 (bitsOf i.imm.toNat 31 16)

def Insn.disp (i : Insn) : Int := sgn 16 (bitsOf i.imm.toNat 15 0)

/-- M[0]. -/
def Insn.m0 (i : Insn) : Bool := bitOf i.m 0

/-- SLOT, COUNT and XP of the MIXF shape. -/
def Insn.slot (i : Insn) : Nat := bitsOf i.imm.toNat 6 0
def Insn.mixCount (i : Insn) : Nat := bitsOf i.imm.toNat 13 7 + 1
def Insn.xp (i : Insn) : Nat := bitsOf i.imm.toNat 27 14

/-- TGT and COUNT of the TGT shape. -/
def Insn.tgt (i : Insn) : Nat := bitsOf i.imm.toNat 11 0
def Insn.count (i : Insn) : Nat := bitsOf i.imm.toNat 27 12

/-! Results -/

/-- Write a vector result with its sticky events. -/
def State.vOut (s : State) (n d : Nat) (rs : List FRes) : Next × State :=
  (.seq, s.setLane n (((s.lane n).setVec d (rs.map (·.v))).stickAll rs))

/-- Write a scalar result with its sticky events. -/
def State.sOut (s : State) (n d : Nat) (r : FRes) : Next × State :=
  (.seq, s.setLane n (((s.lane n).setSc d r.v).stick r))

/-- Write a scalar. -/
def State.sSet (s : State) (n d : Nat) (w : BitVec 32) : Next × State := (.seq, s.setLane n ((s.lane n).setSc d w))

/-- A result that also carries the events of the operations before it. -/
def FRes.after (r p : FRes) : FRes := { r with nv := r.nv || p.nv, ov := r.ov || p.ov, un := r.un || p.un }

/-- The post-increment of aB (R251). -/
def State.postInc (s : State) (n : Nat) (i : Insn) : State :=
  if i.inc = 0 then s else s.setLane n ((s.lane n).setAd i.b (moved ((s.lane n).ad i.b) i.inc))

/-- The data memory word e(k) of a MEM access with X. -/
def State.memWord (s : State) (n : Nat) (i : Insn) (x : Int) (k : Nat) : Nat :=
  dataAddr n (wordAt ((s.lane n).ad i.b) (i.disp + x + k))

/-- The word at e(k). -/
def State.blk (s : State) (n : Nat) (i : Insn) (k : Nat) : F32 := s.rd (s.memWord n i 0 k)

/-- Store words at e(k), from the present aB. -/
def State.setBlk (s : State) (n : Nat) (i : Insn) (ws : List (Nat × BitVec 32)) : State :=
  ws.foldl (fun s e => s.wr (s.memWord n i 0 e.1) e.2) s

def zip2 (f : F32 → F32 → FRes) (xs ys : List F32) : List FRes := (xs.zip ys).map (fun p => f p.1 p.2)

/-- A vector operation on vA and vB. -/
def vvOp (f : F32 → F32 → FRes) (n : Nat) (i : Insn) (s : State) : Next × State :=
  s.vOut n i.d (zip2 f ((s.lane n).vec i.a) ((s.lane n).vec i.b))

/-- A vector operation on vA. -/
def vOp (f : F32 → FRes) (n : Nat) (i : Insn) (s : State) : Next × State := s.vOut n i.d (((s.lane n).vec i.a).map f)

/-- A vector operation on vA and sB. -/
def vsOp (f : F32 → F32 → FRes) (n : Nat) (i : Insn) (s : State) : Next × State :=
  s.vOut n i.d (((s.lane n).vec i.a).map (fun x => f x ((s.lane n).sc i.b)))

/-- A scalar operation on sA and sB. -/
def ssOp (f : F32 → F32 → FRes) (n : Nat) (i : Insn) (s : State) : Next × State :=
  s.sOut n i.d (f ((s.lane n).sc i.a) ((s.lane n).sc i.b))

/-- An integer operation on sA and sB, or IMM with M[0]. -/
def siOp (f : BitVec 32 → BitVec 32 → BitVec 32) (n : Nat) (i : Insn) (s : State) : Next × State :=
  s.sSet n i.d (f ((s.lane n).sc i.a) (if i.m0 then i.imm else (s.lane n).sc i.b))

/-! Moves and memory (R251) -/

def opNop : Op := { run := fun _ _ s => (.seq, s) }

/-- LDV and LDVX, with X. -/
def loadVec (n : Nat) (i : Insn) (x : Int) (s : State) : Next × State :=
  let xs := (List.range 8).map (fun k => s.rd (s.memWord n i x k))
  let s := s.postInc n i
  (.seq, s.setLane n ((s.lane n).setVec i.d xs))

def opLdv : Op :=
  { d := .vec, b := .ad, imm := .mem, issue := fun _ => 2, lat := fun _ => 4, run := fun n i s => loadVec n i 0 s }

def opStv : Op :=
  { a := .vec, b := .ad, imm := .mem, issue := fun _ => 2, lat := fun _ => 2
    run := fun n i s =>
      let xs := (s.lane n).vec i.a
      (.seq, (s.setBlk n i ((List.range 8).map (fun k => (k, (xs[k]?).getD 0)))).postInc n i) }

def opLds : Op :=
  { d := .sc, b := .ad, imm := .mem, lat := fun _ => 3
    run := fun n i s =>
      let w := s.blk n i 0
      (s.postInc n i).sSet n i.d w }

def opSts : Op :=
  { a := .sc, b := .ad, imm := .mem, lat := fun _ => 2
    run := fun n i s => (.seq, (s.setBlk n i [(0, (s.lane n).sc i.a)]).postInc n i) }

def opLdvx : Op :=
  { d := .vec, a := .sc, b := .ad, imm := .mem, issue := fun _ => 2, lat := fun _ => 4
    run := fun n i s => loadVec n i (((s.lane n).sc i.a).toInt) s }

/-- The slot of R257: SLOT, plus the index where M[0] is set, modulo 128. -/
def Insn.slotAt (i : Insn) (index : BitVec 32) : Nat := (i.slot + (if i.m0 then bitsOf index.toNat 6 0 else 0)) % 128

def opIns : Op :=
  { d := .vec, a := .sc, m := 1, imm := .slot, reads := fun i => (i.m0, false), issue := fun _ => 2, lat := fun _ => 3
    run := fun n i s =>
      let l := s.lane n
      (.seq, s.setLane n (l.setVec i.d (look [] l.ins (i.slotAt (l.sc i.a))))) }

/-- A write to an unmapped output slot is discarded (R214). -/
def opOuts : Op :=
  { a := .vec, b := .sc, m := 1, imm := .slot, reads := fun i => (true, i.m0), issue := fun _ => 2, lat := fun _ => 2
    run := fun n i s =>
      let l := s.lane n
      let k := i.slotAt (l.sc i.b)
      (.seq, if (s.outMap n (s.activeBank n)).contains k then s.setLane n { l with outs := upd l.outs k (l.vec i.a) } else s) }

def opMova : Op :=
  { d := .ad, imm := .k32, lat := fun _ => 1, run := fun n i s => (.seq, s.setLane n ((s.lane n).setAd i.d i.imm)) }

def opAdda : Op :=
  { d := .ad, a := .ad, b := .sc, m := 1, imm := .mem, reads := fun i => (true, i.m0), lat := fun _ => 1, bad := fun i => i.inc != 0
    run := fun n i s =>
      let l := s.lane n
      (.seq, s.setLane n (l.setAd i.d (moved (l.ad i.a) (i.disp + (if i.m0 then (l.sc i.b).toInt else 0))))) }

def opMovas : Op := { d := .sc, a := .ad, lat := fun _ => 1, run := fun n i s => s.sSet n i.d ((s.lane n).ad i.a) }

def opMovsa : Op :=
  { d := .ad, a := .sc, lat := fun _ => 1, run := fun n i s => (.seq, s.setLane n ((s.lane n).setAd i.d ((s.lane n).sc i.a))) }

def opMovs : Op := { d := .sc, imm := .k32, lat := fun _ => 1, run := fun n i s => s.sSet n i.d i.imm }

def opMovfs : Op :=
  { d := .sc, lat := fun _ => 1, waits := fun _ => true, run := fun n i s => s.sSet n i.d (s.lane n).flags }

/-- The sticky FLAGS bits (Table 9.5). -/
def stickyMask : BitVec 32 := 0x1F00

def opClrf : Op :=
  { imm := .k32
    run := fun n i s => (.seq, s.setLane n { s.lane n with flags := (s.lane n).flags &&& ~~~(i.imm &&& stickyMask) }) }

def opMovls : Op :=
  { d := .sc, a := .lc, lat := fun _ => 1, run := fun n i s => s.sSet n i.d (BitVec.ofNat 32 (look 0 (s.lane n).lc i.a)) }

/-! Vector arithmetic (R252, R253) -/

def opVadd : Op := { d := .vec, a := .vec, b := .vec, issue := fun _ => 2, lat := fun _ => 4, run := vvOp fadd }
def opVsub : Op := { d := .vec, a := .vec, b := .vec, issue := fun _ => 2, lat := fun _ => 4, run := vvOp fsub }
def opVmul : Op := { d := .vec, a := .vec, b := .vec, issue := fun _ => 2, lat := fun _ => 5, run := vvOp fmul }

def opVmac : Op :=
  { d := .vec, a := .vec, b := .vec, issue := fun _ => 2, lat := fun _ => 5
    run := fun n i s =>
      let l := s.lane n
      s.vOut n i.d ((((l.vec i.a).zip (l.vec i.b)).zip (l.vec i.d)).map (fun p => ffma p.1.1 p.1.2 p.2)) }

def opVmuls : Op := { d := .vec, a := .vec, b := .sc, issue := fun _ => 2, lat := fun _ => 5, run := vsOp fmul }

def opVmacs : Op :=
  { d := .vec, a := .vec, b := .sc, issue := fun _ => 2, lat := fun _ => 5
    run := fun n i s =>
      let l := s.lane n
      s.vOut n i.d (zip2 (fun x c => ffma x (l.sc i.b) c) (l.vec i.a) (l.vec i.d)) }

def opVabs : Op := { d := .vec, a := .vec, issue := fun _ => 2, lat := fun _ => 4, run := vOp fabs }
def opVmax : Op := { d := .vec, a := .vec, b := .vec, issue := fun _ => 2, lat := fun _ => 4, run := vvOp fmax }
def opVmin : Op := { d := .vec, a := .vec, b := .vec, issue := fun _ => 2, lat := fun _ => 4, run := vvOp fmin }

/-- min(max(x, −|c|), |c|). -/
def fclip (x c : F32) : FRes :=
  let m := fabs c
  let lo := fmax x (fneg m.v)
  if isNaN32 x || isNaN32 c then fnan else (fmin lo.v m.v).after lo

def opVclip : Op := { d := .vec, a := .vec, b := .sc, issue := fun _ => 2, lat := fun _ => 4, run := vsOp fclip }

def opVmov : Op :=
  { d := .vec, a := .vec, issue := fun _ => 2, lat := fun _ => 3
    run := fun n i s => (.seq, s.setLane n ((s.lane n).setVec i.d ((s.lane n).vec i.a))) }

def opVbcst : Op :=
  { d := .vec, a := .sc, issue := fun _ => 2, lat := fun _ => 3
    run := fun n i s => (.seq, s.setLane n ((s.lane n).setVec i.d (List.replicate 8 ((s.lane n).sc i.a)))) }

def opVext : Op :=
  { d := .sc, a := .vec, imm := .el, lat := fun _ => 3
    run := fun n i s => s.sSet n i.d (look 0 (s.lane n).v (8 * i.a + bitsOf i.imm.toNat 2 0)) }

def opVins : Op :=
  { d := .vec, a := .sc, imm := .el, lat := fun _ => 3
    run := fun n i s =>
      let l := s.lane n
      (.seq, s.setLane n { l with v := upd l.v (8 * i.d + bitsOf i.imm.toNat 2 0) (l.sc i.a) }) }

/-- The tree sum of eight results (R253). -/
def treeSum (x : Nat → FRes) : FRes :=
  let add (p q : FRes) : FRes := ((fadd p.v q.v).after p).after q
  add (add (add (x 0) (x 1)) (add (x 2) (x 3))) (add (add (x 4) (x 5)) (add (x 6) (x 7)))

def opVsum : Op :=
  { d := .sc, a := .vec, m := 1, issue := fun _ => 3, lat := fun _ => 6
    run := fun n i s =>
      let l := s.lane n
      let el (j : Nat) : F32 := look 0 l.v (8 * i.a + j)
      s.sOut n i.d (treeSum (fun j => if i.m0 then fmul (el j) (el j) else { v := el j })) }

def opVpeak : Op :=
  { d := .sc, a := .vec, issue := fun _ => 3, lat := fun _ => 5
    run := fun n i s =>
      s.sOut n i.d ((((s.lane n).vec i.a).map fabs).foldl (fun m x => ((fmax m.v x.v).after m).after x) { v := 0 }) }

/-! Scalars (R253, R254, R256) -/

def opSadd : Op := { d := .sc, a := .sc, b := .sc, lat := fun _ => 3, run := ssOp fadd }
def opSsub : Op := { d := .sc, a := .sc, b := .sc, lat := fun _ => 3, run := ssOp fsub }
def opSmul : Op := { d := .sc, a := .sc, b := .sc, lat := fun _ => 3, run := ssOp fmul }

def opSmac : Op :=
  { d := .sc, a := .sc, b := .sc, lat := fun _ => 3
    run := fun n i s => let l := s.lane n; s.sOut n i.d (ffma (l.sc i.a) (l.sc i.b) (l.sc i.d)) }

def opSmax : Op := { d := .sc, a := .sc, b := .sc, lat := fun _ => 3, run := ssOp fmax }
def opSmin : Op := { d := .sc, a := .sc, b := .sc, lat := fun _ => 3, run := ssOp fmin }

/-- Z and N from a comparison; NV where an operand is NaN (R256). -/
def Lane.compare (l : Lane) (z ng nv : Bool) : Lane :=
  let l := (l.setFlag 0 z).setFlag 1 ng
  if nv then l.setFlag 8 true else l

def opScmp : Op :=
  { a := .sc, b := .sc, lat := fun _ => 1, zn := fun _ => true
    run := fun n i s =>
      let l := s.lane n
      let x := l.sc i.a
      let y := l.sc i.b
      let nan := isNaN32 x || isNaN32 y
      (.seq, s.setLane n (l.compare (!nan && !flt x y && !flt y x) (!nan && flt x y) nan)) }

def opSiadd : Op :=
  { d := .sc, a := .sc, b := .sc, m := 1, imm := .k32, reads := fun i => (true, !i.m0), lat := fun _ => 1, run := siOp (· + ·) }
def opSand : Op :=
  { d := .sc, a := .sc, b := .sc, m := 1, imm := .k32, reads := fun i => (true, !i.m0), lat := fun _ => 1, run := siOp (· &&& ·) }
def opSor : Op :=
  { d := .sc, a := .sc, b := .sc, m := 1, imm := .k32, reads := fun i => (true, !i.m0), lat := fun _ => 1, run := siOp (· ||| ·) }
def opSxor : Op :=
  { d := .sc, a := .sc, b := .sc, m := 1, imm := .k32, reads := fun i => (true, !i.m0), lat := fun _ => 1, run := siOp (· ^^^ ·) }

def opSshf : Op :=
  { d := .sc, a := .sc, imm := .k32, lat := fun _ => 1
    bad := fun i => decide (i.imm.toInt < -31) || decide (31 < i.imm.toInt)
    run := fun n i s =>
      let x := (s.lane n).sc i.a
      let k := i.imm.toInt
      s.sSet n i.d (if 0 ≤ k then x <<< k.toNat else x.sshiftRight k.natAbs) }

def opSicmp : Op :=
  { a := .sc, b := .sc, lat := fun _ => 1, zn := fun _ => true
    run := fun n i s =>
      let l := s.lane n
      (.seq, s.setLane n (l.compare (l.sc i.a == l.sc i.b) (decide ((l.sc i.a).toInt < (l.sc i.b).toInt)) false)) }

def opScvtf : Op :=
  { d := .sc, a := .sc, lat := fun _ => 3, run := fun n i s => s.sSet n i.d (fofInt ((s.lane n).sc i.a).toInt) }

def opScvti : Op :=
  { d := .sc, a := .sc, lat := fun _ => 3
    run := fun n i s =>
      let r := ftoInt ((s.lane n).sc i.a)
      s.sOut n i.d { v := r.1, nv := r.2.1, ov := r.2.2 } }

def opGwamp : Op :=
  { d := .sc, a := .sc, lat := fun _ => 4, run := fun n i s => s.sSet n i.d (gwamp (bitsOf ((s.lane n).sc i.a).toNat 15 0)) }

/-! Mixing (R258) -/

/-- The quotient of two integers as a binary32, rounded once; the divisor is not 0. -/
def fquot (a b : Int) : F32 := if a = 0 then 0 else (if decide (a < 0) != decide (b < 0) then fneg else id) (fratio a.natAbs b.natAbs)

/-- A ramp's value at an integer count (R259), with the events of its operations. -/
def rampInt (aS aT : F32) (k n : Int) : FRes :=
  if n = 0 ∨ n ≤ k then { v := canon32 aT }
  else
    let df := fsub aT aS
    (ffma df.v (fquot (k + 1) n) aS).after df

/-- amp(e, k + j) of R258: the amplitude of a crosspoint at sample `j` of the frame. -/
def XPoint.amp (x : XPoint) (j : Nat) : FRes := rampInt x.aS x.aT (x.k + j : Nat) x.n

/-- One element of a mix: COUNT multiply-accumulates from `acc`. -/
def mixEl (amp : Nat → FRes) (x : Nat → F32) (count : Nat) (acc : FRes) : FRes :=
  forN count (fun k acc => ((ffma (amp k).v (x k) acc.v).after (amp k)).after acc) acc

/-- MIX and MIXV over the inputs `x`: input `k`, element `j`. -/
def mixRun (x : Lane → Nat → Nat → F32) (n : Nat) (i : Insn) (s : State) : Next × State :=
  if s.get (R.LANE_XP_XP_COUNT n) < i.xp + i.mixCount then (.trap 6, s)
  else
    let l := s.lane n
    let base := s.get (R.LANE_XP_XP_BASE n) + i.xp
    s.vOut n i.d ((List.range 8).map (fun j =>
      mixEl (fun k => (s.xpoint (base + k)).amp j) (fun k => x l k j) i.mixCount
        { v := if i.m0 then 0 else look 0 l.v (8 * i.d + j) }))

def opMix : Op :=
  { d := .vec, m := 1, imm := .mixf, issue := fun i => 2 * i.mixCount + 2, lat := fun i => 2 * i.mixCount + 5
    run := fun n i s => mixRun (fun l k j => ((look [] l.ins ((i.slot + k) % 128))[j]?).getD 0) n i s }

def opMixv : Op :=
  { d := .vec, a := .vec, m := 1, imm := .mixf, issue := fun i => 2 * i.mixCount + 2, lat := fun i => 2 * i.mixCount + 5
    bad := fun i => i.slot != 0 || decide (32 < i.a + i.mixCount)
    more := fun i => (List.range i.mixCount).map (fun k => i.a + k)
    run := fun n i s => mixRun (fun l k j => look 0 l.v (8 * (i.a + k) + j)) n i s }

/-! Filters, envelopes and gain (R260 to R263) -/

/-- The coefficients of a biquad section (Table 9.6). -/
structure Biq where
  b0 : F32
  b1 : F32
  b2 : F32
  a1 : F32
  a2 : F32

/-- One sample through a section: the output, the state and the events (R260). -/
def Biq.step (c : Biq) (x s1 s2 : F32) : FRes × F32 × F32 :=
  let y := ffma c.b0 x s1
  let p := ffma c.b1 x s2
  let t1 := ffma (fneg c.a1) y.v p.v
  let q := fmul c.b2 x
  let t2 := ffma (fneg c.a2) y.v q.v
  let ev := (((y.after p).after t1).after q).after t2
  if isNaN32 t1.v || isNaN32 t2.v then ({ ev with nv := true }, 0, 0) else (ev, t1.v, t2.v)

/-- The samples of a vector through a section. -/
def Biq.runAll (c : Biq) : List F32 → F32 → F32 → List FRes × F32 × F32
  | [], s1, s2 => ([], s1, s2)
  | x :: t, s1, s2 =>
    let r := c.step x s1 s2
    let q := Biq.runAll c t r.2.1 r.2.2
    (r.1 :: q.1, q.2.1, q.2.2)

/-- The sections of a cascade, from section `k`: the vector, the events so far, the state after. -/
def biqSections (n : Nat) (i : Insn) : Nat → Nat → List F32 → List FRes → State → List F32 × List FRes × State
  | 0, _, xs, evs, s => (xs, evs, s)
  | m + 1, k, xs, evs, s =>
    let w (j : Nat) : F32 := s.blk n i (8 * k + j)
    let r := Biq.runAll ⟨w 0, w 1, w 2, w 3, w 4⟩ xs (w 5) (w 6)
    biqSections n i m (k + 1) (r.1.map (·.v)) (evs ++ r.1) (s.setBlk n i [(8 * k + 5, r.2.1), (8 * k + 6, r.2.2)])

def opBiq : Op :=
  { d := .vec, a := .vec, b := .ad, m := 7, imm := .mem, issue := fun i => 16 * (i.m + 1) + 4, lat := fun i => 16 * (i.m + 1) + 6
    run := fun n i s =>
      let r := biqSections n i (i.m + 1) 0 ((s.lane n).vec i.a) [] s
      let s := r.2.2.postInc n i
      (.seq, s.setLane n (((s.lane n).setVec i.d r.1).stickAll r.2.1)) }

/-- One sample of an envelope (R261): the events and the new envelope. -/
def envStep (att rel : F32) (square : Bool) (x e : F32) : FRes :=
  let v : FRes := if isNaN32 x then { v := 0, nv := true } else if square then fmul x x else fabs x
  let df := fsub v.v e
  ((ffma (if flt e v.v then att else rel) df.v e).after df).after v

def envRun (att rel : F32) (square : Bool) : List F32 → F32 → List FRes
  | [], _ => []
  | x :: t, e => let r := envStep att rel square x e; r :: envRun att rel square t r.v

def opEnv : Op :=
  { d := .vec, a := .vec, b := .ad, imm := .mem, issue := fun _ => 10, lat := fun _ => 12
    run := fun n i s =>
      let rs := envRun (s.blk n i 0) (s.blk n i 1) (bitOf (s.blk n i 3).toNat 0) ((s.lane n).vec i.a) (s.blk n i 2)
      let e := ((rs.getLast?).map (·.v)).getD 0
      ((s.setBlk n i [(2, e)]).postInc n i).vOut n i.d rs }

def opVlog2 : Op := { d := .vec, a := .vec, issue := fun _ => 4, lat := fun _ => 8, run := vOp flog2 }
def opVexp2 : Op := { d := .vec, a := .vec, issue := fun _ => 4, lat := fun _ => 8, run := vOp fexp2 }

/-- The static gain of one level (R262). -/
def gaincOf (t h r q makeup lv : F32) : FRes :=
  let x := fsub lv t
  if isNaN32 x.v || isNaN32 h then fnan.after x
  else
    let g : FRes :=
      if !flt (fneg h) x.v then { v := 0 }
      else if !flt x.v h then (let p := fmul r x.v; { p with v := fneg p.v })
      else
        let u := fadd x.v h
        let uu := fmul u.v u.v
        let p := ((fmul q uu.v).after uu).after u
        { p with v := fneg p.v }
    ((fadd g.v makeup).after g).after x

def opGainc : Op :=
  { d := .vec, a := .vec, b := .ad, imm := .mem, issue := fun _ => 4, lat := fun _ => 7
    run := fun n i s =>
      let w (j : Nat) : F32 := s.blk n i j
      (s.postInc n i).vOut n i.d (((s.lane n).vec i.a).map (gaincOf (w 0) (w 1) (w 2) (w 3) (w 4))) }

/-- The samples of RAMP from count `k` (R263): results with the amplitude applied, and the count after them. -/
def rampRun (aS aT : F32) (n : Int) : List F32 → Int → List (FRes × F32) × Int
  | [], k => ([], k)
  | x :: t, k =>
    let a := rampInt aS aT k n
    let q := rampRun aS aT n t (if k < n then k + 1 else k)
    (((fmul x a.v).after a, a.v) :: q.1, q.2)

def opRamp : Op :=
  { d := .vec, a := .vec, b := .ad, imm := .mem, issue := fun _ => 4, lat := fun _ => 6
    run := fun n i s =>
      let ctrl := s.blk n i 0
      let mark := ctrl ||| 0x80000000
      let fresh := s.blk n i 1 != mark
      let aS := canon32 (if fresh then s.blk n i 6 else s.blk n i 2)
      let aT := if fresh then gwamp (bitsOf ctrl.toNat 15 0) else canon32 (s.blk n i 3)
      let len : Int :=
        if fresh then rampSamples s.rate (bitsOf ctrl.toNat 19 16) (s.get R.SPELT_CFG_XP_DEF_RAMP) else (s.blk n i 5).toInt
      let r := rampRun aS aT len ((s.lane n).vec i.a) (if fresh then 0 else (s.blk n i 4).toInt)
      let now := ((r.1.getLast?).map (·.2)).getD 0
      let s := s.setBlk n i
        [(1, mark), (2, aS), (3, aT), (4, BitVec.ofInt 32 r.2), (5, BitVec.ofInt 32 len), (6, now)]
      (s.postInc n i).vOut n i.d (r.1.map (·.1)) }

/-! DRAM queues (R233, R234, R264) -/

def State.dq (s : State) (q : Nat) : DQueue := look {} s.spelt.dqs q

def State.setDq (s : State) (q : Nat) (d : DQueue) : State := { s with spelt := { s.spelt with dqs := upd s.spelt.dqs q d } }

/-- LINE' of R264. -/
def Insn.lineAt (i : Insn) (index : BitVec 32) : Nat :=
  (bitsOf i.imm.toNat 13 8 + (if i.m0 then bitsOf index.toNat 5 0 else 0)) % 64

/-- Whether lane `n` may use line `l` of queue `q`. -/
def State.dqUsable (s : State) (n q l : Nat) : Bool :=
  s.get (R.DQ_STATUS_STATE q) == 2 && q / 2 == n && decide (l < s.get (R.DQ_CFG_LINES q))

/-- An idle, foreign or over-range access: IDLE_CNT and QI (R233, R264). -/
def State.dqIdle (s : State) (n q : Nat) : State :=
  let s := if s.domOn (laneDom (q / 2)) then s.count (R.DQ_IDLE_CNT_COUNT q) else s
  s.setLane n ((s.lane n).setFlag 12 true)

def opDqpush : Op :=
  { a := .vec, b := .sc, m := 1, imm := .queue, reads := fun i => (true, i.m0), issue := fun _ => 2, lat := fun _ => 2
    run := fun n i s =>
      let l := s.lane n
      let q := bitsOf i.imm.toNat 4 0
      let k := i.lineAt (l.sc i.b)
      (.seq, if s.dqUsable n q k then s.setDq q { s.dq q with pushed := upd (s.dq q).pushed k (l.vec i.a) } else s.dqIdle n q) }

/-- The sample that line received `delay` samples before position `j` of the run. -/
def tapSample (hist : List F32) (delay j : Nat) : F32 := (hist[delay - j - 1]?).getD 0

/-- Element `j` of a pop, with the tap's crossfade (R234). -/
def popEl (hist : List F32) (t : TapSt) (j : Nat) : F32 :=
  match t.xf with
  | none => tapSample hist t.delay j
  | some (old, k) =>
    let x := fratio (k + j + 1) 64
    (fadd (fmul (fsub 0x3F800000 x).v (tapSample hist old j)).v (fmul x (tapSample hist t.delay j)).v).v

/-- The pop of a usable line. -/
def State.dqPop (s : State) (q l : Nat) : List F32 :=
  let d := s.dq q
  (List.range 8).map (popEl (look [] d.lines l) (look {} d.taps l))

def opDqpop : Op :=
  { d := .vec, b := .sc, m := 1, imm := .queue, reads := fun i => (true, i.m0), issue := fun _ => 2, lat := fun _ => 4
    run := fun n i s =>
      let l := s.lane n
      let q := bitsOf i.imm.toNat 4 0
      let k := i.lineAt (l.sc i.b)
      if s.dqUsable n q k then
        if (s.dq q).late then (.stall, s) else (.seq, s.setLane n (l.setVec i.d (s.dqPop q k)))
      else
        let s := s.dqIdle n q
        (.seq, s.setLane n ((s.lane n).setVec i.d [])) }

/-! Silo pushes (R265) -/

/-- A sample in a silo format (Table 9.7), with its events. -/
def siloSample (fmt : Nat) (x : F32) : List (BitVec 8) × FRes :=
  if isNaN32 x then
    (List.replicate (if fmt = 3 then 3 else if fmt = 4 then 2 else 4) 0, { v := 0, nv := true })
  else if fmt = 0 then (wordBytes (canon32 x), { v := 0 })
  else if fmt = 4 then
    let r := satI (-(2 ^ 15)) (2 ^ 15 - 1) (fscaled x 15)
    ((wordBytes (BitVec.ofInt 32 r.1)).take 2, { v := 0, ov := r.2 })
  else
    let r := satI (-(2 ^ 23)) (2 ^ 23 - 1) (fscaled x 23)
    let w := BitVec.ofInt 32 r.1
    (if fmt = 2 then wordBytes (w <<< 8) else if fmt = 3 then (wordBytes w).take 3 else wordBytes w, { v := 0, ov := r.2 })

def Insn.silo (i : Insn) : Nat := bitsOf i.imm.toNat 5 0
def Insn.fmt (i : Insn) : Nat := bitsOf i.imm.toNat 10 8

/-- The lane's operation on a silo: ignored, with SF, unless the silo is OPEN and this lane is its producer (R265, R282). -/
def State.laneSilo (s : State) (n k : Nat) (f : State → Bool × State) : State :=
  let r :=
    if s.on .flowptp && s.siloOpen k && !s.siloAborting k && s.get (R.SILO_S_CFG_PROD k) == 3 && s.get (R.SILO_S_CFG_LANE k) == n then f s else (false, s)
  if r.1 then r.2 else r.2.setLane n ((r.2.lane n).setFlag 11 true)

/-- Samples converted and written as one producer write. -/
def State.lanePush (s : State) (n : Nat) (i : Insn) (xs : List F32) : Next × State :=
  let ps := xs.map (siloSample i.fmt)
  let bytes := ps.flatMap (·.1)
  let s := s.setLane n ((s.lane n).stickAll (ps.map (·.2)))
  (.seq, s.laneSilo n i.silo (fun s => s.siloData i.silo bytes bytes.length))

def opSpush : Op :=
  { a := .vec, imm := .silo, issue := fun _ => 2, lat := fun _ => 2, bad := fun i => decide (5 ≤ i.fmt)
    run := fun n i s => s.lanePush n i ((s.lane n).vec i.a) }

def opSpushs : Op :=
  { a := .sc, imm := .silo, lat := fun _ => 2, bad := fun i => decide (5 ≤ i.fmt)
    run := fun n i s => s.lanePush n i [(s.lane n).sc i.a] }

def opSpkt : Op :=
  { a := .sc, m := 1, imm := .silo, reads := fun i => (i.m0, false), lat := fun _ => 2, bad := fun i => i.fmt != 0
    run := fun n i s =>
      (.seq, s.laneSilo n i.silo (fun s =>
        if i.m0 then s.siloPktClose i.silo ((s.lane n).sc i.a) else s.siloPktOpen i.silo)) }

/-! Branches, loops and the frame end (R266 to R268) -/

/-- Whether a branch condition holds (Table 9.8). -/
def Lane.cond (l : Lane) (m : Nat) : Bool :=
  let z := l.flag 0
  let ng := l.flag 1
  if m = 0 then true
  else if m = 1 then z
  else if m = 2 then !z
  else if m = 3 then ng
  else if m = 4 then !ng
  else if m = 5 then !ng && !z
  else if m = 6 then ng || z
  else if m ≤ 8 then l.flag (m + 1)
  else if m ≤ 10 then l.flag (m + 2)
  else if m = 11 then l.flag 2
  else !l.flag 2

/-- Whether an index lies in the code of lane `n`'s active bank. -/
def State.inCode (s : State) (n t : Nat) : Bool := decide (8 ≤ t) && decide (t < 8 + s.codeLen n (s.activeBank n))

/-- A taken branch ends every loop whose body does not contain its target (R266). -/
def opBr : Op :=
  { m := 15, imm := .tgt, bad := fun i => decide (13 ≤ i.m) || i.count != 0
    waits := fun i => decide (7 ≤ i.m) && decide (i.m ≤ 10), zn := fun i => decide (1 ≤ i.m) && decide (i.m ≤ 6)
    run := fun n i s =>
      let l := s.lane n
      if !l.cond i.m then (.seq, s)
      else if !s.inCode n i.tgt then (.trap 3, s)
      else (.jump i.tgt, s.setLane n { l with loops := l.loops.filter (fun e => decide (e.start ≤ i.tgt) && decide (i.tgt ≤ e.tgt)) }) }

def opLoop : Op :=
  { d := .lc, b := .sc, m := 1, imm := .tgt, reads := fun i => (true, i.m0)
    run := fun n i s =>
      let l := s.lane n
      let sb := (l.sc i.b).toInt
      let c : Nat := if i.m0 then (if sb < 0 then 0 else min sb.toNat 65535) else i.count
      let outer : Bool := match l.loops with
        | e :: _ => decide (e.tgt < i.tgt)
        | [] => false
      if l.loops.any (fun e => e.n == i.d) || outer then (.trap 4, s)
      else if i.tgt ≤ l.pc ∨ 8 + s.codeLen n (s.activeBank n) ≤ i.tgt then (.trap 3, s)
      else if c = 0 then (.skip (i.tgt + 1), s.setLane n { l with lc := upd l.lc i.d 0 })
      else (.seq, s.setLane n { l with lc := upd l.lc i.d c, loops := { n := i.d, start := l.pc + 1, tgt := i.tgt } :: l.loops }) }

def opFend : Op := { waits := fun _ => true, run := fun _ _ s => (.fend, s) }

def opTrap : Op := { run := fun _ _ s => (.trap 5, s) }

/-- The opcodes (Table 9.3); any other traps with cause ILLEGAL. -/
def opOf (op : Nat) : Option Op :=
  look none
    ([ (0x00, some opNop), (0x01, some opLdv), (0x02, some opStv), (0x03, some opLds), (0x04, some opSts), (0x05, some opLdvx)
     , (0x06, some opIns), (0x07, some opOuts), (0x08, some opMova), (0x09, some opAdda), (0x0A, some opMovas), (0x0B, some opMovsa)
     , (0x0C, some opMovs), (0x0D, some opMovfs), (0x0E, some opClrf), (0x0F, some opMovls) ]
    ++ [ (0x10, some opVadd), (0x11, some opVsub), (0x12, some opVmul), (0x13, some opVmac), (0x14, some opVmuls)
     , (0x15, some opVmacs), (0x16, some opVabs), (0x17, some opVmax), (0x18, some opVmin), (0x19, some opVclip), (0x1A, some opVmov)
     , (0x1B, some opVbcst), (0x1C, some opVext), (0x1D, some opVins), (0x1E, some opVsum), (0x1F, some opVpeak) ]
    ++ [ (0x20, some opSadd), (0x21, some opSsub), (0x22, some opSmul), (0x23, some opSmac), (0x24, some opSmax), (0x25, some opSmin)
     , (0x26, some opScmp), (0x27, some opSiadd), (0x28, some opSand), (0x29, some opSor), (0x2A, some opSxor), (0x2B, some opSshf)
     , (0x2C, some opSicmp), (0x2D, some opScvtf), (0x2E, some opScvti), (0x2F, some opGwamp) ]
    ++ [ (0x30, some opMix), (0x31, some opMixv), (0x40, some opBiq), (0x41, some opEnv), (0x42, some opVlog2), (0x43, some opVexp2)
     , (0x44, some opGainc), (0x45, some opRamp), (0x50, some opDqpush), (0x51, some opDqpop), (0x58, some opSpush)
     , (0x59, some opSpushs), (0x5A, some opSpkt), (0x70, some opBr), (0x71, some opLoop), (0x7E, some opFend), (0x7F, some opTrap) ])
    op

/-- The fields of an instruction word (Table 9.1). -/
def Insn.ofWords (lo hi : Word) : Insn :=
  { op := bitsOf hi.toNat 31 24, d := bitsOf hi.toNat 23 19, a := bitsOf hi.toNat 18 14, b := bitsOf hi.toNat 13 9
    m := bitsOf hi.toNat 8 5, z := bitsOf hi.toNat 4 0, imm := lo }

/-! Issue (R247, R248, R267, R269) -/

/-- The registers an instruction writes, as keys of R247. -/
def Op.writes (o : Op) (i : Insn) : List Nat :=
  (if o.d = .lc then [] else o.d.key i.d) ++ (if o.imm = .mem ∧ o.b = .ad ∧ i.inc ≠ 0 then o.b.key i.b else [])
    ++ (if o.zn i && o.lat i != 0 then [80] else [])

/-- The registers it reads or writes. -/
def Op.touches (o : Op) (i : Insn) : List Nat :=
  o.d.key i.d ++ (if (o.reads i).1 then o.a.key i.a else []) ++ (if (o.reads i).2 then o.b.key i.b else []) ++ (if o.zn i then [80] else []) ++ o.more i

/-- The cycle at which an instruction issues (R247, R248). -/
def Op.issueAt (o : Op) (l : Lane) (i : Insn) : Nat :=
  let t := (o.touches i).foldl (fun t k => max t (look 0 l.ready k)) l.cyc
  if o.waits i then max t l.done else t

/-- The cycle counts after an instruction that issued at `t`, with stall cycles added to its latency. -/
def Op.account (o : Op) (i : Insn) (t issue stall : Nat) (l : Lane) : Lane :=
  let fin := t + (if o.lat i = 0 then issue else max issue (o.lat i + stall))
  { l with
    cyc := t + issue, done := max l.done fin, last := l.pc
    ready := (o.writes i).foldl (fun r k => upd r k (t + o.lat i + stall)) l.ready }

/-- The end of a loop body (R267): the stack and the counters after it, and the next index. -/
def loopEnd (pc : Nat) : List LoopEnt → List (Nat × Nat) → List LoopEnt × List (Nat × Nat) × Nat
  | [], lc => ([], lc, pc + 1)
  | e :: t, lc =>
    if e.tgt ≠ pc then (e :: t, lc, pc + 1)
    else if 1 < look 0 lc e.n then (e :: t, upd lc e.n (look 0 lc e.n - 1), e.start)
    else loopEnd pc t lc

/-- The frame end retires (R215, R218, R268). -/
def State.laneFend (s : State) (n t : Nat) : State :=
  let l := s.lane n
  let c := t + 1
  let s := (s.put (R.LANE_CYC_LAST_CYCLES n) (min c (2 ^ 20 - 1))).put (R.LANE_CYC_MAX_CYCLES n)
    (max (s.get (R.LANE_CYC_MAX_CYCLES n)) (min c (2 ^ 20 - 1)))
  let s := s.put (R.LANE_STALL_LAST_CYCLES n) (min l.stalls (2 ^ 20 - 1))
  let s := s.put64 (R.LANE_RUNS_LO n) (R.LANE_RUNS_HI n) (s.get64 (R.LANE_RUNS_LO n) (R.LANE_RUNS_HI n) + 1)
  let dl := s.get (R.ISL_DL_CYCLES (8 + n))
  let s := if dl ≠ 0 ∧ dl < c then s.raise (R.LANE_EVENT_CYCLES n) else s
  s.setLane n
    { (l.setFlag 2 false) with
      active := false, retired := some c, loops := [], pc := s.entryOf n (s.activeBank n) }

/-- After an instruction that issued at `t`: the cycle counts and the next index. -/
def State.laneGo (s : State) (n : Nat) (o : Op) (i : Insn) (t stall : Nat) (x : Next) : State :=
  let l := s.lane n
  match x with
  | .jump p => s.setLane n { (o.account i t 3 stall l) with pc := p }
  | .skip p => s.setLane n { (o.account i t 3 stall l) with pc := p }
  | .fend => (s.setLane n (o.account i t 1 stall l)).laneFend n t
  | _ =>
    let l := o.account i t (o.issue i) stall l
    let r := loopEnd l.pc l.loops l.lc
    s.setLane n { l with loops := r.1, lc := r.2.1, pc := r.2.2 }

/-- Lane `n` issues an instruction of opcode `o`. A trap has no effect but the trap (R269). -/
def State.laneIssue (s : State) (n : Nat) (o : Op) (i : Insn) : State :=
  let l := s.lane n
  if !o.fieldsOk i then s.laneTrap n l.pc 2
  else
    match o.run n i s with
    | (.trap c, _) => s.laneTrap n l.pc c
    | (.stall, s) => (s.setLane n { s.lane n with waiting := some i }).raise (R.LANE_EVENT_DQ_STALL n)
    | (x, s) => s.laneGo n o i (o.issueAt l i) 0 x

/-- Stall cycles that a pop has caused (R233). -/
def State.dqStalled (s : State) (i : Insn) (stall : Nat) : State :=
  let q := bitsOf i.imm.toNat 4 0
  s.put (R.DQ_STALL_CNT_COUNT q) (s.get (R.DQ_STALL_CNT_COUNT q) + stall)

/-- The data of the pop that stalls the lane arrives after `stall` cycles, and the lane continues (R233, R264). -/
def State.popArrive (s : State) (n stall : Nat) : State :=
  let l := s.lane n
  match l.waiting with
  | none => s
  | some i =>
    let q := bitsOf i.imm.toNat 4 0
    if s.inRun n && s.get R.MEM_STATUS_STATE == 2 then
      let s := (s.setDq q { s.dq q with late := false }).dqStalled i stall
      let s := s.setLane n (({ l with waiting := none, stalls := l.stalls + stall } : Lane).setVec i.d (s.dqPop q (i.lineAt (l.sc i.b))))
      s.laneGo n opDqpop i (opDqpop.issueAt l i) stall .seq
    else s

/-- The instruction at the lane's PC, in the active bank (R212). -/
def State.insnAt (s : State) (n : Nat) : Insn :=
  let o := 8 * (s.lane n).pc
  Insn.ofWords (s.rd (bankAddr n (s.activeBank n) o)) (s.rd (bankAddr n (s.activeBank n) (o + 4)))

/-- The instruction at the lane's PC issues (R268). -/
def State.laneFetch (s : State) (n : Nat) : State :=
  let l := s.lane n
  if s.inCode n l.pc then
    let i := s.insnAt n
    match opOf i.op with
    | some o => s.laneIssue n o i
    | none => s.laneTrap n l.pc 1
  else s.laneTrap n l.last 3

end Sys2Proof.Machine
end

