-- ==== Sys2Proof/Machine/Spelt.lean ====
section
/-!
DEFINITION. The Spelt engine: commands, images, runs and the frame, swaps, overruns, debug, DRAM queues and the DRAM controller
(chapter 8). A lane's instructions that no command has issued are issued at the latest when the frame ends (log entry 40).
-/
namespace Sys2Proof.Machine

/-! Images (R221, R226) -/

/-- The crosspoint ranges of two lanes share an entry. -/
def State.xpOverlap (s : State) (n m : Nat) : Bool :=
  let a := s.get (R.LANE_XP_XP_BASE n)
  let b := s.get (R.LANE_XP_XP_BASE m)
  decide (max a b < min (a + s.get (R.LANE_XP_XP_COUNT n)) (b + s.get (R.LANE_XP_XP_COUNT m)))

/-- Bits the header requires to be zero (Table 8.4). -/
def State.headerZero (s : State) (n bank : Nat) : Bool :=
  bitsOf (s.header n bank 0x04) 31 19 == 0 && bitsOf (s.header n bank 0x0C) 31 20 == 0
    && bitsOf (s.header n bank 0x10) 31 15 == 0 && s.header n bank 0x38 == 0

/-- RESULT of a START or a SWAP of `bank` (Table 8.5), in the order checked. -/
def State.imageResult (s : State) (n : Nat) (swap : Bool) (bank : Nat) : Nat :=
  let st := s.laneState n
  let h4 := s.header n bank 0x04
  let len := s.codeLen n bank
  if swap && (!(st == 2 || st == 3) || s.flag (R.LANE_STATUS_SWAP_PENDING n)) then 8
  else if !swap && !(st == 0 || st == 4) then 8
  else if s.header n bank 0 ≠ 0x544C5053 then 1
  else if bitsOf h4 15 0 ≠ 1 ∨ len = 0 ∨ 4088 < len ∨ 8 + len ≤ s.entryOf n bank ∨ !s.headerZero n bank then 2
  else if s.header n bank 0x3C ≠ s.imageCrc n bank then 3
  else if !bitOf h4 (if s.rate = 48000 then 16 else 17) then 6
  else if bitOf h4 18 ∧ s.get R.MEM_STATUS_STATE ≠ 2 then 7
  else if (!swap && decide (16384 < s.get (R.LANE_XP_XP_BASE n) + s.get (R.LANE_XP_XP_COUNT n)))
      || decide (s.get (R.LANE_XP_XP_COUNT n) < bitsOf (s.header n bank 0x10) 14 0) then 4
  else if !swap && (sel 16 (fun m => m != n && s.laneRuns m && s.xpOverlap n m)).length != 0 then 5
  else 0

def State.laneResult (s : State) (n r : Nat) : State :=
  let s := s.put (R.LANE_STATUS_RESULT n) r
  if r = 0 then s else s.raise (R.LANE_EVENT_REFUSED n)

/-- Verification finishes: the command is accepted or refused (R226, R228, R229). A SWAP names the bank that is not active then. -/
def State.laneVerified (s : State) (n : Nat) : State :=
  let l := s.lane n
  match l.verify with
  | [] => s
  | (swap, bank) :: t =>
    if s.domOn (laneDom n) then
      let s := s.setLane n { l with verify := t }
      let bank := if swap then 1 - s.activeBank n else bank
      let r := s.imageResult n swap bank
      let s := s.laneResult n r
      if r ≠ 0 then s
      else if swap then (s.raise (R.LANE_STATUS_SWAP_PENDING n)).speltShow
      else
        let s := (s.put (R.LANE_STATUS_ACTIVE_BANK n) bank).put64 (R.LANE_RUNS_LO n) (R.LANE_RUNS_HI n) 0
        ({ s with pwr := { s.pwr with capped := dropFrom s.pwr.capped n } }.setLane n { s.lane n with lastOut := [], overs := 0 }).setLaneState n 1
    else s

/-- STOP (R227, R228). -/
def State.laneStopCmd (s : State) (n : Nat) : State :=
  let s := s.laneResult n 0
  if s.laneRuns n then
    (s.put (R.LANE_STATUS_SWAP_PENDING n) 0).setLane n { s.lane n with
      stopReq := true, wait := if (s.lane n).stopReq then (s.lane n).wait else s.tooSoon, released := false } |>.speltShow
  else if s.laneState n = 4 then s.setLaneState n 0
  else s

/-- A write of a lane's CTRL (Table 8.11). -/
def State.laneCtrlWrite (s : State) (n : Nat) (w : Word) : State :=
  if s.domOn (laneDom n) then
    let s := (s.wr (R.LANE_CTRL n) (w &&& 0xF38)).speltShow
    let cmd := (R.LANE_CTRL_CMD n).ofWord w
    if cmd = 1 then s.setLane n { s.lane n with verify := (s.lane n).verify ++ [(false, s.get (R.LANE_CTRL_START_BANK n))] }
    else if cmd = 2 then s.laneStopCmd n
    else if cmd = 3 then s.setLane n { s.lane n with verify := (s.lane n).verify ++ [(true, 1 - s.activeBank n)] }
    else if cmd = 4 then
      if s.flag (R.LANE_STATUS_SWAP_PENDING n) then
        (((s.clr (R.LANE_STATUS_SWAP_PENDING n)).laneResult n 0).setLane n { s.lane n with released := false }).speltShow
      else s.laneResult n 8
    else s
  else s

/-- A write of XP_BASE and XP_COUNT (R221). -/
def State.laneXpWrite (s : State) (n : Nat) (w : Word) : State := if s.laneRuns n then s else s.wr (R.LANE_XP n) (w &&& 0x7FFF3FFF)

/-- A host write of program memory word `o` of lane `n` (R212). -/
def State.progWrite (s : State) (n o : Nat) (w : Word) : State :=
  let bank := o / 0x8000
  if s.laneRuns n ∧ (bank = s.activeBank n ∨ s.flag (R.LANE_STATUS_SWAP_PENDING n)) then s.raise (R.LANE_EVENT_BANK_WR n)
  else s.wr (bankAddr n 0 o) w

/-! Debug (R239, R241) -/

def State.dbgOff (s : State) : Bool := s.flag ⟨R.FUSE_WORD 24, 1, 1⟩

/-- Where DBG_STATUS says a halted lane stands (Table 8.13). -/
def State.dbgPlace (s : State) (n : Nat) : State :=
  (s.put (R.LANE_DBG_STATUS_BANK n) (s.activeBank n)).put (R.LANE_DBG_STATUS_PC n) (s.lane n).pc

def State.dbgShow (s : State) (n cause bp : Nat) : State :=
  ((s.put (R.LANE_DBG_STATUS_CAUSE n) cause).put (R.LANE_DBG_STATUS_BP n) bp).dbgPlace n

/-- The lane halts. -/
def State.laneHaltNow (s : State) (n cause bp : Nat) : State := (s.setLaneState n 3).dbgShow n cause bp

/-- The breakpoint that names the lane's next instruction. -/
def State.bpHit (s : State) (n : Nat) : Option Nat :=
  (sel 4 (fun k => s.flag (R.LANE_BP_EN n k) && s.get (R.LANE_BP_ADDR n k) == (s.lane n).pc
    && s.get (R.LANE_BP_BANK n k) == s.activeBank n)).head?

/-- A run acts at its next instruction: a breakpoint there halts the lane first, and only once (R239). A lane that is in no run, or
whose pop waits for its data, does nothing. -/
def State.laneAt (s : State) (n : Nat) (f : State → State) : State :=
  if s.inRun n && (s.lane n).waiting.isNone then
    match (if (s.lane n).pastBp || s.dbgOff then none else s.bpHit n) with
    | some k => s.laneHaltNow n 2 k
    | none => f (s.setLane n { s.lane n with pastBp := false })
  else s

/-- A STEP ends once its instruction has executed: a pop that stalls has not (R239, R264). -/
def State.laneStepped (s : State) (n : Nat) : State :=
  if !s.dbgOff ∧ (s.lane n).stepping ∧ s.laneState n = 2 ∧ (s.lane n).waiting = none then
    (s.setLane n { s.lane n with stepping := false }).laneHaltNow n 1 0
  else s

/-- One step of a run: the instruction at PC issues. -/
def State.laneStep1 (s : State) (n : Nat) : State := s.laneAt n (fun s => (s.laneFetch n).laneStepped n)

/-- The cycle at which the instruction at PC issues (R247). -/
def State.nextCycle (s : State) (n : Nat) : Nat :=
  let l := s.lane n
  let i := s.insnAt n
  match opOf i.op with
  | some o => if s.inCode n l.pc then o.issueAt l i else l.cyc
  | none => l.cyc

/-- The run goes on while its instructions issue before cycle `limit`: at most `fuel` of them. -/
def State.laneRun (n limit : Nat) : Nat → State → State
  | 0, s => s
  | fuel + 1, s =>
    if s.inRun n && (s.lane n).waiting.isNone && decide (s.nextCycle n < limit) then State.laneRun n limit fuel (s.laneStep1 n) else s

/-- What follows an instruction that a command issues: a STEP ends, execution that reaches the end of the code traps, and a breakpoint
halts the lane before the next instruction (R239, R268). -/
def State.laneAfter (s : State) (n : Nat) : State :=
  (s.laneStepped n).laneAt n (fun s => if s.inCode n (s.lane n).pc then s else s.laneTrap n (s.lane n).last 3)

/-- The data of the pop that stalls the lane arrives, and the lane goes on (R233, R239). -/
def State.popComes (s : State) (n cycles : Nat) : State :=
  if (s.lane n).waiting = none then s else (s.popArrive n cycles).laneAfter n

/-- HALT, RESUME and STEP (R239). -/
def State.dbgCtrlWrite (s : State) (n : Nat) (w : Word) : State :=
  if s.domOn (laneDom n) && !s.dbgOff then
    let s := s.wr (R.LANE_DBG_CTRL n) (w &&& 8)
    if bitOf w.toNat 0 ∧ s.laneState n = 2 then s.laneHaltNow n 0 0
    else if bitOf w.toNat 1 ∧ s.laneState n = 3 then
      (s.setLane n { s.lane n with pastBp := true, stepping := false }).setLaneState n 2
    else if bitOf w.toNat 2 ∧ s.laneState n = 3 then
      let s := (s.setLane n { s.lane n with pastBp := true, stepping := true }).setLaneState n 2
      s.laneStep1 n
    else s
  else s

/-- The window REGS of a halted lane (Table 8.14, R239, R241). -/
def State.regsRead (s : State) (n o : Nat) : Word :=
  let l := s.lane n
  if s.domOn (laneDom n) && s.laneState n == 3 && !s.dbgOff then
    if o < 0x400 then look 0 l.v (o / 4)
    else if o < 0x480 then l.sc ((o - 0x400) / 4)
    else if o < 0x4C0 then l.ad ((o - 0x480) / 4)
    else if o < 0x4D0 then BitVec.ofNat 32 (look 0 l.lc ((o - 0x4C0) / 4))
    else if o < 0x4D4 then BitVec.ofNat 32 l.pc
    else if o < 0x4D8 then l.flags
    else 0
  else 0

def State.regsWrite (s : State) (n o : Nat) (w : Word) : State :=
  let l := s.lane n
  if s.domOn (laneDom n) && s.laneState n == 3 && !s.dbgOff then
    if o < 0x400 then s.setLane n { l with v := upd l.v (o / 4) w }
    else if o < 0x480 then s.setLane n (l.setSc ((o - 0x400) / 4) w)
    else if o < 0x4C0 then s.setLane n (l.setAd ((o - 0x480) / 4) w)
    else if o < 0x4D0 then s.setLane n { l with lc := upd l.lc ((o - 0x4C0) / 4) (w.toNat % 65536) }
    else if o < 0x4D4 then
      (s.setLane n { l with pc := w.toNat % 4096, loops := [] }).put (R.LANE_DBG_STATUS_PC n) (w.toNat % 4096)
    else if o < 0x4D8 then s.setLane n { l with flags := (w &&& 0x1F03) ||| (l.flags &&& 4) }
    else s
  else s

/-! Runs and the frame (R215 to R220, R227 to R230, R240) -/

/-- The cycles of lane `n`'s clock in one engine frame. -/
def State.frameCycles (s : State) (n : Nat) : Nat := s.get (R.ISL_STATUS_CUR_FREQ (8 + n)) * 2000000 / s.rate

/-- Whether a run of `c` cycles retired at least t_FEND, 0.25 µs, before the boundary (R215, R219). -/
def State.onTime (s : State) (n c : Nat) : Bool :=
  decide (c * 16 * s.rate ≤ s.get (R.ISL_STATUS_CUR_FREQ (8 + n)) * (32000000 - s.rate))

/-- The frame ends: the lane's run goes as far as cycle `limit` (R219). A pop that still stalls it has stalled it until then (R233),
and an instruction that traps in the boundary's own cycle is kept for after the overrun (R269). -/
def State.laneFinish (s : State) (n limit : Nat) : State :=
  let s := State.laneRun n limit limit s
  let l := s.lane n
  match l.waiting with
  | some i => if s.inRun n then s.dqStalled i (limit - opDqpop.issueAt l i) else s
  | none =>
    let t := s.laneStep1 n
    if s.inRun n && s.nextCycle n == limit && t.laneState n == 4 then
      s.setLane n { l with trapDue := some (t.get (R.LANE_TRAP_PC n), t.get (R.LANE_TRAP_CAUSE n)) }
    else s

/-- The output slots of a completed run reach the fabric: what a run did not write is zero, and NaN is replaced (R214, R217). -/
def State.lanePresent (s : State) (n : Nat) : State :=
  (s.outMap n (s.activeBank n)).foldl (fun s k =>
    let xs := look (List.replicate 8 0) (s.lane n).outs k
    let nans := (xs.filter isNaN32).length
    let ys := (xs.map (fun x => if isNaN32 x then 0 else x)).take s.audio.len
    let s := s.put (R.LANE_NAN_CNT_COUNT n) (s.get (R.LANE_NAN_CNT_COUNT n) + nans)
    (s.present (slotId n k) ys).setLane n
      { s.lane n with lastOut := upd (s.lane n).lastOut k ((ys.getLast?).getD 0) }) s

/-- An overrun is counted and the lane's sources stop (R219, R240). -/
def State.laneOverrun (s : State) (n : Nat) : State :=
  let s := ((s.count (R.LANE_OVR_CNT_COUNT n)).raise (R.LANE_STATUS_OVERRUN n)).raise (R.LANE_EVENT_OVERRUN n)
  s.laneMute n

/-- A run has overrun: it is cut off, OVR_STOP acts, and a trap in the boundary's own cycle follows (R219, R220, R269). -/
def State.laneCut (s : State) (n : Nat) : State :=
  let l := s.lane n
  let s := (s.laneOverrun n).setLane n
    { l with active := false, waiting := none, outs := [], overs := l.overs + 1, loops := [], skipped := false, trapDue := none }
  let s := if s.flag (R.LANE_CTRL_OVR_STOP n) ∧ max 1 (s.get (R.LANE_CTRL_OVR_LIMIT n)) ≤ l.overs + 1 then s.laneFault n else s
  match l.trapDue with
  | some (pc, cause) => s.laneTrap n pc cause
  | none => s

/-- At the boundary: the run's outputs are taken, or it has overrun (R215, R219, R220). A lane that is halted counts an overrun, and
its run, once resumed, completes without giving outputs (R240). -/
def State.laneJudge (s : State) (n : Nat) : State :=
  let st := s.laneState n
  if s.domOn (laneDom n) then
    let s := s.put (R.LANE_STATUS_OVERRUN n) 0
    if st = 2 ∨ st = 3 then
      let l := s.lane n
      let good := st == 2 && !l.skipped && match l.retired with
        | some c => s.onTime n c
        | none => false
      let s := if good then (s.lanePresent n).setLane n { (s.lanePresent n).lane n with overs := 0 } else s
      if st = 3 then
        let s := s.laneOverrun n
        s.setLane n { s.lane n with skipped := l.active, retired := none, outs := [] }
      else if good then (s.outMap n (s.activeBank n)).foldl (fun s k => s.srcReturn (slotId n k)) s
      else if l.active || (l.retired.isSome && !l.skipped) then s.laneCut n
      else s
    else s
  else s

/-- The cycle at which a lane's frame ends: a run resumed after a boundary has a whole frame's cycles from where it was. -/
def State.runLimit (s : State) (n : Nat) : Nat := s.frameCycles n + (if (s.lane n).skipped then (s.lane n).cyc else 0)

/-- The lane's sources of the ended frame (R215): a lane's run of frame k gives its output slots for frame k. -/
def State.lanesEnd (s : State) : State := forN 16 (fun n s => (s.laneFinish n (s.runLimit n)).laneJudge n) s

/-- What the fabric presented last of each lane source under a fast mute is what a stop fades from (R198). -/
def State.lanesHeard (s : State) : State :=
  (s.route.muted.filter (fun e => decide (2048 ≤ e.1) && decide (e.1 < 4096))).foldl (fun s e =>
    let n := (e.1 - 2048) / 128
    s.setLane n { s.lane n with lastOut := upd (s.lane n).lastOut ((e.1 - 2048) % 128) (s.srcLast e.1) }) s

/-- A STOP acts (R228): the sources are faded. -/
def State.laneStopNow (s : State) (n : Nat) : State := ((s.laneMute n).laneQuit n).setLaneState n 0

/-- A waiting commit names the lane: its swap acts at the commit's boundary instead of its own (R197). -/
def State.swapNamed (s : State) (n : Nat) : Bool :=
  match s.route.commit with
  | some c => c.swap.testBit n
  | none => false

/-- A pending swap acts unless it is held; `freed` says that a commit names the lane, whose swap then waits for SETTLING alone (R197,
R229, R230). -/
def State.laneSwapNow (s : State) (n : Nat) (freed : Bool) : State :=
  let freed := freed || (s.lane n).released
  if !s.flag (R.LANE_STATUS_SWAP_PENDING n) || !(freed || (!s.flag (R.LANE_CTRL_SWAP_HOLD n) && !s.swapNamed n)) then s
  else if s.flag (R.ISL_STATUS_SETTLING (8 + n)) then (s.setLane n { s.lane n with released := freed }).speltShow
  else
    let bank := s.activeBank n
    let old := s.outMap n bank
    let new := s.outMap n (1 - bank)
    let s := ((s.put (R.LANE_STATUS_ACTIVE_BANK n) (1 - bank)).put (R.LANE_STATUS_SWAP_PENDING n) 0).raise (R.LANE_EVENT_SWAP_DONE n)
    let s := s.setLane n
      { (s.lane n).zeroed with active := false, retired := none, waiting := none, outs := [], skipped := false, released := false }
    let s := if old = new then s
      else
        let s := (s.laneFade n (old.filter (fun k => !new.contains k))).raise (R.LANE_EVENT_SWAP_MAP n)
        (new.filter (fun k => !old.contains k)).foldl (fun s k => s.srcFadeIn (slotId n k)) s
    s.speltShow

/-- The input slots of the run that begins: the sinks of the ended frame, for the slots mapped (R214). -/
def State.laneInputs (s : State) (n : Nat) : List (Nat × List F32) :=
  (s.inMap n (s.activeBank n)).map (fun k => (k, s.sinkNow (2048 + 128 * n + k)))

/-- A run begins at this boundary (R215, R216, R227, R239). -/
def State.laneBegin (s : State) (n : Nat) (first : Bool) : State :=
  let s := s.xpsTake n first
  let pc := s.entryOf n (s.activeBank n)
  let s := s.setLane n
    { s.lane n with
      pc, active := true, retired := none, cyc := 0, ready := [], done := 0, stalls := 0, last := pc, loops := []
      ins := s.laneInputs n, outs := [], skipped := false, waiting := none, pastBp := false }
  if s.laneState n = 3 then s.dbgPlace n
  else if s.flag (R.LANE_DBG_CTRL_BRK_FRAME n) && !s.dbgOff then s.laneHaltNow n 3 0
  else s

/-- The lane's swap, and the first run of the program it brings. -/
def State.laneSwapRun (s : State) (n : Nat) (freed : Bool) : State :=
  let t := s.laneSwapNow n freed
  if t.activeBank n ≠ s.activeBank n then t.laneBegin n false else t

/-- The lane at a frame boundary, once the ended frame has been routed (Table 8.6). -/
def State.laneBoundary (s : State) (freed n : Nat) : State :=
  if s.domOn (laneDom n) then
    let st := s.laneState n
    let l := s.lane n
    let s := s.setLane n { l with wait := false }
    if l.stopReq ∧ ¬ l.wait ∧ s.laneRuns n then s.laneStopNow n
    else if st = 1 then
      if s.flag (R.ISL_STATUS_SETTLING (8 + n)) then s
      else
        let s := (s.setLane n (s.lane n).zeroed).setLaneState n 2
        let s := (s.outMap n (s.activeBank n)).foldl (fun s k => s.srcFadeIn (slotId n k)) s
        s.laneBegin n true
    else if st = 2 ∨ st = 3 then
      let t := s.laneSwapRun n (freed.testBit n)
      if st = 2 ∧ t.activeBank n = s.activeBank n then t.laneBegin n false else t
    else s
  else s

/-! DRAM queues (R233 to R237) -/

/-- The transfer rate in MT/s (Table 8.16). -/
def State.memRate (s : State) : Nat :=
  match s.get R.MEM_CFG_RATE with
  | 0 => 3200
  | 1 => 4266
  | 2 => 5500
  | _ => 6400

/-- The queue share in bursts per frame (R237). -/
def State.dqShare (s : State) : Nat :=
  let p := s.memRate * 500000 / s.rate
  let pct := max 10 (min 80 (s.get R.MEM_CFG_RESERVE_PCT))
  p * pct / 100 - 2048

/-- The costs of the ACTIVE queues. -/
def State.dqCosts (s : State) : Nat :=
  (sel 32 (fun q => s.get (R.DQ_STATUS_STATE q) == 2)).foldl (fun a q => a + s.get (R.DQ_STATUS_COST q)) 0

/-- Q_AVAIL, while the DRAM is trained (R237). -/
def State.memShow (s : State) : State :=
  if s.on .memc then
    let st := s.get R.MEM_STATUS_STATE
    s.put R.MEM_STATUS_Q_AVAIL (if st = 2 ∨ st = 3 then min 65535 (s.dqShare - s.dqCosts) else 0)
  else s

/-- The bytes of LP5 DRAM that MEM.CFG.SIZE gives. -/
def State.dramBytes (s : State) : Nat := 65536 * s.dramUnits

/-- RESULT of a queue start (Table 8.8), in the order checked. -/
def State.dqResult (s : State) (q : Nat) : Nat :=
  let lines := s.get (R.DQ_CFG_LINES q)
  let len := s.get (R.DQ_LEN_LEN q)
  if s.get (R.DQ_STATUS_STATE q) ≠ 0 then 5
  else if lines = 0 ∨ 64 < lines ∨ len < 32 then 1
  else if s.get R.MEM_STATUS_STATE ≠ 2 then 2
  else if s.dramBytes < s.get (R.DQ_BASE_BASE q) * 1024 + lines * len * 4 then 3
  else if s.dqShare < s.dqCosts + 5 * lines then 4
  else 0

/-- A write of a queue's CFG (R235). -/
def State.dqCfgWrite (s : State) (q : Nat) (w : Word) : State :=
  if s.domOn (laneDom (q / 2)) then
    let en := (R.DQ_CFG_EN q).ofWord w
    let was := s.get (R.DQ_CFG_EN q)
    let st := s.get (R.DQ_STATUS_STATE q)
    let s := if st = 0 then s.wr (R.DQ_CFG q) (w &&& 0x7F) else s
    if en = 1 ∧ was = 0 then
      let r := s.dqResult q
      let s := s.put (R.DQ_STATUS_RESULT q) r
      if r ≠ 0 then s.raise (R.LANE_EVENT_DQ_REFUSED (q / 2))
      else
        let s := ((s.raise (R.DQ_CFG_EN q)).put (R.DQ_STATUS_STATE q) 1).put (R.DQ_STATUS_COST q) (5 * s.get (R.DQ_CFG_LINES q))
        (s.setDq q { wait := s.tooSoon }).memShow
    else if en = 0 ∧ st ≠ 0 then (s.clr (R.DQ_CFG_EN q)).setDq q { s.dq q with stopReq := true, wait := s.tooSoon }
    else s
  else s

/-- The queue stops and releases its reservation (R235). -/
def State.dqStopNow (s : State) (q : Nat) : State :=
  let s := ((s.put (R.DQ_STATUS_STATE q) 0).put (R.DQ_STATUS_COST q) 0).clr (R.DQ_CFG_EN q)
  { s with spelt := { s.spelt with dqs := del s.spelt.dqs q } }.memShow

/-- BASE and LEN may change only while the queue is STOPPED (R235). -/
def State.dqParamWrite (s : State) (q a : Nat) (w mask : Word) : State :=
  if s.get (R.DQ_STATUS_STATE q) = 0 then s.wr a (w &&& mask) else s

def State.tapWrite (s : State) (q l : Nat) (w : Word) : State :=
  if s.domOn (laneDom (q / 2)) then s.wr (R.DQTAP q l) (w &&& 0x00FFFFFF) else s

/-- DELAY as it acts: from 24 to LEN − 16 (R233). -/
def State.tapDelay (s : State) (q l : Nat) : Nat := max 24 (min (s.get (R.DQTAP_DELAY q l)) (s.get (R.DQ_LEN_LEN q) - 16))

/-- An abort of a queue: its run state is as after reset (R73). -/
def State.dqAbort (s : State) (q : Nat) : State := (s.dqStopNow q).put (R.DQ_STATUS_RESULT q) 0

/-- A tap at a boundary (R234): a crossfade goes on or ends, and a changed delay starts one (log entry 305). -/
def tapNext (want : Nat) (t : TapSt) : TapSt :=
  let xf := match t.xf with
    | some (old, k) => if 64 ≤ k + 8 then none else some (old, k + 8)
    | none => none
  if xf.isNone ∧ want ≠ t.delay then { delay := want, xf := some (t.delay, 0) } else { t with xf }

/-- A queue at a boundary (R233, R235). The run that begins finds its pops' data unless the DRAM is not READY, or a prefetch has
completed late (R237). -/
def State.dqBoundary (s : State) (q : Nat) : State :=
  if s.domOn (laneDom (q / 2)) then
    let st := s.get (R.DQ_STATUS_STATE q)
    let d := s.dq q
    let ls := List.range (s.get (R.DQ_CFG_LINES q))
    if st = 0 then s
    else if d.stopReq ∧ ¬ d.wait then s.dqStopNow q
    else if st = 1 ∧ d.wait then s.setDq q { d with wait := false }
    else if st = 1 then
      ((s.put (R.DQ_STATUS_STATE q) 2).setDq q { taps := ls.map (fun l => (l, { delay := s.tapDelay q l })) }).memShow
    else
      let len := s.get (R.DQ_LEN_LEN q)
      let lines := ls.map (fun l =>
        (l, (((look (List.replicate 8 0) d.pushed l).reverse) ++ look [] d.lines l).take len))
      let taps := ls.map (fun l => (l, tapNext (s.tapDelay q l) (look {} d.taps l)))
      s.setDq q { lines, taps, stopReq := d.stopReq, late := d.lateNext || s.get R.MEM_STATUS_STATE != 2 }
  else s

/-! The DRAM controller (R236, R238) -/

def State.setMem (s : State) (v : Nat) : State :=
  let s := s.put R.MEM_STATUS_STATE v
  (if v = 2 then s.raise R.MEM_EVENT_READY else s).memShow

def State.memRefuse (s : State) (r : Nat) : State := (s.put R.MEM_STATUS_RESULT r).raise R.MEM_EVENT_REFUSED

/-- The DRAM is in use: a spilled receive buffer, a silo's middle region, or a queue that is not STOPPED (R238). -/
def State.dramInUse (s : State) : Bool :=
  s.anySpilled || s.anyMiddle || (sel 32 (fun q => s.get (R.DQ_STATUS_STATE q) != 0)).length != 0

/-- A write of MEM.CTRL once its guard has passed (R238, R244). -/
def State.memCtrlWrite (s : State) (w : Word) : State :=
  if s.on .memc then
    let st := s.get R.MEM_STATUS_STATE
    let en := s.get R.MEM_CTRL_EN
    let e := R.MEM_CTRL_EN.ofWord w
    if st = 1 ∨ st = 3 then s.memRefuse 3
    else if e = 1 ∧ en = 0 then ((s.raise R.MEM_CTRL_EN).put R.MEM_STATUS_RESULT 0).setMem 1
    else if e = 0 ∧ en = 1 then
      if s.dramInUse then s.memRefuse 1 else ((s.clr R.MEM_CTRL_EN).put R.MEM_STATUS_RESULT 0).setMem 0
    else if R.MEM_CTRL_RETRAIN.ofWord w = 1 ∧ st = 2 then (s.put R.MEM_STATUS_RESULT 0).setMem 3
    else s
  else s

/-- A write of MEM.CFG: RATE and SIZE only while EN is clear (R238). -/
def State.memCfgWrite (s : State) (w : Word) : State :=
  if s.on .memc then
    (if s.flag R.MEM_CTRL_EN then s.put R.MEM_CFG_RESERVE_PCT (R.MEM_CFG_RESERVE_PCT.ofWord w)
      else s.wr R.MEM_CFG (w &&& 0xFF1F)).memShow
  else s

def State.memTrained (s : State) : State :=
  if s.on .memc && s.get R.MEM_STATUS_STATE == 1 then s.setMem 2 else s

def State.memFailed (s : State) : State :=
  if s.on .memc && s.get R.MEM_STATUS_STATE == 1 then
    ((s.put R.MEM_STATUS_RESULT 2).raise R.MEM_EVENT_TRAIN_FAIL).setMem 4
  else s

def State.memRetrained (s : State) : State :=
  if s.on .memc && s.get R.MEM_STATUS_STATE == 3 then s.setMem 2 else s

/-- A pop prefetch completes late (R233, R237): a pop of the next run of some ACTIVE queue's lane stalls. Which queue's it was is free
(log entry 288). -/
def State.popReadLate (s : State) : State :=
  let qs := sel 32 (fun q => s.get (R.DQ_STATUS_STATE q) == 2)
  if qs.isEmpty then s
  else
    let (k, s) := s.draw
    let q := (qs[Config.freeNat k % qs.length]?).getD 0
    s.setDq q { s.dq q with lateNext := true }

/-- A burst completes (R236, R237); `cls` counts from 0 here. -/
def State.burst (s : State) (cls : Nat) (late : Bool) : State :=
  if s.on .memc && s.get R.MEM_STATUS_STATE == 2 then
    let s := s.put64 R.MEM_BURSTS_LO R.MEM_BURSTS_HI (s.get64 R.MEM_BURSTS_LO R.MEM_BURSTS_HI + 1)
    if late && decide (cls < 2) then
      let s := (s.raise R.MEM_EVENT_DEADLINE).count R.MEM_LATE_CNT_COUNT
      if cls = 0 then s.rxReadLate else s.popReadLate
    else s
  else s

/-! Aborts and power (R231, R235) -/

/-- The pushes of lane `n` in the frame in progress are dropped (R231). -/
def State.dropPushes (s : State) (n : Nat) : State :=
  { s with spelt := { s.spelt with
    dqs := s.spelt.dqs.map (fun e => if e.1 / 2 = n then (e.1, ({ e.2 with pushed := [] } : DQueue)) else e) } }

/-- An abort of a lane (class 1): of its DBG_CTRL nothing is kept (Table 2.12). -/
def State.laneAbort (s : State) (n : Nat) : State :=
  if s.laneRuns n then
    let s := ((s.laneMute n).laneQuit n).setLaneState n 0
    let s := (((s.put (R.LANE_STATUS_RESULT n) 0).put (R.LANE_STATUS_OVERRUN n) 0).put (R.LANE_DBG_CTRL_BRK_FRAME n) 0).wr (R.LANE_DBG_STATUS n) 0
    (s.setLane n { s.lane n with verify := [], overs := 0 }).dropPushes n
  else s

/-- The engine's share of a domain that goes off: its lanes' sources stop and nothing of them is kept. -/
def State.lanesOff (s : State) (first : Nat) : State :=
  let s := forN 8 (fun k s => if s.laneRuns (first + k) then (s.laneMute (first + k)).laneSilos (first + k) else s) s
  { s with spelt := { s.spelt with
    lanes := s.spelt.lanes.filter (fun e => !(decide (first ≤ e.1) && decide (e.1 < first + 8)))
    dqs := s.spelt.dqs.filter (fun e => !(decide (first ≤ e.1 / 2) && decide (e.1 / 2 < first + 8))) } }

def execLaneStart (n : Fin 16) (w : BitVec 32) (s : State) : Result :=
  finish (s.hostPut (R.LANE_CTRL n) ((R.LANE_CTRL_CMD n).inWord w 1) (fun s => s.laneCtrlWrite n ((R.LANE_CTRL_CMD n).inWord w 1)))
def execLaneStop (n : Fin 16) (w : BitVec 32) (s : State) : Result :=
  finish (s.hostPut (R.LANE_CTRL n) ((R.LANE_CTRL_CMD n).inWord w 2) (fun s => s.laneCtrlWrite n ((R.LANE_CTRL_CMD n).inWord w 2)))
def execLaneSwap (n : Fin 16) (w : BitVec 32) (s : State) : Result :=
  finish (s.hostPut (R.LANE_CTRL n) ((R.LANE_CTRL_CMD n).inWord w 3) (fun s => s.laneCtrlWrite n ((R.LANE_CTRL_CMD n).inWord w 3)))
def execLaneCancelSwap (n : Fin 16) (w : BitVec 32) (s : State) : Result :=
  finish (s.hostPut (R.LANE_CTRL n) ((R.LANE_CTRL_CMD n).inWord w 4) (fun s => s.laneCtrlWrite n ((R.LANE_CTRL_CMD n).inWord w 4)))
def execCrosspointWrite (e : Fin 16384) (w : BitVec 32) (s : State) : Result :=
  finish (s.hostPut (R.SPELT_XP e) w (fun s => s.xpWrite e w))
def execDqStart (q : Fin 32) (w : BitVec 32) (s : State) : Result :=
  finish (s.hostPut (R.DQ_CFG q) ((R.DQ_CFG_EN q).inWord w 1) (fun s => s.dqCfgWrite q ((R.DQ_CFG_EN q).inWord w 1)))
def execDqStop (q : Fin 32) (w : BitVec 32) (s : State) : Result :=
  finish (s.hostPut (R.DQ_CFG q) ((R.DQ_CFG_EN q).inWord w 0) (fun s => s.dqCfgWrite q ((R.DQ_CFG_EN q).inWord w 0)))
def execDqTapWrite (q : Fin 32) (l : Fin 64) (w : BitVec 32) (s : State) : Result :=
  finish (s.hostPut (R.DQTAP q l) w (fun s => s.tapWrite q l w))
def execDqPopDataArrive (n : Fin 16) (cycles : Nat) (s : State) : Result := finish (s.popComes n cycles)
def execMemEnable (w : BitVec 32) (s : State) : Result :=
  finish (s.hostPut (R.MEM_CTRL) (R.MEM_CTRL_EN.inWord w 1) (fun s => s.memCtrlWrite (R.MEM_CTRL_EN.inWord w 1)))
def execMemDisable (w : BitVec 32) (s : State) : Result :=
  finish (s.hostPut (R.MEM_CTRL) (R.MEM_CTRL_EN.inWord w 0) (fun s => s.memCtrlWrite (R.MEM_CTRL_EN.inWord w 0)))
def execMemRetrain (w : BitVec 32) (s : State) : Result :=
  finish (s.hostPut (R.MEM_CTRL) (R.MEM_CTRL_RETRAIN.inWord w 1) (fun s => s.memCtrlWrite (R.MEM_CTRL_RETRAIN.inWord w 1)))
def execMemRetrainDone (s : State) : Result := finish s.memRetrained
def execDramBurstComplete (cls : Fin 4) (late : Bool) (s : State) : Result := finish (s.burst cls late)
def execLaneHalt (n : Fin 16) (w : BitVec 32) (s : State) : Result :=
  finish (s.hostPut (R.LANE_DBG_CTRL n) ((R.LANE_DBG_CTRL_HALT n).inWord w 1) (fun s => s.dbgCtrlWrite n ((R.LANE_DBG_CTRL_HALT n).inWord w 1)))
def execLaneResume (n : Fin 16) (w : BitVec 32) (s : State) : Result :=
  finish (s.hostPut (R.LANE_DBG_CTRL n) ((R.LANE_DBG_CTRL_RESUME n).inWord w 1) (fun s => s.dbgCtrlWrite n ((R.LANE_DBG_CTRL_RESUME n).inWord w 1)))
def execLaneStep (n : Fin 16) (w : BitVec 32) (s : State) : Result :=
  finish (s.hostPut (R.LANE_DBG_CTRL n) ((R.LANE_DBG_CTRL_STEP n).inWord w 1) (fun s => s.dbgCtrlWrite n ((R.LANE_DBG_CTRL_STEP n).inWord w 1)))
def execLaneRegsWrite (n : Fin 16) (off : BitVec 11) (w : BitVec 32) (s : State) : Result :=
  finish (s.hostPut (0x108000 + 0x800 * n + off.toNat / 4 * 4) w (fun s => s.regsWrite n (off.toNat / 4 * 4) w))

end Sys2Proof.Machine
end

