-- ==== Sys2Proof/Machine/Link.lean ====
section
/-!
DEFINITION. The Stalk link, the safe state, the lane islands and the alarms of chapter 1 (R15 to R31).
-/
namespace Sys2Proof.Machine

/-! Flits (Table 1.1) -/

/-- CRC-16, polynomial 0x1021, initial value 0xFFFF, over the bits [n-1:0] of `v`, the highest first (R16, DEDUCED: log entry 60). -/
def crc16 (v : Nat) : Nat → Nat → Nat
  | 0, c => c
  | n + 1, c =>
    let top := c.testBit 15 != v.testBit n
    crc16 v n (((c * 2) % 65536) ^^^ (if top then 0x1021 else 0))

/-- The CRC of a flit: over bits [239:0]. -/
def flitCrc (f : Nat) : Nat := crc16 f 240 0xFFFF

/-- A flit from its fields, with its CRC (Table 1.1). -/
def mkFlit (ty seq ack : Nat) (nak : Bool) (tag pos payload : Nat) : BitVec 256 :=
  let b := ty % 16 + seq % 256 * 2 ^ 4 + ack % 256 * 2 ^ 12 + toBit nak * 2 ^ 20 + tag % 4096 * 2 ^ 24
    + pos % 4096 * 2 ^ 36 + payload % 2 ^ 192 * 2 ^ 48
  BitVec.ofNat 256 (b + flitCrc b * 2 ^ 240)

/-- A die's end of the link: true for the D-die. -/
def State.linkEnd (s : State) (d : Bool) : LinkEnd := if d then s.link.d else s.link.a

def State.setLinkEnd (s : State) (d : Bool) (e : LinkEnd) : State :=
  { s with link := if d then { s.link with d := e } else { s.link with a := e } }

def State.setLinkState (s : State) (v : Nat) : State := s.put R.PWR_STALK_STATUS_STATE v

/-- The SEQ a flit carries. -/
def flitSeq (f : BitVec 256) : Nat := bitsOf f.toNat 11 4

/-- The precedence of a flit's TYPE: audio before register traffic, register traffic before events (R17). -/
def flitRank (ty : Nat) : Nat := if ty = 1 then 0 else if ty = 5 then 2 else 1

/-- The flit that goes next of those that wait: the oldest of the highest precedence (R17). -/
def nextFlit (l : List (Nat × Nat × Nat × Nat)) : Option (Nat × Nat × Nat × Nat) :=
  (l.find? (fun f => flitRank f.1 == 0)).orElse (fun _ => (l.find? (fun f => flitRank f.1 == 1)).orElse (fun _ => l.head?))

/-- A die sends what waits while the link is UP and its replay buffer has room for 32 flits (R17). -/
def State.pump (d : Bool) : Nat → State → State
  | 0, s => s
  | n + 1, s =>
    let e := s.linkEnd d
    match nextFlit e.waiting with
    | some (ty, tag, pos, payload) =>
      if s.linkState == 2 && !e.lost && decide (e.replay.length < 32) then
        let f := mkFlit ty e.nextSeq (e.expected + 255) e.nak tag pos payload
        let s := s.setLinkEnd d { e with
          nextSeq := (e.nextSeq + 1) % 256, replay := e.replay ++ [f], waiting := e.waiting.erase (ty, tag, pos, payload) }
        State.pump d n (s.emit (.flitSent d f))
      else s
    | none => s

/-- A die has a flit to send: it goes when its turn comes, and stays in the replay buffer until acknowledged (R17). -/
def State.sendFlit (s : State) (d : Bool) (ty tag pos payload : Nat) : State :=
  let e := s.linkEnd d
  (s.setLinkEnd d { e with waiting := e.waiting ++ [(ty, tag, pos, payload)] }).pump d 32

/-- An idle flit fills a slot that nothing else takes: it repeats the last SEQ sent (R16, R17; log entry 263). -/
def State.sendIdle (s : State) (d : Bool) : State :=
  let e := s.linkEnd d
  if s.linkState == 2 && !e.lost && e.waiting.isEmpty then
    s.emit (.flitSent d (mkFlit 0 (e.nextSeq + 255) (e.expected + 255) e.nak 0 0 0))
  else s

/-- The PAYLOAD of a register flit: the 16-bit ANA offset, the data and the access size, in the order Table 1.1 lists them
(log entry 107). -/
def regPayload (addr : Nat) (data : Word) (bytes : Nat) : Nat :=
  addr % 2 ^ 16 + data.toNat * 2 ^ 16 + Config.flitSize bytes % 16 * 2 ^ 48

/-- The TAG of a register flit: host port and transaction tag (Table 1.1). -/
def regTag (port tag : Nat) : Nat := port % 4 * 2 ^ 10 + tag % 2 ^ 10

/-- The PAYLOAD of an audio flit: six samples (Table 1.1). -/
def audioPayload : List F32 → Nat
  | [] => 0
  | x :: t => x.toNat + 2 ^ 32 * audioPayload t

/-- Audio flits for samples in order of ID and position, six to a flit, from place `j` of IDs that begin at `id` (R16, R17). -/
def State.sendAudio (d : Bool) (id frame : Nat) : Nat → Nat → List F32 → State → State
  | 0, _, _, s => s
  | n + 1, j, xs, s =>
    if xs.isEmpty then s
    else State.sendAudio d id frame n (j + 6) (xs.drop 6)
      (s.sendFlit d 1 (id + j / 8) (frame % 512 * 8 + j % 8) (audioPayload (xs.take 6)))

/-- A die asks for a retransmission: an acknowledge-only flit with NAK set (R16, R17). -/
def State.sendNak (s : State) (d : Bool) : State :=
  let e := s.linkEnd d
  let s := s.setLinkEnd d { e with nak := true }
  s.emit (.flitSent d (mkFlit 6 (e.nextSeq + 255) (e.expected + 255) true 0 0 0))

/-- The flits of a replay buffer that an ACK_SEQ leaves unacknowledged. -/
def unacked (ack : Nat) (l : List (BitVec 256)) : List (BitVec 256) :=
  if l.any (fun f => flitSeq f == ack) then (l.dropWhile (fun f => flitSeq f != ack)).drop 1 else l

/-- An acknowledgement arrives: acknowledged flits leave the replay buffer, and NAK replays the others in order (R17). -/
def State.takeAck (s : State) (d : Bool) (ack : Nat) (nak : Bool) : State :=
  let e := s.linkEnd d
  let rest := unacked ack e.replay
  let s := s.setLinkEnd d { e with replay := rest }
  let s := if nak then
      let s := rest.foldl (fun s f => s.emit (.flitSent d f)) s
      (s.raise R.PWR_STALK_ERR_RETRY).countSat R.PWR_STALK_EVT_CNT_RETRY_CNT
    else s
  s.pump d 32

/-- The six samples of an audio flit: ID, position, frame, sample (Table 1.1). -/
def flitSamples (f : Nat) : List (Nat × Nat × Nat × BitVec 32) :=
  let first := bitsOf f 38 36
  (List.range 6).map (fun j =>
    (bitsOf f 35 24 + (first + j) / 8, (first + j) % 8, bitsOf f 47 39, BitVec.ofNat 32 (f >>> (48 + 32 * j))))

/-- Whether an ID crosses the link towards the D-die, or towards the A-die (R17). -/
def crosses (atD : Bool) (id : Nat) : Bool := decide (1424 ≤ id) && decide (id < if atD then 1440 else 1448)

/-- A sequenced flit is delivered in order. -/
def State.deliver (s : State) (atD : Bool) (f : BitVec 256) : State :=
  let e := s.linkEnd atD
  let e := { e with expected := (e.expected + 1) % 256, nak := false }
  let e := if bitsOf f.toNat 3 0 = 1 then { e with audio := e.audio ++ (flitSamples f.toNat).filter (fun x => crosses atD x.1) } else e
  (s.setLinkEnd atD e).emit (.flitDelivered atD f)

/-- A flit arrives at a die (R16, R17): sequenced types are delivered in order and once; idle and acknowledge-only flits
show by their SEQ whether one is missing. -/
def State.flitRx (s : State) (atD : Bool) (f : BitVec 256) : State :=
  let e := s.linkEnd atD
  let st := s.linkState
  if e.lost || !(st == 2 || st == 3) then s
  else
    let n := f.toNat
    let ty := bitsOf n 3 0
    if flitCrc n ≠ bitsOf n 255 240 then
      ((s.count R.PWR_STALK_CRC_CNT_CRC_CNT).raise R.PWR_STALK_ERR_CRC).sendNak atD
    else if 7 ≤ ty then s.sendNak atD
    else
      let s := (s.setLinkEnd atD { e with silent := false }).takeAck atD (bitsOf n 19 12) (bitsOf n 20 20 == 1)
      let e := s.linkEnd atD
      if ty = 0 ∨ ty = 6 then (if flitSeq f = (e.expected + 255) % 256 then s else s.sendNak atD)
      else if flitSeq f = e.expected then s.deliver atD f
      else if (e.expected + 256 - flitSeq f) % 256 ≤ 128 then s
      else s.sendNak atD

/-! Training, retraining and loss (R15, R19, R20) -/

/-- The bytes of an access. -/
def accBytes : AccessSize → Nat
  | .byte => 1
  | .half => 2
  | .three => 3
  | .word => 4

/-- The bytes of a word that a narrow read returns, in the low bits. -/
def lanesOf (w : Word) (a : Nat) (size : AccessSize) : Word := (w >>> (8 * (a % 4))) &&& BitVec.ofNat 32 (2 ^ (8 * accBytes size) - 1)

/-- A read is answered: the quad-SPI target holds the word until it has been clocked out (R49). -/
def State.answer (s : State) (p a : Nat) (w : Word) : State :=
  if p = 1 ∧ s.host.qspi = .read then
    (if a = s.host.qspiAddr then { s with host := { s.host with qspiWord := some w } } else s)
  else s.emit (.hostData p a w)

/-- A read that waited is answered, unless it has been abandoned (R49). -/
def State.answerAcc (s : State) (x : AnaAcc) (w : Word) : State := if x.dropped then s else s.answer x.port x.addr w

/-- Every ANA access in flight fails: reads return all ones, writes are dropped (R23). Accesses of the D-die that wait behind
them stay. -/
def State.anaFailAll (s : State) : State :=
  let l := s.host.ana
  let s := { s with host := { s.host with ana := l.filter (fun a => !isAna a.addr || a.behind) } }
  (l.filter (fun a => isAna a.addr && !a.behind)).foldl (fun s a =>
    if a.write then s.raise R.PWR_STALK_ERR_WR_DROP
    else (s.raise R.PWR_STALK_ERR_RD_FAIL).answerAcc a (lanesOf 0xFFFFFFFF 0 a.size)) s

/-- The A-die enters its safe state (R21). -/
def State.safeEnter (s : State) : State := ((s.raise R.PWR_STALK_STATUS_SAFE).outsHold).psHold

/-- A die declares the link LOST (R20): the registers of the D-die show its own declaration; the A-die enters its safe state. -/
def State.declareLost (s : State) (d : Bool) : State :=
  let s := s.setLinkEnd d { s.linkEnd d with lost := true, attempts := 0 }
  if d then
    let s := (s.setLinkState 4).raise R.PWR_STALK_ERR_LOST
    (s.log 0x20 3 (s.rd R.PWR_STALK_ERR).toNat (s.get R.PWR_STALK_STATUS_EYE)).anaFailAll
  else s.safeEnter

/-- A retrain begins from UP (R19). -/
def State.retrain (s : State) : State :=
  if s.linkUp then
    let s := ((s.setLinkState 3).raise R.PWR_STALK_ERR_RETRAIN).countSat R.PWR_STALK_EVT_CNT_RETRAIN_CNT
    (s.setLinkEnd true { s.link.d with attempts := 0 }).setLinkEnd false { s.link.a with attempts := 0 }
  else s

/-- Nothing valid has arrived at a die for 2 µs: retrain attempts begin (R20). STATE shows the D-die's view, so the A-die finds this
also after the D-die has declared LOST. -/
def State.silence (s : State) (d : Bool) : State :=
  let st := s.linkState
  if (s.linkEnd d).lost || !(st == 2 || st == 3 || (!d && st == 4)) then s
  else
    let s := s.retrain
    s.setLinkEnd d { s.linkEnd d with silent := true, attempts := 0 }

/-- An attempt fails: the third in a row, in training or while nothing arrives, declares LOST (R20). -/
def State.attemptFail (s : State) (d : Bool) : State :=
  let e := s.linkEnd d
  let st := s.linkState
  if e.lost || !(st == 1 || st == 3 || (!d && st == 4)) then s
  else
    let s := s.setLinkEnd d { e with attempts := e.attempts + 1 }
    if 3 ≤ e.attempts + 1 ∧ (st = 1 ∨ e.silent) then s.declareLost d else s

/-- Whether an A-die domain is on. -/
def State.aDieOn (s : State) : Bool := s.on .ainLo || s.on .ainHi || s.on .aout || s.on .pstage || s.on .meas

/-- The forwarded media clock comes or goes (R20). -/
def State.setMclk (s : State) (on : Bool) : State :=
  ({ s with link := { s.link with mclk := on } }).put R.PWR_STALK_STATUS_MCLK_OK (toBit on)

/-- The forwarded media clock, once present, is absent for two periods (R20). -/
def State.mclkAbsent (s : State) : State :=
  if s.link.mclk then
    let s := s.setMclk false
    if s.aDieOn && !s.link.a.lost then s.declareLost false else s
  else s

/-- The A-die reports its safe state in an event flit, whose content Table 1.1 leaves open (R16; log entry 264). -/
def State.safeReport (s : State) : State :=
  if s.flag R.PWR_STALK_STATUS_SAFE then
    let (j, s) := s.draw
    let (k, s) := s.draw
    s.sendFlit false 5 (Config.freeNat j) 0 (Config.freeNat k)
  else s

/-- Training succeeds: the link comes UP with new sequence numbers, the A-die still in its safe state (R20, R22). The media
clock that the A-die has lost since is seen again where CLK runs. -/
def State.trainDone (s : State) : State :=
  if s.linkState = 1 then
    let s := { s with link := { s.link with d := {}, a := {}, everUp := true, compared := false } }
    let s := (s.setLinkState 2).put R.SYS_ID_A_STEP Config.aStep.toNat
    (if s.on .clk then s.setMclk true else s).safeReport
  else s

/-- RETRAIN (R19, R20): a retrain from UP, training from LOST; ignored otherwise. An A-die that has not declared LOST by then, in
turn, does so as training begins (R20, R22; log entry 303). -/
def State.retrainCmd (s : State) : State :=
  if s.linkUp then s.retrain
  else if s.linkState = 4 then
    let s := if s.link.a.lost then s else s.safeEnter
    let s := { s with link := { s.link with d := {}, a := {} } }
    s.setLinkState 1
  else s

/-- RESUME (R22): while UP, the A-die leaves its safe state with every output stopped. -/
def State.resumeCmd (s : State) : State :=
  if s.linkUp && !s.link.a.lost && s.flag R.PWR_STALK_STATUS_SAFE then ((s.clr R.PWR_STALK_STATUS_SAFE).psResume).outsResume else s

/-- A write of STALK_CTRL: RESUME acts before RETRAIN (R22). -/
def State.stalkCtrlWrite (s : State) (w : Word) : State :=
  let s := s.wr R.PWR_STALK_CTRL (w &&& 4)
  let s := if w.toNat.testBit 1 then s.resumeCmd else s
  if w.toNat.testBit 0 then s.retrainCmd else s

/-- A heartbeat from the other die arrives (R20). -/
def State.heartbeatRx (s : State) (d : Bool) : State :=
  if (s.linkEnd d).lost then s else s.setLinkEnd d { s.linkEnd d with silent := false }

/-- Each die sends a heartbeat every 1 µs unless it has declared LOST or is held in reset (R15, R20); of the flit slots of that
time, those that nothing took carry idle flits, of which one is recorded (R17; log entry 263). -/
def State.heartbeatSend (s : State) (d : Bool) : State :=
  if s.pins.inReset || (s.linkEnd d).lost || (!d && !s.pins.aReleased) then s else (s.emit (.heartbeat d)).sendIdle d

/-- The eye margin is measured; below 16/256 UI the link retrains itself (R19). -/
def State.marginRetrain (s : State) (eye : Nat) : State :=
  if s.pins.inReset then s else
  let s := s.put R.PWR_STALK_STATUS_EYE eye
  if eye < 16 then s.retrain else s

/-! Temperatures and islands (R26 to R31) -/

/-- The comparison of the dies' highest valid readings, in millidegrees (R31). -/
def State.tdiff (s : State) (dHigh aHigh : Option Int) : State :=
  if s.linkState = 2 ∨ s.linkState = 3 then
    match dHigh, aHigh with
    | some a, some b =>
      let diff := (a - b).natAbs
      let onset := decide (50000 ≤ diff) && (s.link.cool || !s.link.compared)
      let cool := if diff < 48000 then true else if 50000 ≤ diff ∨ !s.link.compared then false else s.link.cool
      let s := { s with link := { s.link with cool, compared := true } }
      if onset then s.raise R.PWR_ALARM_TDIFF else s
    | _, _ => s
  else s

/-- The domain of a D-die island (Table 1.3). -/
def islandDom (n : Nat) : Nat := if n < 8 then look 1 [(0, 1), (1, 2), (2, 3), (3, 4), (4, 7), (5, 8), (6, 9), (7, 10)] n else laneDom (n - 8)

/-- An island stretches a clock edge (R28). -/
def State.edgeStretch (s : State) (n : Nat) : State :=
  if s.domOn (islandDom n) && !s.pins.inReset then (s.countSat (R.ISL_EVT_STRETCH_CNT n)).raise R.PWR_ALARM_STRETCH else s

/-- The target of a lane's island before it is clamped, in units of 0.25 MHz (R26, R29). -/
def State.islRaw (s : State) (n : Nat) : Nat :=
  let i := 8 + n
  if s.get (R.ISL_CFG_MODE i) = 1 then
    let cycles := s.get (R.ISL_DL_CYCLES i)
    if cycles = 0 then 2400
    else
      let den := 8 * (64 - max 2 (s.get (R.ISL_DL_GUARD i))) * 250000
      (cycles * 64 * s.rate + den - 1) / den
  else s.get (R.ISL_CFG_FREQ i)

def State.islGoal (s : State) (n : Nat) : Nat := max 150 (min 2400 (s.islRaw n))

/-- Whether a lane runs capped at 600 MHz (R29). -/
def State.islCapped (s : State) (n : Nat) : Bool :=
  s.get (R.ISL_CFG_MODE (8 + n)) == 1 && decide (2400 < s.islRaw n) && s.get (R.ISL_STATUS_CUR_FREQ (8 + n)) == 2400

/-- The target of a lane's island is worked out again: a change begins to settle (R28 to R30). An island without power has
none. -/
def State.islRetarget (s : State) (n : Nat) : State :=
  let i := 8 + n
  let goal := s.islGoal n
  let s := { s with pwr := { s.pwr with target := del s.pwr.target n, volted := dropFrom s.pwr.volted n } }
  if s.domOn (laneDom n) then
    if goal = s.get (R.ISL_STATUS_CUR_FREQ i) then (s.clr (R.ISL_STATUS_SETTLING i)).speltShow
    else (({ s with pwr := { s.pwr with target := upd s.pwr.target n goal } }).raise (R.ISL_STATUS_SETTLING i)).speltShow
  else s

/-- The clock of an island of fixed frequency, in units of 0.25 MHz (Table 1.3; log entry 265). -/
def fixedFreq (i : Nat) : Nat :=
  look 0 [(0, 1000), (1, 1250), (2, 1250), (3, 2000), (4, 1600), (5, 1000), (6, 800), (7, 1000), (24, 393), (25, 197)
         , (26, 393), (27, 98)] i

/-- Where an island's loop begins as its domain powers up: at the top of its range (R28; log entry 265). -/
def State.islStart (s : State) (i freq : Nat) : State :=
  ((s.put (R.ISL_STATUS_CUR_FREQ i) freq).put (R.ISL_STATUS_VOLT i) 170).raise (R.ISL_STATUS_SETTLING i)

/-- The D-die islands of a domain start as it powers up: those of fixed frequency at theirs, a lane's at the lowest, from which
it moves to its target (R25, R26, R28, R29; log entry 265). -/
def State.islWake (s : State) (d : Nat) : State :=
  let s := (sel 8 (fun i => islandDom i == d)).foldl (fun s i => s.islStart i (fixedFreq i)) s
  (sel 16 (fun n => laneDom n == d)).foldl (fun s n => (s.islStart (8 + n) 150).islRetarget n) s

/-- The islands of a domain that has turned off stand, and a lane's change is dropped. -/
def State.islSleep (s : State) (d : Nat) : State :=
  let s := (sel 24 (fun i => islandDom i == d)).foldl (fun s i => (s.put (R.ISL_STATUS_CUR_FREQ i) 0).clr (R.ISL_STATUS_SETTLING i)) s
  (sel 16 (fun n => laneDom n == d)).foldl (fun s n =>
    { s with pwr := { s.pwr with target := del s.pwr.target n, volted := dropFrom s.pwr.volted n } }) s

/-- The clock that an A-die island shows: ISL_ALINK's oscillator always runs; the others run while their PLL has the media clock
and a domain of theirs is on (R25; log entry 265). -/
def State.aIslandFreq (s : State) (i : Nat) : Nat :=
  let powered := if i = 25 then s.on .ainLo || s.on .ainHi || s.on .aout else if i = 26 then s.on .pstage else s.on .meas
  if i = 24 || (s.link.mclk && powered) then fixedFreq i else 0

/-- A write of a lane island's CFG or DL (R29). -/
def State.islWrite (s : State) (n : Nat) (dl : Bool) (w : Word) : State :=
  let s := if dl then s.wr (R.ISL_DL (8 + n)) (w &&& 0x3FFFFFF) else s.wr (R.ISL_CFG (8 + n)) (w &&& 0x3FFF)
  s.islRetarget n

/-- The supply of an island has settled, at a value that is free within 0.55 V to 0.85 V (R28, R30; log entry 15). With it a
change completes, unless the clock is still to follow at a boundary: a higher clock then waits for it, and a lower clock has
not begun to change the supply. The loop of an island that shows no change moves its supply in the same way. -/
def State.islSettled (s : State) (i : Nat) : State :=
  if s.domOn (islandDom i) && !s.pins.inReset then
    let cur := s.get (R.ISL_STATUS_CUR_FREQ i)
    match (if i < 8 then none else s.pwr.target.find? (fun e => e.1 == i - 8)) with
    | some (n, t) =>
      if cur < t then
        let (k, s) := s.draw
        ({ s with pwr := { s.pwr with volted := addTo s.pwr.volted n } }).put (R.ISL_STATUS_VOLT i) (110 + Config.freeNat k % 61)
      else s
    | none =>
      let (k, s) := s.draw
      ((s.put (R.ISL_STATUS_VOLT i) (110 + Config.freeNat k % 61)).clr (R.ISL_STATUS_SETTLING i)).speltShow
  else s

/-- Targets apply at a boundary: a lower clock at once, its supply settling after it; a higher one after the voltage has settled,
with which the change is complete (R28, R29). -/
def State.islBoundary (s : State) : State :=
  forN 16 (fun n s =>
    match s.pwr.target.find? (fun e => e.1 == n) with
    | some (_, t) =>
      let i := 8 + n
      let s' := ({ s with pwr := { s.pwr with target := del s.pwr.target n, volted := dropFrom s.pwr.volted n } }).put
        (R.ISL_STATUS_CUR_FREQ i) t
      if t < s.get (R.ISL_STATUS_CUR_FREQ i) then s'
      else if s.pwr.volted.contains n then (s'.clr (R.ISL_STATUS_SETTLING i)).speltShow
      else s
    | none => s) s

/-- Frames run capped are counted, and FREQ_CAP set at each onset (R29): for a lane whose run has begun. -/
def State.islCaps (s : State) : State :=
  forN 16 (fun n s =>
    if s.inRun n then
      if s.islCapped n then
        let s := s.countSat (R.ISL_EVT_CAP_CNT (8 + n))
        if s.pwr.capped.contains n then s
        else ({ s with pwr := { s.pwr with capped := addTo s.pwr.capped n } }).raise R.PWR_ALARM_FREQ_CAP
      else { s with pwr := { s.pwr with capped := dropFrom s.pwr.capped n } }
    else if s.laneRuns n then s
    else { s with pwr := { s.pwr with capped := dropFrom s.pwr.capped n } }) s

/-- The number of a die as an end of the link. -/
def isD : Die → Bool
  | .dDie => true
  | .aDie => false

def execStalkFlitRx (die : Die) (flit : BitVec 256) (s : State) : Result := finish (s.flitRx (isD die) flit)
def execStalkHeartbeatSend (die : Die) (s : State) : Result := finish (s.heartbeatSend (isD die))
def execStalkHeartbeatRx (die : Die) (s : State) : Result := finish (s.heartbeatRx (isD die))
def execStalkMarginRetrain (eye : BitVec 8) (s : State) : Result := finish (s.marginRetrain eye.toNat)
def execStalkCrcBurstRetrain (s : State) : Result := finish s.retrain
def execStalkSilenceTimeout (die : Die) (s : State) : Result := finish (s.silence (isD die))
def execStalkMclkAbsent (s : State) : Result := finish s.mclkAbsent
def execStalkRetrain (w : BitVec 32) (s : State) : Result :=
  finish (s.hostPut (R.PWR_STALK_CTRL) (R.PWR_STALK_CTRL_RETRAIN.inWord w 1) (fun s => s.stalkCtrlWrite (R.PWR_STALK_CTRL_RETRAIN.inWord w 1)))
def execStalkResume (w : BitVec 32) (s : State) : Result :=
  finish (s.hostPut (R.PWR_STALK_CTRL) (R.PWR_STALK_CTRL_RESUME.inWord w 1) (fun s => s.stalkCtrlWrite (R.PWR_STALK_CTRL_RESUME.inWord w 1)))
def execTdiffCompare (dHigh aHigh : Option Int) (s : State) : Result := finish (s.tdiff dHigh aHigh)
def execIslandEdgeStretch (n : Fin 24) (s : State) : Result := finish (s.edgeStretch n)
def execIslTargetChange (lane : Fin 16) (dl : Bool) (w : BitVec 32) (s : State) : Result := 
  finish (s.hostPut (if dl then R.ISL_DL (8 + lane) else R.ISL_CFG (8 + lane)) w (fun s => s.islWrite lane dl w))
def execIslandSettleDone (n : Fin 24) (s : State) : Result := finish (s.islSettled n)

end Sys2Proof.Machine
end

