-- ==== Sys2Proof/Machine/Synth.lean ====
section
/-!
DEFINITION. Clock synthesis: the three ADPLLs, the oscillator monitors, the twelve clock outputs and their alignment (chapter 4).
-/
namespace Sys2Proof.Machine

/-- One step of a dither generator (R480). -/
def lfsrStep (s : Nat) : Nat := if s % 2 = 1 then (s / 2) ^^^ 0x80200003 else s / 2

/-- A seed as it is loaded: 0 acts as 1 (R480). -/
def lfsrSeed (v : Nat) : Nat := if v = 0 then 1 else v

/-- The generator's state `m` steps after a load (R480). -/
def lfsrAt (seed : Nat) : Nat → Nat
  | 0 => seed
  | m + 1 => lfsrStep (lfsrAt seed m)

/-- b[m], bit 0 of the state after step `m`; 0 before the first step (R111). -/
def ditherBit (seed : Nat) : Nat → Nat
  | 0 => 0
  | m + 1 => lfsrAt seed (m + 1) % 2

/-- N_NOM for an OSC_SEL (Table 4.2), and OSC_HOLD's nominal frequency in Hz. -/
def nNom (sel : Nat) : Nat × Nat := if sel = 0 then (196608, 625) else if sel = 1 then (6144, 25) else (98304, 625)
def oscHz (sel : Nat) : Nat := if sel = 0 then 10000000 else if sel = 1 then 12800000 else 20000000

/-- An ADPLL's feedback ratio as an exact fraction (R107, R108, R110): N_NOM × (1 + FW × 2^-40), INT + NUM/DEN, and 20. -/
def State.adpllRatio (s : State) (n : Nat) : Nat × Nat :=
  if n = 0 then ((nNom s.syn.oscSel).1 * (2 ^ 40 + s.syn.fwApplied).toNat, (nNom s.syn.oscSel).2 * 2 ^ 40)
  else if n = 1 then (s.syn.int1 * s.syn.den1 + s.syn.num1, s.syn.den1)
  else (20, 1)

/-- An ADPLL's DCO frequency in Hz as a fraction, its oscillator at its nominal frequency (R107, R108, R110): the reference times the
ratio, where ADPLL_1's reference is ADPLL_0's DCO ÷ 128. -/
def State.dcoHz (s : State) (n : Nat) : Nat × Nat :=
  let r := s.adpllRatio n
  let r0 := s.adpllRatio 0
  if n = 0 then (oscHz s.syn.oscSel * r.1, r.2)
  else if n = 1 then (oscHz s.syn.oscSel * r0.1 * r.1, r0.2 * 128 * r.2)
  else (156250000 * r.1, r.2)

/-- The dither that the modulator of ADPLL_0 or ADPLL_1 adds at its latest update, in LSB (R111). -/
def State.dither (s : State) (n : Nat) : Int :=
  if n = 0 then
    (if s.flag R.SYN_ADPLL0_CFG_DITHER then (ditherBit s.syn.lfsr0 s.syn.upd0 : Int) - ditherBit s.syn.lfsr0 (s.syn.upd0 - 1) else 0)
  else if n = 1 then
    (if s.flag R.SYN_ADPLL1_CTRL_DITHER then (ditherBit s.syn.lfsr1 s.syn.upd1 : Int) - ditherBit s.syn.lfsr1 (s.syn.upd1 - 1) else 0)
  else 0

/-- The state field of an ADPLL (Table 4.8): 0 OFF, 1 ACQUIRING, 2 LOCKED, 3 COAST. -/
def adpllField (n : Nat) : Field := ⟨R.SYN_STATUS, 2 * n + 1, 2 * n⟩

def State.adpll (s : State) (n : Nat) : Nat := s.get (adpllField n)

def State.ck (s : State) (n : Nat) : CkOut := look {} s.syn.outs n

def State.setCk (s : State) (n : Nat) (c : CkOut) : State := { s with syn := { s.syn with outs := upd s.syn.outs n c } }

/-- The smallest DIV of a clock output (R120). -/
def ckMinDiv (n : Nat) : Nat := if n < 4 then 4 else 16

/-- What the pins of a clock output show (R114, R120, R123): while it runs, a high phase of half the divider, rounded up, and a low
phase of the rest, inverted with INV; else its STOP level, and low while CLK is off. -/
def State.ckShow (s : State) (n : Nat) : CkPin :=
  let c := s.ck n
  if !s.on .clk then .low
  else if s.flag (R.CKOUT_STATUS_RUNNING n) then .toggling c.src ((c.div + 1) / 2) (c.div / 2) c.inv c.coarse c.fine
  else if c.stop && decide (n < 4) then .highZ
  else .low

/-- Bring a clock output's pins to what they show. -/
def State.ckPin (s : State) (n : Nat) : State :=
  let p := s.ckShow n
  if look .low s.syn.pins n = p then s
  else { s.emit (.clockPin n p) with syn := { s.syn with pins := upd s.syn.pins n p } }

/-- Every enabled output whose source is ADPLL_1 holds its STOP level until ADPLL_1 is LOCKED (R119); one whose start waits for no
armed event does not wait for one then (log entry 312). -/
def State.stopFrom1 (s : State) : State :=
  forN 12 (fun n s =>
    if s.flag (R.CKOUT_CFG_EN n) ∧ (s.ck n).src = 1 ∧ ¬ s.flag (R.CKOUT_STATUS_SRC_ERR n) then
      ((s.clr (R.CKOUT_STATUS_RUNNING n)).setCk n { s.ck n with starting := true, base := none }).ckPin n
    else s) s

/-- ADPLL_1 relocks (R119), with its dither seed loaded (R111). -/
def State.relock1 (s : State) : State :=
  let s := s.put (adpllField 1) 1
  let s := { s with syn :=
    { s.syn with lfsr1 := lfsrSeed (s.rd R.SYN_ADPLL1_SEED).toNat, upd1 := 0, run1 := false, lost1 := true } }
  s.stopFrom1

/-- ADPLL_0 starts or restarts its loop, with its dither seed loaded (R111, R116). -/
def State.restart0 (s : State) : State :=
  let s := s.put (adpllField 0) 1
  { s with syn := { s.syn with lfsr0 := lfsrSeed (s.rd R.SYN_ADPLL0_SEED).toNat, upd0 := 0, part0 := 0 } }

/-- A coasting ADPLL restarts its loop when the cause clears (R116, R119): its integrator starts from the value it held. -/
def State.adpllRestart (s : State) (n : Nat) : State :=
  if n = 0 then s.restart0 else if n = 1 then s.relock1 else s.put (adpllField n) 1

/-- The COAST counter of an ADPLL (Table 4.9). -/
def coastCnt (n : Nat) : Field := ⟨R.SYN_COAST_CNT, 8 * n + 7, 8 * n⟩

/-- The phases of the dividers that ADPLL_1 feeds are no longer known from their last restart. -/
def State.forget1 (s : State) : State :=
  { s with syn := { s.syn with outs := s.syn.outs.map (fun e => (e.1, if e.2.src = 1 then { e.2 with base := none } else e.2)) } }

/-- An ADPLL enters COAST (R116): its DCO control is held at an average over past cycles, a value the spec does not state (log
entry 278). -/
def State.coastOne (s : State) (n : Nat) : State :=
  let (k, s) := s.draw
  let s := { s with syn := { s.syn with frozen := upd s.syn.frozen n (Config.freeInt k) } }
  let s := if n = 1 then s.forget1 else s
  ((s.put (adpllField n) 3).raise (R.SYN_EVENT_COAST.bit n)).countSat (coastCnt n)

/-- An ADPLL enters COAST; ADPLL_0, where it leaves LOCKED, takes Vetiver's comparisons and ADPLL_1's reference with it (R116, R118). -/
def State.coast (s : State) (n : Nat) : State :=
  if s.adpll n = 1 ∨ s.adpll n = 2 then
    let was := s.adpll n
    let s := s.coastOne n
    if n = 0 then
      let s := s.vetSuspend
      if was = 2 ∧ (s.adpll 1 = 1 ∨ s.adpll 1 = 2) then s.coastOne 1 else s
    else s
  else s

/-- A phase error that the TDC may read: the spec bounds it while an ADPLL is LOCKED by the 2 ns of R116 and gives no value (log
entry 279). -/
def errDrawn (k : Nat) : Int := clampI 2000 (Config.freeInt k)

/-- An ADPLL's phase error has stayed within ±200 ps for 1,024 cycles (R117). -/
def State.adpllLock (s : State) (n : Nat) : State :=
  let refOk := if n = 0 then s.syn.oscOk else if n = 1 then s.adpll 0 == 2 else s.syn.xoOk
  if s.on .clk && refOk && (s.adpll n == 1 || s.adpll n == 3) then
    let s := if s.adpll n = 3 then s.adpllRestart n else s
    let s := (s.put (adpllField n) 2).raise (R.SYN_EVENT_LOCK.bit n)
    let s := { s with syn := { s.syn with frozen := del s.syn.frozen n, run1 := s.syn.run1 || n == 1 } }
    if n = 0 then
      let s := s.vetUnsuspend
      if s.adpll 1 = 3 then s.relock1 else s
    else s
  else s

/-- The TDC phase error as ADPLL0_ERR shows it: in ps, saturating (Table 4.9). -/
def errField (e : Int) : Nat := unsgn 16 (if e > 32767 then 32767 else if e < -32768 then -32768 else e)

/-- ADPLL0_ERR as it is read while ADPLL_0 is LOCKED: the present error (log entry 279). -/
def State.errShow (s : State) : State :=
  if s.on .clk && s.adpll 0 == 2 then
    let (k, s) := s.draw
    s.put R.SYN_ADPLL0_ERR_ERR (errField (errDrawn k))
  else s

/-- An ADPLL's phase error has exceeded 2 ns for 16 cycles (R116). -/
def State.adpllError (s : State) (n : Nat) (e : Int) : State :=
  if s.on .clk && decide (2000 < e.natAbs) then
    let s := if n = 0 then s.put R.SYN_ADPLL0_ERR_ERR (errField e) else s
    s.coast n
  else s

/-- An oscillator is declared lost (R115). -/
def State.oscLost (s : State) (xo : Bool) : State :=
  let s := { s with syn := if xo then { s.syn with xoOk := false } else { s.syn with oscOk := false } }
  if s.on .clk && !s.pins.inReset then
    if xo then
      let s := ((s.clr R.SYN_STATUS_XO_OK).raise R.SYN_EVENT_XO_LOSS).coast 2
      s.log 0x21 2 (s.rd R.SYN_STATUS).toNat 0
    else
      let s := ((s.clr R.SYN_STATUS_OSC_OK).raise R.SYN_EVENT_OSC_LOSS).coast 0
      s.log 0x22 2 (s.rd R.SYN_STATUS).toNat 0
  else s

/-- An oscillator is declared restored, and the ADPLL that uses it restarts its loop (R115, R116). -/
def State.oscBack (s : State) (xo : Bool) : State :=
  let s := { s with syn := if xo then { s.syn with xoOk := true } else { s.syn with oscOk := true } }
  if s.on .clk then
    let s := if xo then s.raise R.SYN_STATUS_XO_OK else s.raise R.SYN_STATUS_OSC_OK
    let n := if xo then 2 else 0
    if s.adpll n = 3 then s.adpllRestart n else s
  else s

/-- The two oscillators are compared; beyond 200 ppm it is reported (R115). -/
def State.oscCompare (s : State) (ppb : Nat) : State :=
  if s.on .clk && decide (200000 < ppb) then s.raise R.SYN_EVENT_OSC_FREQ else s

/-- A new FW reaches ADPLL_0's feedback ratio at an edge of OSC_HOLD (R108); while OSC_HOLD is lost there is none. -/
def State.fwApply (s : State) : State :=
  if s.on .clk && s.syn.oscOk then { s with syn := { s.syn with fwApplied := (s.rd R.VET_FREQ_WORD).toInt } } else s

/-- Whether a set of INT, NUM and DEN is accepted (R110). -/
def ratio1Ok (i n d : Nat) : Bool :=
  d != 0 && decide (n < d) && decide (2800000 * d ≤ (i * d + n) * 24576) && decide ((i * d + n) * 24576 ≤ 3200000 * d)

/-- A write of SYN.ADPLL1_CTRL (R110, R119): EN starts or stops ADPLL_1, APPLY loads its ratio or is refused. -/
def State.adpll1Write (s : State) (w : Word) : State :=
  if s.on .clk then
    let was := s.flag R.SYN_ADPLL1_CTRL_EN
    let s := s.wr R.SYN_ADPLL1_CTRL (w &&& 3)
    let en := s.flag R.SYN_ADPLL1_CTRL_EN
    let s :=
      if en ∧ ¬ was then s.relock1
      else if was ∧ ¬ en then
        { s.stopFrom1.put (adpllField 1) 0 with syn := { s.stopFrom1.syn with run1 := false } }
      else s
    if bitOf w.toNat 2 then
      let i := s.get R.SYN_ADPLL1_INT_INT
      let n := s.get R.SYN_ADPLL1_NUM_NUM
      let d := s.get R.SYN_ADPLL1_DEN_DEN
      if ratio1Ok i n d then
        let s := { s with syn := { s.syn with int1 := i, num1 := n, den1 := d } }
        let s := s.clr R.SYN_STATUS_ADPLL1_REFUSED
        if en then s.relock1 else s
      else s.raise R.SYN_STATUS_ADPLL1_REFUSED
    else s
  else s

/-- A write of SYN.OSC_CFG (R108, R113): refused while CLK is on if it changes the oscillator; OSC_SEL 3 is refused. -/
def State.oscCfgWrite (s : State) (w : Word) : State :=
  let new := w &&& 7
  let bad := bitsOf w.toNat 1 0 == 3 || (s.on .clk && new != s.rd R.SYN_OSC_CFG)
  let s := if bad then s else s.wr R.SYN_OSC_CFG new
  if s.on .clk then s.put R.SYN_STATUS_OSC_REFUSED (toBit bad) else s

/-- SRC, TYPE, INV and STOP as CFG holds them come into use, and none is held (R123). -/
def State.ckFields (s : State) (n : Nat) : State :=
  (s.clr (R.CKOUT_STATUS_PENDING n)).setCk n { s.ck n with
    src := s.get (R.CKOUT_CFG_SRC n), type := s.get (R.CKOUT_CFG_TYPE n), inv := s.flag (R.CKOUT_CFG_INV n)
    stop := s.flag (R.CKOUT_CFG_STOP n) }

/-- A write of an output's CFG word (R123): its fields come into use at an enable and while EN stays clear, and are held while it
stays set; of a write that clears EN they are held too (log entries 309, 310). -/
def State.ckCfgWrite (s : State) (n : Nat) (w : Word) : State :=
  if s.on .clk then
    let was := s.flag (R.CKOUT_CFG_EN n)
    let old := s.rd (R.CKOUT_CFG n)
    let new := w &&& 0xF7
    let s := s.wr (R.CKOUT_CFG n) new
    let en := s.flag (R.CKOUT_CFG_EN n)
    if en ∧ ¬ was then
      let s := s.ckFields n
      if (s.ck n).src = 3 then (s.raise (R.CKOUT_STATUS_SRC_ERR n)).ckPin n
      else
        let armed := s.flag R.SYN_SYNC_CTRL_ARM && s.flag (R.CKOUT_CFG_SYNC_EN n)
        ((s.clr (R.CKOUT_STATUS_SRC_ERR n)).setCk n { s.ck n with starting := true, aligned := armed, base := none }).ckPin n
    else if was ∧ ¬ en then
      (((s.clr (R.CKOUT_STATUS_RUNNING n)).clr (R.CKOUT_STATUS_SRC_ERR n)).setCk n
        { s.ck n with starting := false, aligned := false, base := none }).ckPin n
    else
      let s := s.setCk n { s.ck n with aligned := (s.ck n).aligned && s.flag (R.CKOUT_CFG_SYNC_EN n) }
      if !en then (s.ckFields n).ckPin n
      else if (old ^^^ new) &&& 0xB6 ≠ 0 then s.raise (R.CKOUT_STATUS_PENDING n)
      else s
  else s

/-- A write of an output's DIV: below the minimum it acts as the minimum and sets CLAMPED (R120, R123). -/
def State.ckDivWrite (s : State) (n : Nat) (w : Word) : State :=
  if s.on .clk then
    let s := s.wr (R.CKOUT_DIV n) (w &&& 0xFFFFFF)
    let d := s.get (R.CKOUT_DIV_DIV n)
    let div := max d (ckMinDiv n)
    let base := if div = (s.ck n).div then (s.ck n).base else none
    ((s.put (R.CKOUT_STATUS_CLAMPED n) (toBit (d < ckMinDiv n))).setCk n { s.ck n with div, base }).ckPin n
  else s

/-- A write of an output's DELAY moves it to the new delay without a glitch (R122). -/
def State.ckDelayWrite (s : State) (n : Nat) (w : Word) : State :=
  if s.on .clk then
    let s := s.wr (R.CKOUT_DELAY n) (w &&& 0x003F03FF)
    (s.setCk n { s.ck n with coarse := s.get (R.CKOUT_DELAY_COARSE n), fine := s.get (R.CKOUT_DELAY_FINE n) }).ckPin n
  else s

/-- Whether an output's source runs: ADPLL_1 must have been LOCKED since it last relocked for its outputs to toggle (R119). -/
def State.ckSourceRuns (s : State) (src : Nat) : Bool :=
  if src = 1 then s.syn.run1 && (s.adpll 1 == 2 || s.adpll 1 == 3) else s.adpll src != 0

/-- An enabled output begins to toggle (R123, R125). -/
def State.ckStart (s : State) (n : Nat) : State :=
  let c := s.ck n
  if s.on .clk && s.flag (R.CKOUT_CFG_EN n) && c.starting && !c.aligned && !s.flag (R.CKOUT_STATUS_SRC_ERR n)
      && s.ckSourceRuns c.src then
    ((s.raise (R.CKOUT_STATUS_RUNNING n)).setCk n { c with starting := false }).ckPin n
  else s

/-- Whether the phase of output `n`'s divider differs from the phase a reset would give, at a frame boundary (R124): known where a
reset at an earlier boundary set it and nothing has moved it since, by the source cycles that have passed, of which
ADPLL_1 runs its exact ratio to each 128 of ADPLL_0 (R110); else as `free` says. -/
def State.dividerOff (s : State) (n : Nat) (free : Bool) : Bool :=
  let c := s.ck n
  match c.base with
  | some b =>
    let d := s.time.cycles - b
    let r := s.adpllRatio 1
    if c.src = 0 then d % c.div != 0 else if c.src = 1 then d * r.1 / (128 * r.2) % c.div != 0 else free
  | none => free

/-- The alignment event (R124, R125): RESET restarts each divider that takes part, CHECK compares it and restarts none, and either sets
free every output that waited for it (log entry 311). `mis` lists the outputs whose divider phase differs from the phase a reset would give; `base` is the
event's source cycle where it is a frame boundary. -/
def State.alignEvent (s : State) (mis : List Nat) (base : Option Nat) : State :=
  let check := s.flag R.SYN_SYNC_CTRL_MODE
  let s := (s.clr R.SYN_SYNC_CTRL_ARM).raise R.SYN_EVENT_SYNC_DONE
  let s := forN 12 (fun n s => s.setCk n { s.ck n with aligned := false }) s
  if check then
    let l := sel 12 (fun n => s.flag (R.CKOUT_CFG_SYNC_EN n) && mis.contains n)
    let s := forN 12 (fun n s => s.clr (R.CKOUT_STATUS_ALIGNED n)) s
    let s := s.put R.SYN_SYNC_STATUS_MISMATCH (l.foldl (fun a n => a ||| 2 ^ n) 0)
    if l.isEmpty then s else s.raise R.SYN_EVENT_SYNC_MISS
  else
    forN 12 (fun n s =>
      let part := s.flag (R.CKOUT_CFG_SYNC_EN n)
      let s := s.put (R.CKOUT_STATUS_ALIGNED n) (toBit part)
      if part then s.setCk n { s.ck n with base := if (s.ck n).src ≤ 1 then base else none } else s) s

/-- A write of SYN.SYNC_CTRL arms or disarms alignment (R124). -/
def State.syncCtrlWrite (s : State) (w : Word) : State :=
  if s.on .clk then
    let s := s.wr R.SYN_SYNC_CTRL (w &&& 7)
    if s.flag R.SYN_SYNC_CTRL_ARM then s
    else forN 12 (fun n s => s.setCk n { s.ck n with aligned := false }) s
  else s

/-- A rising edge on SYNC_IN (R124): shorter than 8 ADPLL_0 cycles it is ignored. -/
def State.syncInEdge (s : State) (high : Nat) (mis : List Nat) : State :=
  if s.on .clk && decide (8 ≤ high) then
    let s := s.count R.SYN_SYNC_STATUS_EDGE_CNT
    if s.flag R.SYN_SYNC_CTRL_ARM ∧ ¬ s.flag R.SYN_SYNC_CTRL_SRC then s.alignEvent mis none else s
  else s

/-- An engine frame boundary is the alignment event of SRC = 1 (R124); a divider's phase that no reset at a boundary has set is a free
value (log entry 130). -/
def State.syncAtBoundary (s : State) : State :=
  if s.on .clk && s.flag R.SYN_SYNC_CTRL_ARM && s.flag R.SYN_SYNC_CTRL_SRC then
    let (k, s) := s.draw
    s.alignEvent (sel 12 (fun n => s.dividerOff n ((Config.freeNat k).testBit n))) (some s.time.cycles)
  else s

/-- CLK powers up: ADPLL_0 and ADPLL_2 start, ADPLL_0 at the OSC_SEL now held (R111, R113); one whose oscillator is lost goes on to
COAST (R116). -/
def State.clkStart (s : State) : State :=
  let s := { s with syn := { s.syn with oscSel := s.get R.SYN_OSC_CFG_OSC_SEL } }
  let s := s.restart0.put (adpllField 2) 1
  let s := (s.put R.SYN_STATUS_XO_OK (toBit s.syn.xoOk)).put R.SYN_STATUS_OSC_OK (toBit s.syn.oscOk)
  let s := if s.syn.oscOk then s else s.coast 0
  if s.syn.xoOk then s else s.coast 2

/-- The pins of every clock output are low while CLK is off (R114). -/
def State.clkPinsLow (s : State) : State :=
  forN 12 (fun n s => if look .low s.syn.pins n = .low then s else s.emit (.clockPin n .low)) s

/-- The modulators' updates over a core sample (R111): one for each cycle of the reference, as the feedback divider counts the DCO's
cycles (log entry 280). -/
def updates (part cycles : Nat) (ratio : Nat × Nat) : Nat × Nat :=
  let p := part + cycles * ratio.2
  if ratio.1 = 0 then (0, p) else (p / ratio.1, p % ratio.1)

/-- A core sample of the media clock (R109): the DCO of ADPLL_0 has run 65,536 cycles at 48 kHz, 32,768 at 96 kHz, and the dither
generators have stepped once per modulator update (R111). ADPLL_1's reference is the DCO ÷ 128. -/
def State.synTick (s : State) : State :=
  let c := 3145728000 / s.rate
  let u0 := updates s.syn.part0 c (s.adpllRatio 0)
  let on1 := s.adpll 1 != 0
  { s with
    time := { s.time with cycles := s.time.cycles + c }
    syn := { s.syn with
      upd0 := s.syn.upd0 + u0.1, part0 := u0.2, upd1 := if on1 then s.syn.upd1 + c / 128 else s.syn.upd1 } }

def execAdpllLock (n : Fin 3) (s : State) : Result := finish (s.adpllLock n)
def execAdpllPhaseErrorCoast (n : Fin 3) (e : Int) (s : State) : Result := finish (s.adpllError n e)
def execOscLoss (xo : Bool) (s : State) : Result := finish (s.oscLost xo)
def execOscRestored (xo : Bool) (s : State) : Result := finish (s.oscBack xo)
def execOscFreqCompare (ppb : Nat) (s : State) : Result := finish (s.oscCompare ppb)
def execFwApply (s : State) : Result := finish s.fwApply
def execAdpll1Enable (w : BitVec 32) (s : State) : Result :=
  finish (s.hostPut (R.SYN_ADPLL1_CTRL) (R.SYN_ADPLL1_CTRL_EN.inWord w 1) (fun s => s.adpll1Write (R.SYN_ADPLL1_CTRL_EN.inWord w 1)))
def execAdpll1Disable (w : BitVec 32) (s : State) : Result :=
  finish (s.hostPut (R.SYN_ADPLL1_CTRL) (R.SYN_ADPLL1_CTRL_EN.inWord w 0) (fun s => s.adpll1Write (R.SYN_ADPLL1_CTRL_EN.inWord w 0)))
def execAdpll1Apply (w : BitVec 32) (s : State) : Result :=
  finish (s.hostPut (R.SYN_ADPLL1_CTRL) (R.SYN_ADPLL1_CTRL_APPLY.inWord w 1) (fun s => s.adpll1Write (R.SYN_ADPLL1_CTRL_APPLY.inWord w 1)))
def execOscCfgWrite (w : BitVec 32) (s : State) : Result :=
  finish (s.hostPut (R.SYN_OSC_CFG) w (fun s => s.oscCfgWrite w))
def execCkoutEnable (n : Fin 12) (w : BitVec 32) (s : State) : Result :=
  finish (s.hostPut (R.CKOUT_CFG n) ((R.CKOUT_CFG_EN n).inWord w 1) (fun s => s.ckCfgWrite n ((R.CKOUT_CFG_EN n).inWord w 1)))
def execCkoutDisable (n : Fin 12) (w : BitVec 32) (s : State) : Result :=
  finish (s.hostPut (R.CKOUT_CFG n) ((R.CKOUT_CFG_EN n).inWord w 0) (fun s => s.ckCfgWrite n ((R.CKOUT_CFG_EN n).inWord w 0)))
def execCkoutDivWrite (n : Fin 12) (w : BitVec 32) (s : State) : Result :=
  finish (s.hostPut (R.CKOUT_DIV n) w (fun s => s.ckDivWrite n w))
def execCkoutDelayWrite (n : Fin 12) (w : BitVec 32) (s : State) : Result :=
  finish (s.hostPut (R.CKOUT_DELAY n) w (fun s => s.ckDelayWrite n w))
def execCkoutStart (n : Fin 12) (s : State) : Result := finish (s.ckStart n)
def execSyncArm (w : BitVec 32) (s : State) : Result :=
  finish (s.hostPut (R.SYN_SYNC_CTRL) (R.SYN_SYNC_CTRL_ARM.inWord w 1) (fun s => s.syncCtrlWrite (R.SYN_SYNC_CTRL_ARM.inWord w 1)))
def execSyncDisarm (w : BitVec 32) (s : State) : Result :=
  finish (s.hostPut (R.SYN_SYNC_CTRL) (R.SYN_SYNC_CTRL_ARM.inWord w 0) (fun s => s.syncCtrlWrite (R.SYN_SYNC_CTRL_ARM.inWord w 0)))

end Sys2Proof.Machine
end

