-- ==== Sys2Proof/Machine/Port.lean ====
section
/-!
DEFINITION. The serial ports: commands, clock monitors, the sample grid, SLIP FIFOs, channel status and the common start
trigger (chapter 11). A unit is named by its abort index (Table 11.1).
-/
namespace Sys2Proof.Machine

def State.unit (s : State) (n : Nat) : PortUnit := look {} s.ports.units n

def State.setUnit (s : State) (n : Nat) (u : PortUnit) : State := { s with ports := { s.ports with units := upd s.ports.units n u } }

/-- The kinds of unit: TDM, AES3 receiver, AES3 transmitter, MADI. -/
def isTdm (n : Nat) : Bool := decide (n < 8)
def isAesRx (n : Nat) : Bool := decide (8 ≤ n) && decide (n < 16)
def isAesTx (n : Nat) : Bool := decide (16 ≤ n) && decide (n < 24)
def isMadi (n : Nat) : Bool := decide (24 ≤ n)

/-- The unit's CFG word. -/
def cfgAddr (n : Nat) : Nat := R.portBase n + 0x40

def State.pcfg (s : State) (n hi lo : Nat) : Nat := bitsOf (s.rd (cfgAddr n)).toNat hi lo

def State.unitState (s : State) (n : Nat) : Nat := s.get (R.PORT_U_STATUS_STATE n)

def State.mon (s : State) (n : Nat) : Nat := s.get (R.PORT_U_STATUS_MON n)

/-- Event bit `b` of a unit (Table 11.10). -/
def unitEvent (n b : Nat) : Field := ⟨R.PORT_U_EVENT n, b, b⟩

def State.setUnitState (s : State) (n v : Nat) : State :=
  if s.unitState n = v then s else (s.put (R.PORT_U_STATUS_STATE n) v).raise (unitEvent n 0)

/-- The monitor changes state; where it leaves OK, a capture of a MADI unit that is not complete ends (R310, R311). -/
def State.setMon (s : State) (n v : Nat) : State :=
  if s.mon n = v then s
  else
    let s := if isMadi n ∧ s.mon n = 2 then s.put (R.PORT_MADI_CS_CAP_ARM (n - 24)) 0 else s
    (s.put (R.PORT_U_STATUS_MON n) v).raise (unitEvent n 3)

/-- CLKMODE: 0 SYNC, 1 SRC, 2 SLIP (Table 11.2). -/
def State.clkMode (s : State) (n : Nat) : Nat :=
  if isTdm n then s.pcfg n 14 13 else if isMadi n then s.pcfg n 3 2 else s.pcfg n 4 3

/-- The rates by RATE code; 0 for AUTO. -/
def codeRate (c : Nat) : Nat := look 0 [(0, 32000), (1, 44100), (2, 48000), (3, 88200), (4, 96000), (5, 176400), (6, 192000)] c

/-- The unit's RATE code as configured. -/
def State.rateCfg (s : State) (n : Nat) : Nat :=
  if isTdm n then s.pcfg n 12 10 else if isMadi n then (if s.pcfg n 0 0 = 1 then 4 else 2) else s.pcfg n 2 0

/-- The unit's rate in samples per second: under AUTO, the rate found. -/
def State.unitRate (s : State) (n : Nat) : Nat := if s.rateCfg n = 7 then codeRate (s.unit n).rate else codeRate (s.rateCfg n)

/-- A rate that a mode permits (Table 11.2). -/
def State.ratePermitsPort (s : State) (mode rate : Nat) : Bool :=
  if mode = 0 then rate == 48000 || rate == 96000 || rate == 192000
  else if mode = 1 then rate != 0
  else rate == s.rate

/-- The channels of a unit: TDM slots, two subframes, MADI channels (R302, R308). -/
def State.unitCh (s : State) (n : Nat) : Nat :=
  if isTdm n then s.pcfg n 8 4 + 1
  else if isMadi n then
    (if s.pcfg n 0 0 = 1 then (if s.pcfg n 1 1 = 1 then 32 else 28) else (if s.pcfg n 1 1 = 1 then 64 else 56))
  else 2

/-- The first ID of a unit (Table 7.1). -/
def unitId (n : Nat) : Nat := if n < 8 then 1152 + 32 * n else if n < 16 then 1392 + 2 * n else if n < 24 then 1376 + 2 * n else 64 * n - 512

def State.rxEn (s : State) (n : Nat) : Bool :=
  if isTdm n then s.pcfg n 18 18 == 1 else if isMadi n then s.pcfg n 5 5 == 1 else isAesRx n

def State.txEn (s : State) (n : Nat) : Bool :=
  if isTdm n then s.pcfg n 19 19 == 1 else if isMadi n then s.pcfg n 6 6 == 1 else isAesTx n

/-- The IDs for which a unit in SRC mode holds converters (R300): receive sources, then transmit sinks. -/
def State.unitSrcs (s : State) (n : Nat) : List (Nat × Bool) :=
  let ids := (List.range (s.unitCh n)).map (fun c => unitId n + c)
  (if s.rxEn n then ids.map (fun i => (i, false)) else []) ++ (if s.txEn n then ids.map (fun i => (i, true)) else [])

/-- Count `by_` more in CNT[k]; a wrap shows in WRAP (Table 11.10). -/
def State.unitCount (s : State) (n k by_ : Nat) : State :=
  let v := s.get (R.PORT_U_CNT_COUNT n k) + by_
  let s := s.put (R.PORT_U_CNT_COUNT n k) v
  if 2 ^ 32 ≤ v then (s.raise ⟨R.PORT_U_WRAP n, k, k⟩).raise (unitEvent n 7) else s

def State.noPortFade (s : State) (n : Nat) : Bool := s.flag (R.PORT_U_CTRL_NOFADE n)

/-! Commands (R296, R302, R304, R307, R313 to R316) -/

/-- Whether the DCO of the ADPLL named is an integer multiple of `f` Hz (R304, R307). -/
def State.dcoMultiple (s : State) (one : Bool) (f : Nat) : Bool :=
  if one then
    let den := s.syn.den1
    f != 0 && ((s.syn.int1 * den + s.syn.num1) * 24576000) % (f * den) == 0
  else f != 0 && 3145728000 % f == 0

/-- A slot's width in bits. -/
def State.slotWidth (s : State) (n : Nat) : Nat := look 0 [(0, 16), (1, 24), (2, 32)] (s.pcfg n 3 2)

/-- BAD_PARAM of a START (Table 11.7). -/
def State.unitBad (s : State) (n : Nat) : Bool :=
  let mode := s.clkMode n
  let auto := s.rateCfg n == 7
  let rateBad := decide (mode = 3) || (!auto && !s.ratePermitsPort mode (codeRate (s.rateCfg n)))
  if isTdm n then
    let slots := s.unitCh n
    let bclk := slots * s.slotWidth n * codeRate (s.rateCfg n)
    auto || rateBad || s.pcfg n 1 0 == 3 || s.pcfg n 3 2 == 3 || slots == 1 || (s.pcfg n 1 0 != 2 && slots % 2 == 1)
      || decide (24576000 < bclk) || (s.pcfg n 9 9 == 1 && !s.dcoMultiple (s.pcfg n 15 15 == 1) bclk)
      || !(s.rxEn n || s.txEn n)
  else if isAesRx n then rateBad
  else if isAesTx n then
    auto || rateBad || s.pcfg n 6 5 == 3 || decide (2 ≤ s.pcfg n 11 10) || s.pcfg n 17 16 == 3
      || (decide (s.pcfg n 6 5 < 2) && !s.dcoMultiple (s.pcfg n 6 5 == 1) (128 * codeRate (s.rateCfg n)))
  else rateBad || !(s.rxEn n || s.txEn n)

/-- CLK_SRC names ADPLL_1 (R315). -/
def State.usesAdpll1 (s : State) (n : Nat) : Bool :=
  (isTdm n && s.pcfg n 9 9 == 1 && s.pcfg n 15 15 == 1) || (isAesTx n && s.pcfg n 6 5 == 1)

def State.unitRefuse (s : State) (n r : Nat) : State := (s.put (R.PORT_U_STATUS_RESULT n) r).raise (unitEvent n 1)

def State.unitAt (s : State) (n : Nat) : Nat := s.get64 (R.PORT_U_AT_LO n) (R.PORT_U_AT_HI n)

/-- LATE and its event (R180, R314). -/
def State.unitLate (s : State) (n : Nat) (late : Bool) : State :=
  let s := s.put (R.PORT_U_STATUS_LATE n) (toBit late)
  if late then s.raise (unitEvent n 2) else s

/-- START (R313 to R315, R317). -/
def State.unitStart (s : State) (n : Nat) : State :=
  let srcs := if s.clkMode n = 1 then s.unitSrcs n else []
  if s.unitState n ≠ 0 then s.unitRefuse n 6
  else if s.unitBad n then s.unitRefuse n 1
  else if s.usesAdpll1 n && s.adpll 1 != 2 then s.unitRefuse n 3
  else if s.srcFree.length < srcs.length then (s.unitRefuse n 2).raise R.ROUTE_EVENT_SRC_FULL
  else
    let common := s.flag (R.PORT_U_CTRL_COMMON n)
    let timed := s.flag (R.PORT_U_CTRL_TIMED n) && !common
    let late := timed && s.passed (s.unitAt n)
    let u : PortUnit :=
      { start := if common then none else some (if !timed then s.cmdBoundary else if late then s.nextBoundary else s.unitAt n)
        common, lfsr := lfsrSeed (s.rd R.PORT_DITHER_SEED).toNat, blocks := (s.unit n).blocks }
    let s := if srcs.isEmpty then s else s.srcClaim srcs
    let s := ((s.setUnit n u).put (R.PORT_U_STATUS_RESULT n) 0).put (R.PORT_U_STATUS_WAIT_TRIG n) (toBit common)
    ((s.unitLate n late).setUnitState n 1).setMon n 1

/-- The unit's sources stop (R198). -/
def State.unitMute (s : State) (n : Nat) : State := if s.rxEn n then s.srcsStop (unitId n) (s.unitCh n) else s

/-- The unit returns to IDLE: its converters go back to the pool and its monitor is OFF (R313). -/
def State.unitIdle (s : State) (n : Nat) : State :=
  let s := if s.clkMode n = 1 then s.srcRelease (s.unitSrcs n) else s
  let keep : PortUnit := { blocks := (s.unit n).blocks }
  let s := ((s.setUnit n keep).setUnitState n 0).setMon n 0
  (s.put (R.PORT_U_STATUS_WAIT_TRIG n) 0).put (R.PORT_U_STATUS_FILL_RX n) 0 |>.put (R.PORT_U_STATUS_FILL_TX n) 0

/-- STOP (R180, R314). -/
def State.unitStop (s : State) (n : Nat) : State :=
  let st := s.unitState n
  if st = 3 then s.unitRefuse n 6
  else
    let s := s.put (R.PORT_U_STATUS_RESULT n) 0
    let u := s.unit n
    if st = 0 then s
    else if st = 1 then (s.setUnit n { u with cancelled := true }).unitLate n false
    else
      let timed := s.flag (R.PORT_U_CTRL_TIMED n)
      let late := timed && s.passed (s.unitAt n)
      let len := if s.noPortFade n then 0 else 64
      let nb := if late then s.nextBoundary else s.cmdBoundary
      let u := if timed && !late then { u with stop := some (s.unitAt n), fadeFrom := max (s.unitAt n - len) s.nextBoundary }
        else { u with stop := some (nb + len), fadeFrom := nb }
      ((s.setUnit n u).unitLate n late).setUnitState n 3

/-- CLR_CNT (R314). -/
def State.unitClear (s : State) (n : Nat) : State := (forN 7 (fun k s => s.wr (R.PORT_U_CNT n k) 0) s).wr (R.PORT_U_WRAP n) 0

/-- A write of a unit's CTRL (Table 11.10). -/
def State.unitCtrlWrite (s : State) (n : Nat) (w : Word) : State :=
  if s.on .ports then
    let s := s.wr (R.PORT_U_CTRL n) (w &&& 0x2C)
    let s := if bitOf w.toNat 4 then s.unitClear n else s
    match bitsOf w.toNat 1 0 with
    | 1 => s.unitStart n
    | 2 => s.unitStop n
    | _ => s
  else s

/-- The CFG fields that may change while a unit is not IDLE (R316). -/
def cfgFree (n : Nat) : Word := if isAesTx n then 0x3FC00 else if isMadi n then 0x180 else 0

/-- A write of a unit's CFG (R316). -/
def State.unitCfgWrite (s : State) (n : Nat) (w mask : Word) : State :=
  if s.unitState n = 0 then s.wr (cfgAddr n) (w &&& mask)
  else
    let old := s.rd (cfgAddr n)
    let free := cfgFree n
    let s := if (w &&& mask &&& ~~~free) ≠ (old &&& ~~~free) ∨ free = 0 then s.raise (unitEvent n 8) else s
    s.wr (cfgAddr n) ((old &&& ~~~free) ||| (w &&& free))

/-! Indexes (R313, R314) -/

/-- The unit's stopped sources return (R198): in SRC mode its channels see to it (R204). -/
def State.unitReturn (s : State) (n : Nat) : State :=
  if s.rxEn n ∧ s.clkMode n ≠ 1 ∧ s.mon n = 2 then s.srcsReturn (unitId n) (s.unitCh n) else s

/-- The start index is reached; where the monitor is not OK, the sources are muted until it is (R312, R314). -/
def State.unitBegin (s : State) (n : Nat) : State :=
  let u := s.unit n
  match u.start with
  | some st =>
    if s.unitState n = 1 ∧ ¬ u.cancelled ∧ st ≤ s.time.index then
      let s := s.setUnitState n 2
      if s.mon n ≠ 2 ∧ s.clkMode n ≠ 1 then s.unitMute n else s.unitReturn n
    else s
  | none => s

/-- How long after the stop index a unit returns to IDLE, in core samples: a transmitter sends the sinks of that index 8 later (R297, R314;
log entry 319). -/
def State.unitDrain (s : State) (n : Nat) : Nat := if s.txEn n then 8 else 0

/-- The stop index is reached, and what its fade leaves has been sent. -/
def State.unitEnd (s : State) (n : Nat) : State :=
  match (s.unit n).stop with
  | some e => if s.unitState n = 3 ∧ e + s.unitDrain n ≤ s.time.index then s.unitIdle n else s
  | none => s

/-- A STOP in ARMED acts at the next boundary. -/
def State.unitCancel (s : State) (n : Nat) : State :=
  if (s.unit n).cancelled ∧ s.unitState n = 1 ∧ s.atBoundary then s.unitIdle n else s

/-! Clock monitors (R311, R312) -/

/-- Converters of a unit acquire again (R204, R312). -/
def State.unitReacquire (s : State) (n : Nat) : State :=
  (s.srcOf (s.unitSrcs n)).foldl (fun s k => if s.srcState k = 2 then (s.setSrcState k 1).srcStop (s.srcKey k) else s) s

/-- The receiver whose recovered clock an AES3 transmitter sends by (R307). -/
def State.clockRx (s : State) (n : Nat) : Option Nat := if isAesTx n ∧ s.pcfg n 6 5 = 2 then some (8 + s.pcfg n 9 7) else none

/-- The ADPLL whose DCO a master TDM unit or an AES3 transmitter divides (R304, R307). -/
def State.clockPll (s : State) (n : Nat) : Option Nat :=
  if isTdm n then (if s.pcfg n 9 9 = 1 then some (s.pcfg n 15 15) else none)
  else if isAesTx n ∧ s.pcfg n 6 5 < 2 then some (s.pcfg n 6 5)
  else none

/-- The clock that a unit's frames depend on stands, as far as the device makes it itself (R311). -/
def State.clockStands (s : State) (n : Nat) : Bool :=
  match s.clockRx n, s.clockPll n with
  | some r, _ => s.mon r == 2
  | _, some k => decide (2 ≤ s.adpll k)
  | _, _ => true

/-- One monitor leaves OK: LOSS 3, GLITCH 4 or RATE 5 (R311, R312). -/
def State.monLeave (s : State) (n v : Nat) : State :=
  let s := (s.setMon n v).countSat (R.PORT_U_CNT16_FAULT_CNT n)
  let s := s.setUnit n { s.unit n with glitches := [], lastRx := none, lastTx := none, cap := none }
  if 2 ≤ s.unitState n then (if s.clkMode n = 1 then s.unitReacquire n else s.unitMute n) else s

/-- The monitor of a unit leaves OK, and with a receiver's those of the transmitters that send by its clock (R311). -/
def State.monFault (s : State) (n v : Nat) : State :=
  let s := s.monLeave n v
  (sel 24 (fun t => s.clockRx t == some n && s.mon t == 2)).foldl (fun s t => s.monLeave t v) s

/-- A relock of the ADPLL that a unit depends on is a loss of its clock (R119, R311). -/
def State.monPll (s : State) (n : Nat) : State :=
  if s.mon n = 2 ∧ (s.clockStands n = false ∨ (s.syn.lost1 ∧ s.clockPll n = some 1)) then s.monFault n 3 else s

/-- The RATE code nearest a measured rate in 1/16 Hz, within ±1,000 ppm; 7 for none. -/
def nearCode (rate : Nat) : Nat :=
  ((sel 7 (fun c => let r := codeRate c * 16; decide (1000 * ((rate : Int) - r).natAbs ≤ r))).head?).getD 7

/-- The measured rate is shown. -/
def State.unitMeasure (s : State) (n rate : Nat) : State :=
  let s := s.put (R.PORT_U_RATE_MEAS_RATE n) (min rate (2 ^ 22 - 1))
  if isAesRx n then s.put (R.PORT_AESRX_RXSTAT_RATE_DET (n - 8)) (nearCode rate) else s

def State.unitLock (s : State) (n : Nat) (on : Bool) : State :=
  if isAesRx n then s.put (R.PORT_AESRX_RXSTAT_LOCK (n - 8)) (toBit on)
  else if isMadi n then s.put (R.PORT_MADI_RXSTAT_LOCK (n - 24)) (toBit on)
  else s

/-- A transmitter whose frames begin by the media clock, which never under-runs or over-runs (R297, R298, R308). -/
def State.txMaster (s : State) (n : Nat) : Bool :=
  if isTdm n then s.pcfg n 9 9 == 1 else if isMadi n then s.pcfg n 4 4 == 0 else decide (s.pcfg n 6 5 < 2)

/-- Whether the frames that come in are what a unit's monitor watches (R311). -/
def State.watchesIn (s : State) (n : Nat) : Bool :=
  s.rxEn n || (isTdm n && s.pcfg n 9 9 == 0) || (isMadi n && s.pcfg n 4 4 == 1)

/-- A clock has qualified: the monitor enters OK; the grid is measured afresh, FIFOs refill, sources fade in (R311, R312). `rate` is in
units of 1/16 Hz; under AUTO in SRC mode any rate from 30 kHz to 200 kHz is expected (Table 11.2). -/
def State.monOk (s : State) (n rate : Nat) : State :=
  if s.on .ports && s.mon n == 1 && s.clockStands n then
    let mode := s.clkMode n
    let code := nearCode rate
    let expected := if s.rateCfg n = 7 then
        (if mode = 1 then decide (480000 ≤ rate) && decide (rate ≤ 3200000) else s.ratePermitsPort mode (codeRate code))
      else code == s.rateCfg n
    if expected then
      let s := ((s.unitMeasure n rate).unitLock n true).setMon n 2
      let u := s.unit n
      let s := s.setUnit n
        { u with rate := code, glitches := [], rxFifo := [], rxOn := false, slipFrom := none, txFifo := [], txOn := false, rx := [], lastRx := none
                 lastTx := none, blocks := u.blocks.map (fun e => (e.1, { e.2 with latched := false })) }
      if 2 ≤ s.unitState n then s.unitReturn n else s
    else s
  else s

def State.monLost (s : State) (n : Nat) : State :=
  if s.on .ports then
    let s := s.unitLock n false
    let s := if isAesRx n then s.put (R.PORT_AESRX_RXSTAT_RATE_DET (n - 8)) 7 else s
    let s := s.setUnit n { s.unit n with blocks := (s.unit n).blocks.map (fun e => (e.1, { e.2 with open_ := false })) }
    if s.mon n = 2 then s.monFault n 3 else s
  else s

/-- The rate has stayed more than 1,000 ppm off the expected one for t_PRATE (R311). -/
def State.monRate (s : State) (n rate : Nat) : State :=
  let expected := if s.rateCfg n = 7 then (s.unit n).rate else s.rateCfg n
  if s.on .ports && s.mon n == 2 && s.clkMode n != 1 then
    let s := s.unitMeasure n rate
    if nearCode rate = expected then s else s.monFault n 5
  else s

/-- The clock is back, or the rate is (Table 11.6). -/
def State.monReturn (s : State) (n rate : Nat) : State :=
  let m := s.mon n
  if s.on .ports && (m == 3 || m == 4 || (m == 5 &&
      (if s.rateCfg n == 7 then s.ratePermitsPort (s.clkMode n) (codeRate (nearCode rate)) else nearCode rate == s.rateCfg n))) then
    (s.unitMeasure n rate).setMon n 1
  else s

/-! Receiving (R297 to R299, R302 to R306, R309, R310) -/

/-- A slot's word as a sample (R303, R305, R309). -/
def State.slotIn (s : State) (n : Nat) (x : PortSlot) : F32 :=
  let w := x.w.toNat
  if isTdm n then
    let sw := s.slotWidth n
    if sw = 16 then fofScaled (sgn 16 w) 15
    else if sw = 24 then fofScaled (sgn 24 w) 23
    else match s.pcfg n 17 16 with
      | 0 => fofScaled (sgn 24 (w / 256)) 23
      | 1 => fofScaled (sgn 24 w) 23
      | 2 => fofScaled (sgn 32 w) 31
      | _ => if bitsOf w 30 23 = 0 then x.w &&& 0x80000000 else x.w
  else
    let vz := if isMadi n then s.pcfg n 9 9 == 1 else s.pcfg n 5 5 == 1
    if (vz && x.v) || !x.active then 0 else fofScaled (sgn 24 w) 23

/-- The CRCC of bytes 0 to 22 of a channel-status block (R306), bits in block order (log entry 41). -/
def crccStep (c : Nat) (b : Bool) : Nat := if (c % 2 == 1) != b then (c / 2) ^^^ 0xB8 else c / 2

def crcc (block : Nat) : Nat := (List.range 184).foldl (fun c j => crccStep c (block.testBit j)) 0xFF

/-- Bits of a block, first received first, as a number with bit j of the block in bit j. -/
def blockOf : List Bool → Nat
  | [] => 0
  | b :: t => toBit b + 2 * blockOf t

/-- The six words of a block at an address. -/
def State.blockAt (s : State) (a : Nat) : Nat := (List.range 6).foldl (fun v k => v + (s.rd (a + 4 * k)).toNat * 2 ^ (32 * k)) 0

def State.setBlockAt (s : State) (a v : Nat) : State := forN 6 (fun k s => s.wr (a + 4 * k) (BitVec.ofNat 32 (v / 2 ^ (32 * k)))) s

/-- Where block `k` of AES3 receiver `a` is latched: C of A and B, U of A and B. -/
def blockAddr (a k : Nat) : Nat :=
  match k with
  | 0 => R.PORT_AESRX_CS_A a 0
  | 1 => R.PORT_AESRX_CS_B a 0
  | 2 => R.PORT_AESRX_U_A a 0
  | _ => R.PORT_AESRX_U_B a 0

/-- A block that has just been completed is latched (R306). -/
def State.blockDone (s : State) (n k : Nat) (bits : List Bool) : State :=
  let a := n - 8
  let v := blockOf bits
  if bits.length ≠ 192 then s
  else if decide (k < 2) && v.testBit 0 && v / 2 ^ 184 != crcc v then s.raise (unitEvent n 10)
  else
    if s.blockAt (blockAddr a k) = v then s
    else
      let u := s.unit n
      let s := s.setUnit n { u with blocks := upd u.blocks k { look {} u.blocks k with latched := true } }
      let s := ((s.setBlockAt (blockAddr a k) v).count (R.PORT_AESRX_CS_SEQ_SEQ a)).raise (unitEvent n 9)
      if k = 0 then
        (s.put (R.PORT_AESRX_RXSTAT_PRO a) (v % 2)).put (R.PORT_U_STATUS_NONAUDIO n) (toBit (v.testBit 1))
      else s

/-- One bit of block `k`; a Z preamble completes the block before it (R306). -/
def State.blockBit (s : State) (n k : Nat) (z b : Bool) : State :=
  let r := look {} (s.unit n).blocks k
  let s := if z && r.open_ then s.blockDone n k r.bits else s
  let r := look {} (s.unit n).blocks k
  let r : BlockRx := if z then { r with bits := [b], open_ := true } else if r.open_ then { r with bits := r.bits ++ [b] } else r
  s.setUnit n { s.unit n with blocks := upd (s.unit n).blocks k r }

/-- The status bits of an AES3 frame (R305, R306). -/
def State.aesStatus (s : State) (n : Nat) (slots : List PortSlot) : State :=
  match slots with
  | x :: y :: _ =>
    let a := n - 8
    let s := (s.put (R.PORT_AESRX_RXSTAT_V_A a) (toBit x.v)).put (R.PORT_AESRX_RXSTAT_V_B a) (toBit y.v)
    let s := if x.v || y.v then s.count (R.PORT_AESRX_V_CNT_COUNT a) else s
    (((s.blockBit n 0 x.z x.c).blockBit n 1 x.z y.c).blockBit n 2 x.z x.u).blockBit n 3 x.z y.u
  | _ => s

/-- A bit per channel as a 64-bit mask. -/
def chanMask (f : PortSlot → Bool) : List PortSlot → Nat
  | [] => 0
  | x :: t => toBit (f x) + 2 * chanMask f t

/-- The status bits of a MADI frame, and a capture in progress (R309, R310). -/
def State.madiStatus (s : State) (n : Nat) (slots : List PortSlot) (f96 : Bool) : State :=
  let m := n - 24
  let s := (s.put (R.PORT_MADI_RXSTAT_FRAME96_DET m) (toBit f96)).put (R.PORT_MADI_RXSTAT_CH_DET m) slots.length
  let s := s.put64 (R.PORT_MADI_ACTIVE_LO m) (R.PORT_MADI_ACTIVE_HI m) (chanMask (·.active) slots)
  let s := s.put64 (R.PORT_MADI_VBITS_LO m) (R.PORT_MADI_VBITS_HI m) (chanMask (·.v) slots)
  let s := if slots.any (·.v) then s.count (R.PORT_MADI_V_CNT_COUNT m) else s
  if s.flag (R.PORT_MADI_CS_CAP_ARM m) then
    match slots[s.get (R.PORT_MADI_CS_CAP_CHANNEL m)]? with
    | none => s
    | some x =>
      let u := s.unit n
      let bits : Option (List Bool) := match u.cap with
        | some l => some (l ++ [x.c])
        | none => if x.z then some [x.c] else none
      match bits with
      | none => s
      | some l =>
        if l.length = 192 then
          let s := (s.setUnit n { u with cap := none }).setBlockAt (R.PORT_MADI_CS m 0) (blockOf l)
          ((s.raise (R.PORT_MADI_CS_CAP_VALID m)).clr (R.PORT_MADI_CS_CAP_ARM m)).raise (unitEvent n 9)
        else s.setUnit n { u with cap := some l }
  else s

/-- A write of CS_CAP (R310). -/
def State.madiCapWrite (s : State) (m : Nat) (w : Word) : State :=
  if s.on .ports then
    let s := s.wr (R.PORT_MADI_CS_CAP m) ((w &&& 0x13F) ||| (s.rd (R.PORT_MADI_CS_CAP m) &&& 0x200))
    let s := s.setUnit (24 + m) { s.unit (24 + m) with cap := none }
    if bitOf w.toNat 8 then s.clr (R.PORT_MADI_CS_CAP_VALID m) else s
  else s

/-- Glitches within the last 64 unit frames (R311): a frame ages them; four make the monitor leave OK. -/
def State.unitGlitch (s : State) (n : Nat) (glitch : Bool) : State :=
  let u := s.unit n
  let l := (u.glitches.map (· + 1)).filter (· < 64)
  let l := if glitch then 0 :: l else l
  let s := s.setUnit n { u with glitches := l }
  let s := if glitch then s.countSat (R.PORT_U_CNT16_GLITCH_CNT n) else s
  if s.mon n = 2 ∧ 4 ≤ l.length then s.monFault n 4 else s

/-- Slips (R299): a FIFO that has risen to 14 drops its 6 oldest. -/
def State.slipDrop {α : Type} (s : State) (n k : Nat) (l : List α) : List α × State :=
  if 14 ≤ l.length then (l.drop 6, (s.unitCount n k 6).raise (unitEvent n 6)) else (l, s)

/-- A FIFO that has fallen to 2 repeats the frame last read 6 times. -/
def State.slipRepeat {α : Type} (s : State) (n k : Nat) (x : α) (l : List α) : List α × State :=
  if l.length ≤ 2 then (List.replicate 6 x ++ l, (s.unitCount n k 6).raise (unitEvent n 6)) else (l, s)

/-- FILL_RX and FILL_TX. -/
def State.fillShow (s : State) (n : Nat) : State :=
  (s.put (R.PORT_U_STATUS_FILL_RX n) (s.unit n).rxFifo.length).put (R.PORT_U_STATUS_FILL_TX n) (s.unit n).txFifo.length

/-- Whether a receiver is named by an enabled Vetiver slot (R79, R305). -/
def State.vetNames (s : State) (src : Nat) : Bool :=
  (List.range 8).any (fun k => s.flag (R.REF_CFG_ENABLE k) && s.get (R.REF_CFG_SRC k) == src)

/-- A unit frame arrives (R297 to R299, R305, R309, R311). -/
def State.frameIn (s : State) (n u : Nat) (slots : List PortSlot) (glitch f96 : Bool) : State :=
  if s.on .ports && s.watchesIn n && (s.unitState n != 0 || (isAesRx n && s.vetNames n)) then
    let s := (s.unitLock n true).unitGlitch n glitch
    let s := if isAesRx n then s.aesStatus n slots else if isMadi n && s.rxEn n then s.madiStatus n slots f96 else s
    let p := s.unit n
    if s.unitState n = 0 ∨ s.mon n ≠ 2 ∨ s.rxEn n = false then s
    else if s.clkMode n = 2 then
      if 2 ≤ s.unitState n then
        let r := s.slipDrop n 4 (p.rxFifo ++ [slots])
        (r.2.setUnit n { p with rxFifo := r.1 }).fillShow n
      else s
    else if s.clkMode n = 0 then
      if p.lastRx = some u then
        if 2 ≤ s.unitState n then (s.unitCount n 2 1).raise (unitEvent n 5) else s
      else s.setUnit n { p with rx := (p.rx ++ [(u, slots)]).filter (fun e => u < e.1 + 128), lastRx := some u }
    else s.setUnit n { p with rxPast := ((s.time.index, slots) :: p.rxPast).take 400 }
  else s

/-- A window closes with no frame start (R298): zeros are delivered, or the index's sink samples are discarded. -/
def State.windowEmpty (s : State) (n : Nat) (rx : Bool) : State :=
  if s.on .ports && s.clkMode n == 0 && s.mon n == 2 && decide (2 ≤ s.unitState n) && !(isTdm n && s.pcfg n 9 9 == 1)
      && (if rx then s.rxEn n else s.txEn n && !s.txMaster n) then
    if rx then (s.unitCount n 0 1).raise (unitEvent n 4) else (s.unitCount n 3 1).raise (unitEvent n 5)
  else s

/-- A sample's fade at an index, where the unit's first is `start` (R314): zero where the unit has none. -/
def State.unitFade (s : State) (n : Nat) (start : Option Nat) (y : Nat) (x : F32) : F32 :=
  let u := s.unit n
  let nf := s.noPortFade n
  match start with
  | none => 0
  | some st =>
    if y < st then 0
    else
      let x := if nf ∨ st + 64 ≤ y then x else (fmul x (fadeIn64 (y - st))).v
      match u.stop with
      | none => x
      | some e => if e ≤ y then 0 else if nf ∨ y < u.fadeFrom then x else (fmul x (fadeOut64 (y - u.fadeFrom))).v

/-- The slots a unit delivers at source index `y`, position `j` of the frame (R297, R299). What a SLIP unit has delivered is kept under the
indexes that a unit on the grid would have. -/
def State.unitSlots (s : State) (n y j : Nat) : List PortSlot :=
  let u := s.unit n
  if s.clkMode n = 2 then (u.rxRead[j]?).getD [] else ((u.rx.find? (fun e => e.1 + 9 == y)).map (·.2)).getD []

/-- A sink's sample at an index of the frame that ended last; zero elsewhere. -/
def State.sinkAt (s : State) (id x : Nat) : F32 :=
  if s.audio.sinkFirst ≤ x then ((s.sinkNow id)[x - s.audio.sinkFirst]?).getD 0 else 0

/-- The faded sink samples of a unit at an index. -/
def State.unitSinks (s : State) (n x : Nat) : List F32 :=
  (List.range (s.unitCh n)).map (fun c => s.unitFade n (s.unit n).start x (s.sinkAt (unitId n + c) x))

/-- The framing of one unit frame, in whole core samples (R297). -/
def State.unitFraming (s : State) (n : Nat) : Nat := (s.rate + s.unitRate n - 1) / s.unitRate n

/-- A channel's sample as received in the unit frame of an index. -/
def State.unitHeard (s : State) (n c u : Nat) : F32 :=
  ((((s.unit n).rx.find? (fun e => e.1 == u)).map (·.2)).getD [])[c]? |>.map (s.slotIn n) |>.getD 0

/-- The samples in which the fabric gets a channel of a unit in SYNC mode at another rate, at source index `y`: through the filter, and
8 core samples and the framing later (R201, R297). -/
def State.unitFiltered (s : State) (n c y : Nat) : F32 :=
  let d := 8 + s.unitFraming n
  if y < d then 0 else resample (s.unitRate n) s.rate (s.unitHeard n c) (y - d)

/-- The rate in samples per second that a unit in SRC mode runs at: its RATE code's nominal one. -/
def State.srcNominal (s : State) (n : Nat) : Nat := let r := s.unitRate n; if r = 0 then 48000 else r

/-- The sink rows of the frame that ended last go into the past of a unit whose transmit side converts (R201, R204). -/
def State.unitPast (s : State) (n : Nat) : State :=
  let u := s.unit n
  if s.txEn n && decide (2 ≤ s.unitState n) && (s.clkMode n == 1 || (s.clkMode n == 0 && s.unitRate n != s.rate)) then
    let from_ := s.audio.sinkFirst
    let rows := (List.range (s.audio.first - from_)).map (fun j => (from_ + j, s.unitSinks n (from_ + j)))
    s.setUnit n { u with txPast := (rows.reverse ++ u.txPast).take 72 }
  else s

/-- The first source index that a unit delivers (R297, R314): of its frame at the start index; of a SLIP unit's first frame read. -/
def State.unitFrom (s : State) (n : Nat) : Option Nat :=
  let u := s.unit n
  let r := s.unitRate n
  if s.clkMode n = 2 then u.slipFrom
  else u.start.map (fun st =>
    if s.clkMode n = 1 then st + 33
    else if r = s.rate then st + 9
    else st + 8 + s.unitFraming n + filterDelay r s.rate * s.rate / max r s.rate)

/-- A running unit delivers its sources for the frame that begins (R297, R312). -/
def State.unitPresent (s : State) (n : Nat) : State :=
  let u := s.unit n
  let first := s.audio.first
  let len := s.audio.len
  let live := match u.start with
    | some st => decide (st < first + len) && (match u.stop with | some e => decide (first < e) | none => true)
    | none => false
  let slip := (List.range len).map (fun j => (first + j - 9, (u.rxRead[j]?).getD []))
  let fade := s.unitFade n (s.unitFrom n)
  let s' := s.setUnit n { u with
    rxRead := [], rx := if s.clkMode n = 2 then (u.rx ++ slip).filter (fun e => first < e.1 + 128) else u.rx }
  if s.unitState n ≠ 0 && s.rxEn n && s.mon n == 2 && live then
    if s.clkMode n = 1 then
      let r := s.srcNominal n
      let (k, s') := s'.draw
      let age (j i : Nat) : Nat := j * 65536 + (Config.freeNat k % 65536 + i * 65536) * s.rate / r
      forN (s.unitCh n) (fun c s1 =>
        let xs := (u.rxPast.take (srcSpan r s.rate)).map (fun f => (f.2[c]?).map (s.slotIn n) |>.getD 0)
        let at_ (j : Nat) := (List.range xs.length).zip xs |>.map (fun e => (age j e.1, e.2))
        s1.present (unitId n + c) ((List.range len).map (fun j => fade (first + j) (srcSample r s.rate (at_ j))))) s'
    else if s.clkMode n = 0 ∧ s.unitRate n ≠ s.rate then
      forN (s.unitCh n) (fun c s1 =>
        s1.present (unitId n + c) ((List.range len).map (fun j => fade (first + j) (s.unitFiltered n c (first + j))))) s'
    else
      forN (s.unitCh n) (fun c s1 =>
        s1.present (unitId n + c) ((List.range len).map (fun j =>
          fade (first + j) (((s.unitSlots n (first + j) j)[c]?).map (s.slotIn n) |>.getD 0)))) s'
  else s'

/-! Sending (R297 to R299, R303, R307, R309) -/

/-- A sample as a slot word: the word, the generator after it, and whether it saturated (R303). -/
def State.slotOut (s : State) (n g : Nat) (x : F32) : BitVec 32 × Nat × Bool :=
  let int (b : Nat) : Int × Bool := satI (-(2 ^ b)) (2 ^ b - 1) (fscaled x b)
  if isTdm n then
    let sw := s.slotWidth n
    if sw = 16 then
      if s.pcfg n 23 23 = 1 then
        let t := tpdf g
        let r := satI (-(2 ^ 15)) (2 ^ 15 - 1) (ditherRound x 15 t.2)
        (BitVec.ofNat 32 (unsgn 16 r.1), t.1, r.2)
      else let r := int 15; (BitVec.ofNat 32 (unsgn 16 r.1), g, r.2)
    else if sw = 24 then let r := int 23; (BitVec.ofNat 32 (unsgn 24 r.1), g, r.2)
    else match s.pcfg n 17 16 with
      | 0 => let r := int 23; (BitVec.ofInt 32 (r.1 * 256), g, r.2)
      | 1 => let r := int 23; (BitVec.ofInt 32 r.1, g, r.2)
      | 2 => let r := int 31; (BitVec.ofInt 32 r.1, g, r.2)
      | _ => (x, g, false)
  else let r := int 23; (BitVec.ofNat 32 (unsgn 24 r.1), g, r.2)

/-- A frame's samples as slots; saturations count (R303). -/
def State.slotsOut (s : State) (n : Nat) : List F32 → Nat → List PortSlot × Nat × Nat
  | [], g => ([], g, 0)
  | x :: t, g =>
    let r := s.slotOut n g x
    let q := State.slotsOut s n t r.2.1
    ({ w := r.1 } :: q.1, q.2.1, q.2.2 + toBit r.2.2)

/-- The C and U blocks of an AES3 transmitter for subframe `k`, as captured at a block start: the template or the receiver's
(Table 11.5); the flag says that the template was sent in place of a block to be passed. -/
def State.txBlocks (s : State) (n k : Nat) : Nat × Nat × Bool :=
  let w := s.rd (cfgAddr n)
  let rx := 8 + bitsOf w.toNat 9 7
  let got (b : Nat) : Bool := s.mon rx == 2 && (look {} (s.unit rx).blocks b).latched
  let pass := bitsOf w.toNat 11 10 == 1
  let c := if pass && got k then s.blockAt (blockAddr (rx - 8) k) else s.blockAt (R.PORT_CS_TPL (bitsOf w.toNat 13 12) 0)
  let c := if bitOf w.toNat 14 then c % 2 ^ 184 + crcc c * 2 ^ 184 else c
  let u := if bitOf w.toNat 15 && got (2 + k) then s.blockAt (blockAddr (rx - 8) (2 + k)) else 0
  (c, u, pass && !got k)

/-- A block starts: its settings and its bits are copied (R307, R309, R316). -/
def State.blockStart (s : State) (n : Nat) : State :=
  let w := s.rd (cfgAddr n)
  let p := s.unit n
  if isAesTx n then
    let a := s.txBlocks n 0
    let b := s.txBlocks n 1
    (s.setUnit n { p with blkCfg := w, blkC := [a.1, b.1], blkU := [a.2.1, b.2.1] }).put (R.PORT_AESTX_TXSTAT_CS_FALLBACK (n - 16))
      (toBit (a.2.2 || b.2.2))
  else
    let c := s.blockAt (R.PORT_CS_TPL (bitsOf w.toNat 8 7) 0)
    s.setUnit n { p with blkCfg := w, blkC := List.replicate 64 c, blkU := [] }

/-- Whether a sink's mute, or a fast mute of the source it carries, acts (V_MODE 2). -/
def State.sinkSilenced (s : State) (id : Nat) : Bool := s.sinkMuted id || has s.route.muted (s.sinkSt id).src

/-- The frame of a receiver whose samples reached its source IDs at core index `x`; at another rate than the core's, the one that lies
nearest behind its delay (log entry 194). -/
def State.slotsAt (s : State) (rx x : Nat) : List PortSlot :=
  let u := s.unit rx
  if s.clkMode rx = 1 then ((u.rxPast.find? (fun e => e.1 + 32 ≤ x)).map (·.2)).getD []
  else
    let r := s.unitRate rx
    let i := if s.clkMode rx = 2 ∨ r = s.rate then x - 9
      else (x - 8 - s.unitFraming rx) * r / s.rate - filterDelay r s.rate * r / max r s.rate
    ((u.rx.find? (fun e => e.1 == i)).map (·.2)).getD []

/-- V of subframe `c` for the samples of sink index `x` (Table 11.5). -/
def State.txV (s : State) (n c x : Nat) : Bool :=
  let w := (s.unit n).blkCfg.toNat
  match bitsOf w 17 16 with
  | 1 => (((s.slotsAt (8 + bitsOf w 9 7) x)[c]?).map (·.v)).getD false
  | 2 => s.sinkSilenced (unitId n + c)
  | _ => false

/-- Status bits are put into a frame that is sent: frame `i` of its block (R307, R309). -/
def State.dress (s : State) (n i x : Nat) (slots : List PortSlot) : List PortSlot :=
  let p := s.unit n
  if isAesTx n || isMadi n then
    (slots.zip (List.range slots.length)).map (fun e =>
      { e.1 with
        c := ((p.blkC[e.2]?).getD 0).testBit i, u := ((p.blkU[e.2]?).getD 0).testBit i, z := i == 0
        v := isAesTx n && s.txV n e.2 x, active := !isMadi n || decide (2 ≤ s.unitState n) })
  else slots

/-- A unit's channel at an index of unit rate, from the sink rows through the filter and 8 core samples later (R201, R297). -/
def State.unitSent (s : State) (n c u : Nat) : F32 :=
  let r := s.unitRate n
  let d := 8 * r / s.rate
  if u < d then 0 else resample s.rate r (fun x => ((look [] (s.unit n).txPast x)[c]?).getD 0) (u - d)

/-- One channel of an SRC unit's output: converted, `phase` 2^-16 core samples after the present index, and under the mute of its channel,
which is zero while that acquires (R204). -/
def State.srcSent (s : State) (n c phase : Nat) : F32 × State :=
  let xs := ((s.unit n).txPast.take 64).map (fun e => ((s.time.index - e.1) * 65536 + phase, (e.2[c]?).getD 0))
  let y := srcSample s.rate (s.srcNominal n) xs
  let key := 4096 + unitId n + c
  match s.route.muted.find? (fun e => e.1 == key) with
  | some (_, m) =>
    let r := muteSample m y
    (r.1, { s with route := { s.route with muted :=
      match r.2 with
      | some m => upd s.route.muted key m
      | none => del s.route.muted key } })
  | none => (y, s)

/-- Every channel of an SRC unit's output; where within a core sample its frame lies is free. -/
def State.srcsSent (s : State) (n : Nat) : List F32 × State :=
  let (k, s) := s.draw
  (List.range (s.unitCh n)).foldl
    (fun (a : List F32 × State) c => let r := a.2.srcSent n c (Config.freeNat k % 65536); (a.1 ++ [r.1], r.2)) ([], s)

/-- The samples of the frame a unit sends, the core index of the sinks they come from, and the state after taking them (R297 to R300). -/
def State.txSamples (s : State) (n u : Nat) : List F32 × Nat × State :=
  let ch := s.unitCh n
  let zeros := List.replicate ch 0
  let p := s.unit n
  let x := u - 8
  if s.unitState n < 2 then (zeros, x, s)
  else if s.clkMode n = 2 then
    if p.txOn ∨ 8 ≤ p.txFifo.length then
      match p.txFifo with
      | [] => (zeros, x, s)
      | f :: t =>
        let r := s.slipRepeat n 5 f t
        (f.2, f.1, (r.2.setUnit n { p with txFifo := r.1, txOn := true }).fillShow n)
    else (zeros, x, s)
  else if s.clkMode n = 0 then
    let r := s.unitRate n
    if p.lastTx = some u ∧ s.txMaster n = false then (zeros, x, (s.unitCount n 1 1).raise (unitEvent n 4))
    else if r = s.rate then (s.unitSinks n x, x, s)
    else ((List.range ch).map (fun c => s.unitSent n c u), u * s.rate / r - 8 - filterDelay s.rate r * s.rate / max s.rate r, s)
  else
    let y := s.srcsSent n
    (y.1, s.time.index - 32, y.2)

/-- What a unit's transmit pins show: DOUT, AES_OUT or MADI_TX, and with a master TDM unit BCLK and FS. -/
inductive PortDrive where
  /-- High impedance, while the unit does not own the outputs (R395). -/
  | highZ
  /-- Held low: in IDLE, and while the monitor of a running SYNC or SLIP unit is not OK (R304, R307, R312). -/
  | low
  /-- The clocks alone, of a master TDM unit that sends nothing (R304). -/
  | clocks
  /-- Synchronisation symbols alone, of a MADI unit in that case (R312). -/
  | sync
  | frames
  deriving DecidableEq, Repr

/-- A TDM unit that makes BCLK and FS (R304). -/
def State.tdmMaster (s : State) (n : Nat) : Bool := isTdm n && s.pcfg n 9 9 == 1

def State.portDrive (s : State) (n : Nat) : PortDrive :=
  let st := s.unitState n
  let fault := decide (2 ≤ st) && s.mon n != 2 && s.clkMode n != 1
  if !s.owns then .highZ
  else if st = 0 ∨ !(s.txEn n || s.tdmMaster n) then .low
  else if fault then (if isMadi n then .sync else .low)
  else if s.txEn n then .frames
  else .clocks

/-- A subframe as the line carries it (R307, R309): the `k`-th, with even parity over bits 4 to 31. MADI's mode bits are frame
synchronisation, channel active, A/B and block start; an AES3 subframe has its preamble there, told by the last two. -/
def subframe (madi : Bool) (k : Nat) (x : PortSlot) : BitVec 32 :=
  let body := x.w.toNat % 2 ^ 24 * 16 + toBit x.v * 2 ^ 28 + toBit x.u * 2 ^ 29 + toBit x.c * 2 ^ 30
  let mode := toBit (madi && k == 0) + 2 * toBit (madi && x.active) + 4 * (k % 2) + 8 * toBit x.z
  BitVec.ofNat 32 (body + mode + (sel 31 body.testBit).length % 2 * 2 ^ 31)

/-- FS over a frame, before FS_POL (Table 11.3). -/
def fsWave (format slots width : Nat) : List Bool :=
  (List.range (slots * width)).map (fun t =>
    if format = 0 then decide (slots / 2 * width ≤ t) else if format = 1 then decide (t < slots / 2 * width) else t == 0)

/-- The delay from the frame start to slot 0 (Table 11.3). -/
def State.fsDelay (s : State) (n : Nat) : Nat :=
  match s.pcfg n 1 0 with
  | 0 => 1
  | 1 => 0
  | _ => s.pcfg n 22 22

/-- A slot's bits, most significant first. -/
def slotBits (width : Nat) (x : PortSlot) : List Bool := (List.range width).map (fun k => x.w.toNat.testBit (width - 1 - k))

/-- The 4B5B codes of the 16 values (R308; log entry 320). -/
def code4b5b (v : Nat) : Nat :=
  look 0 ([30, 9, 20, 21, 10, 11, 14, 15, 18, 19, 22, 23, 26, 27, 28, 29].zipIdx.map (fun e => (e.2, e.1))) v

/-- Five code bits, the first to be sent first. -/
def codeBits (v : Nat) : List Bool := (List.range 5).map (fun k => v.testBit (4 - k))

/-- The JK synchronisation symbol (R308; log entry 320). -/
def jkBits : List Bool := codeBits 24 ++ codeBits 17

/-- A subframe's 32 bits, bit 0 first, in 4B5B; the first of four is the highest of its value. -/
def madiCode (w : BitVec 32) : List Bool :=
  (List.range 8).flatMap (fun k =>
    codeBits (code4b5b (8 * toBit (w.getLsbD (4 * k)) + 4 * toBit (w.getLsbD (4 * k + 1)) + 2 * toBit (w.getLsbD (4 * k + 2))
      + toBit (w.getLsbD (4 * k + 3)))))

/-- NRZI: a one changes the level. -/
def nrzi : Bool → List Bool → List Bool
  | _, [] => []
  | v, b :: t => (v != b) :: nrzi (v != b) t

/-- A MADI unit's line over a frame: the frame, then as many synchronisation symbols as fill the time to the next one at 125 Mb/s (R308). -/
def State.madiSend (s : State) (n : Nat) (slots : List PortSlot) : State :=
  let u := s.unit n
  let rate := if s.pcfg n 0 0 = 1 then 96000 else 48000
  let body := slots.zipIdx.flatMap (fun e => madiCode (subframe true e.2 e.1))
  let room := u.rest + 125000000 - body.length * rate
  let levels := nrzi u.level (body ++ (List.replicate (room / (10 * rate)) jkBits).flatten)
  let s := s.setUnit n { u with level := (levels.getLast?).getD u.level, rest := room % (10 * rate) }
  if s.owns then s.emit (.madiLine n levels) else s

/-- What a frame is on the line (R302, R307, R309). -/
def State.lineOf (s : State) (n : Nat) (slots : List PortSlot) : Output :=
  if isTdm n then
    let w := s.slotWidth n
    let pol := s.pcfg n 21 21 == 1
    .tdmLine n (s.pcfg n 20 20 == 0)
      (if s.pcfg n 9 9 = 1 then (fsWave (s.pcfg n 1 0) (s.unitCh n) w).map (fun b => b != pol) else [])
      (s.fsDelay n) (slots.flatMap (slotBits w))
  else .portLine n (slots.zipIdx.map (fun e => subframe (isMadi n) e.2 e.1))

/-- A frame leaves on the pins; a unit that does not own the outputs holds them at high impedance (R395). -/
def State.sendPort (s : State) (n : Nat) (slots : List PortSlot) : State :=
  let s := if s.owns then (s.emit (.portFrame n slots)).emit (s.lineOf n slots) else s
  if isMadi n then s.madiSend n slots else s

/-- A unit frame is sent (R297, R307, R309); nothing is sent in IDLE or, from RUNNING on, while the monitor is not OK (R312). A unit that
does not own the outputs makes its frames all the same. -/
def State.frameOut (s : State) (n u : Nat) : State :=
  let st := s.unitState n
  if s.on .ports && (s.txEn n || s.tdmMaster n) && st != 0 then
    if decide (2 ≤ st) && s.mon n != 2 && s.clkMode n != 1 then (if s.portDrive n = .sync then s.sendPort n [] else s)
    else if s.txEn n = false then s.sendPort n []
    else
      let i := if s.clkMode n = 0 then u % 192 else (s.unit n).sent
      let s := if i = 0 ∨ (s.unit n).blkC.isEmpty then s.blockStart n else s
      let r := s.txSamples n u
      let o := r.2.2.slotsOut n r.1 (s.unit n).lfsr
      let s := r.2.2
      let slots := s.dress n i r.2.1 o.1
      let s := if o.2.2 = 0 then s else (s.unitCount n 6 o.2.2).raise (unitEvent n 11)
      (s.setUnit n { s.unit n with lfsr := o.2.1, sent := (i + 1) % 192, lastTx := some u }).sendPort n slots
  else s

/-- At each core sample a running SLIP unit reads its receive FIFO and writes its transmit FIFO (R299); at a boundary once the frame that
ends has given its sinks their samples. -/
def State.slipTick (s : State) (n x : Nat) : State :=
  if s.clkMode n = 2 ∧ 2 ≤ s.unitState n ∧ s.mon n = 2 then
    let p := s.unit n
    let s := if s.rxEn n then
        if p.rxOn ∨ 8 ≤ p.rxFifo.length then
          match p.rxFifo with
          | [] => s
          | f :: t =>
            let r := s.slipRepeat n 4 f t
            r.2.setUnit n { p with
              rxFifo := r.1, rxOn := true, rxRead := p.rxRead ++ [f], slipFrom := if p.slipFrom.isSome then p.slipFrom else some (x + 8) }
        else s.setUnit n { p with rxRead := p.rxRead ++ [[]] }
      else s
    let s := if s.txEn n then
        let p := s.unit n
        let r := s.slipDrop n 5 (p.txFifo ++ [(x - 8, s.unitSinks n (x - 8))])
        r.2.setUnit n { p with txFifo := r.1 }
      else s
    s.fillShow n
  else s

/-- Units in use. -/
def State.unitsUsed (s : State) : List Nat := s.ports.units.map (·.1)

/-- One core sample passes at index `x`: indexes reached take effect (R299, R313). -/
def State.portsTick (s : State) (x : Nat) : State :=
  if s.on .ports then
    let s := s.unitsUsed.foldl (fun s n =>
      let s := s.monPll n
      ((if x % 8 = 0 then s else s.slipTick n x).unitEnd n).unitBegin n) s
    { s with syn := { s.syn with lost1 := false } }
  else s

/-- At a boundary: stops in ARMED, then indexes. -/
def State.portsAtBoundary (s : State) : State :=
  if s.on .ports then s.unitsUsed.foldl (fun s n => ((s.unitCancel n).unitEnd n).unitBegin n) s else s

def State.portsPresent (s : State) : State :=
  if s.on .ports then s.unitsUsed.foldl (fun s n => ((s.unitPast n).unitPresent n).slipTick n s.time.index) s else s

/-! The common start trigger (R317) -/

/-- Units and flows that wait. -/
def State.members (s : State) : Nat := (s.ports.units.filter (fun e => e.2.common)).length + s.flowsWaiting

/-- A write of PORT.START (Table 11.15): GO, then CANCEL. -/
def State.startWrite (s : State) (w : Word) : State :=
  if s.on .ports then
    let s := s.wr R.PORT_START (w &&& 6)
    let s := if bitOf w.toNat 0 then
        if s.ports.trig.isSome then s.put R.PORT_START_STATUS_RESULT 1
        else
          let nb := s.nextBoundary
          let at_ := s.get64 R.PORT_START_AT_LO R.PORT_START_AT_HI
          let t := s.get R.PORT_START_TRIG
          let late := t == 0 && decide (roundUp 8 at_ < nb)
          let due := if t = 2 then none else if t = 0 ∧ ¬ late then some at_ else some nb
          let s := { s with ports := { s.ports with trig := some due } }
          let s := (s.raise R.PORT_START_STATUS_WAITING).put R.PORT_START_STATUS_RESULT 0
          let s := s.put R.PORT_START_STATUS_LATE (toBit late)
          if late then s.raise ⟨R.PORT_EVENT, 1, 1⟩ else s
      else s
    if bitOf w.toNat 3 ∧ s.ports.trig.isSome then
      let s := { s with ports := { s.ports with trig := none } }
      ((s.clr R.PORT_START_STATUS_WAITING).put R.PORT_START_STATUS_RESULT 2).raise ⟨R.PORT_EVENT, 2, 2⟩
    else s
  else s

/-- A qualified rising edge on SYNC_IN sets S for TRIG 2: the first boundary at least one engine frame later. -/
def State.portSyncEdge (s : State) (high : Nat) : State :=
  if 8 ≤ high ∧ s.ports.trig = some none then
    { s with ports := { s.ports with trig := some (some (roundUp 8 (s.time.index + 8))) } }
  else s

/-- The trigger fires at its boundary: every waiting member takes S as its start index, and runs from it (Table 11.8). -/
def State.portsFire (s : State) : State :=
  match s.ports.trig with
  | some (some at_) =>
    if s.on .ports && s.atBoundary && decide (at_ ≤ s.time.index) then
      let x := s.time.index
      let s := s.unitsUsed.foldl (fun s n =>
        let u := s.unit n
        if u.common then (s.setUnit n { u with common := false, start := some x }).put (R.PORT_U_STATUS_WAIT_TRIG n) 0 else s) s
      let s := s.flowsCommon x
      let begin_ (tx : Bool) (s : State) : State := (s.flowsOf tx).foldl (fun s n => s.flowBegin tx n) s
      let s := (begin_ true (begin_ false s)).put64 R.PORT_FIRED_LO R.PORT_FIRED_HI x
      let s := { s with ports := { s.ports with trig := none } }
      ((s.clr R.PORT_START_STATUS_WAITING).put R.PORT_START_STATUS_RESULT 0).raise ⟨R.PORT_EVENT, 0, 0⟩
    else s
  | _ => s

/-! Aborts and power -/

/-- The reference source that a unit's receiver is (Tables 3.1 and 11.1), or 0. -/
def refSrcOf (n : Nat) : Nat := if 8 ≤ n ∧ n < 16 then n else if 24 ≤ n then n - 8 else 0

/-- The receiver behind a reference is aborted: a loss of that reference (R79). -/
def State.receiverGone (s : State) (n : Nat) : State := if refSrcOf n = 0 then s else s.srcLost (refSrcOf n)

/-- An abort of a unit (class 5): its control and run state return to reset, format and clock mode are kept (R73, R74). Behind an
AES3 or MADI receiver it is a loss of that reference (R79). -/
def State.unitAbort (s : State) (n : Nat) : State :=
  let s := if s.unitState n = 0 then s else (s.unitMute n).unitIdle n
  let s := ((s.wr (R.PORT_U_CTRL n) 0).put (R.PORT_U_STATUS_RESULT n) 0).put (R.PORT_U_STATUS_LATE n) 0
  s.receiverGone n

/-- The PORTS domain goes off: its sources stop, references through its receivers are lost, and nothing of the units is kept. -/
def State.portsOff (s : State) : State :=
  let s := s.unitsUsed.foldl (fun s n =>
    let s := if s.unitState n ≠ 0 then s.unitMute n else s
    if s.unitState n ≠ 0 ∧ s.clkMode n = 1 then s.srcRelease (s.unitSrcs n) else s) s
  let s := forN 10 (fun i s => s.srcLost (8 + i)) s
  { s with ports := {} }

def execSyncInEdge (high : Nat) (mis : List (Fin 12)) (s : State) : Result :=
  finish ((s.syncInEdge high (mis.map (·.val))).portSyncEdge high)
def execPortStart (n : Fin 26) (w : BitVec 32) (s : State) : Result :=
  finish (s.hostPut (R.PORT_U_CTRL n) ((R.PORT_U_CTRL_CMD n).inWord w 1) (fun s => s.unitCtrlWrite n ((R.PORT_U_CTRL_CMD n).inWord w 1)))
def execPortStop (n : Fin 26) (w : BitVec 32) (s : State) : Result :=
  finish (s.hostPut (R.PORT_U_CTRL n) ((R.PORT_U_CTRL_CMD n).inWord w 2) (fun s => s.unitCtrlWrite n ((R.PORT_U_CTRL_CMD n).inWord w 2)))
def execPortClearCounters (n : Fin 26) (w : BitVec 32) (s : State) : Result :=
  finish (s.hostPut (R.PORT_U_CTRL n) ((R.PORT_U_CTRL_CLR_CNT n).inWord w 1) (fun s => s.unitCtrlWrite n ((R.PORT_U_CTRL_CLR_CNT n).inWord w 1)))
def execPortStartIndex (n : Fin 26) (s : State) : Result := finish (s.unitBegin n)
def execPortStopIndex (n : Fin 26) (s : State) : Result := finish (s.unitEnd n)
def execPortFrameRx (n : Fin 26) (u : Nat) (slots : List PortSlot) (glitch f96 : Bool) (s : State) : Result :=
  finish (s.frameIn n u slots glitch f96)
def execPortFrameTx (n : Fin 26) (u : Nat) (s : State) : Result := finish (s.frameOut n u)
def execPortWindowEmpty (n : Fin 26) (rx : Bool) (s : State) : Result := finish (s.windowEmpty n rx)
def execMadiCsCaptureArm (m : Fin 2) (w : BitVec 32) (s : State) : Result :=
  finish (s.hostPut (R.PORT_MADI_CS_CAP m) ((R.PORT_MADI_CS_CAP_ARM m).inWord w 1) (fun s => s.madiCapWrite m ((R.PORT_MADI_CS_CAP_ARM m).inWord w 1)))
def execMonAcquireOk (n : Fin 26) (rate : Nat) (s : State) : Result := finish (s.monOk n rate)
def execMonLoss (n : Fin 26) (s : State) : Result := finish (s.monLost n)
def execMonRate (n : Fin 26) (rate : Nat) (s : State) : Result := finish (s.monRate n rate)
def execMonClockReturn (n : Fin 26) (rate : Nat) (s : State) : Result := finish (s.monReturn n rate)
def execCommonStartGo (w : BitVec 32) (s : State) : Result :=
  finish (s.hostPut (R.PORT_START) (R.PORT_START_GO.inWord w 1) (fun s => s.startWrite (R.PORT_START_GO.inWord w 1)))
def execCommonStartCancel (w : BitVec 32) (s : State) : Result :=
  finish (s.hostPut (R.PORT_START) (R.PORT_START_CANCEL.inWord w 1) (fun s => s.startWrite (R.PORT_START_CANCEL.inWord w 1)))
def execCommonStartFire (s : State) : Result := finish s.portsFire

end Sys2Proof.Machine
end

