-- ==== Sys2Proof/Machine/Power.lean ====
section
/-!
DEFINITION. Aborts (R72 to R75) and the power domains (R32 to R37).
-/
namespace Sys2Proof.Machine

/-! Aborts (Table 2.12) -/

/-- How many units a class has; none for the classes refused. -/
def abortCount (cls : Nat) : Nat :=
  look 0 [(1, 16), (2, 256), (3, 256), (4, 64), (5, 26), (6, 4), (7, 8), (8, 32), (9, 4)] cls

/-- The power domain of a unit (Table 2.19). -/
def abortDom (cls i : Nat) : Nat :=
  if cls = 1 then laneDom i
  else if cls = 5 then 9
  else if cls = 6 then 15
  else if cls = 7 then 8
  else if cls = 8 then laneDom (i / 2)
  else if cls = 9 then 14
  else 4

/-- Whether a unit is running, so that an abort has something to stop. -/
def State.unitActive (s : State) (cls i : Nat) : Bool :=
  s.domOn (abortDom cls i) &&
  (match cls with
  | 1 => s.laneRuns i
  | 2 => s.flowUsed false i
  | 3 => s.flowUsed true i
  | 4 => s.siloOpen i
  | 5 => s.unitState i != 0
  | 6 => s.mcvBusy i
  | 7 => !(s.dma i).descs.isEmpty || !(s.dma i).done.isEmpty || (s.dma i).stopped || (s.dma i).holds.isSome
  | 8 => s.get (R.DQ_STATUS_STATE i) != 0
  | 9 => switching (s.psState i)
  | _ => false)

/-- Stop and empty a unit, keeping what Table 2.12 keeps (R73). -/
def State.abortUnit (s : State) (cls i : Nat) : State :=
  match cls with
  | 1 => s.laneAbort i
  | 2 => s.flowAbort false i
  | 3 => s.flowAbort true i
  | 4 => (s.siloAbort i).hfpAbort i
  | 5 => s.unitAbort i
  | 6 => s.mcvStop i
  | 7 => s.dmaAbort i
  | 8 => s.dqAbort i
  | 9 => s.psAbort i
  | _ => s

/-- A running abort completes (R72, R74); the writes it held are applied at the end of the command (R75). -/
def State.abortEnd (s : State) (us : Nat) : State :=
  let s := { s with host := { s.host with abort := none } }
  (((s.clr R.SYS_ABORT_STATUS_BUSY).put R.SYS_ABORT_STATUS_RESULT 0).put R.SYS_ABORT_STATUS_TIME (min 255 us)).raise
    R.SYS_EVENT_ABORT_DONE

/-- A write of SYS.ABORT (R72, R73). -/
def State.abortWrite (s : State) (cls : Nat) (all : Bool) (idx : Nat) : State :=
  if s.pins.inReset then s else
  if s.flag R.SYS_ABORT_STATUS_BUSY then s.put R.SYS_ABORT_STATUS_RESULT 4
  else
    let s := ((s.put R.SYS_ABORT_STATUS_CLASS cls).put R.SYS_ABORT_STATUS_INDEX idx).put R.SYS_ABORT_STATUS_ALL (toBit all)
    if abortCount cls = 0 then s.put R.SYS_ABORT_STATUS_RESULT 2
    else if !all && decide (abortCount cls ≤ idx) then s.put R.SYS_ABORT_STATUS_RESULT 3
    else
      let names := if all then List.range (abortCount cls) else [idx]
      let units := names.filter (s.unitActive cls)
      let s := if cls = 5 ∧ s.on .ports then (names.filter (!units.contains ·)).foldl (fun s i => s.receiverGone i) s else s
      if units.isEmpty then
        ((s.put R.SYS_ABORT_STATUS_RESULT 1).put R.SYS_ABORT_STATUS_TIME 0).raise R.SYS_EVENT_ABORT_DONE
      else
        let s := units.foldl (fun s i => s.abortUnit cls i) s
        let s := { s with host := { s.host with abort := some { cls, named := units, units } } }
        (s.put R.SYS_ABORT_STATUS_RESULT 0).raise R.SYS_ABORT_STATUS_BUSY

/-- The abort in progress completes (R74). -/
def State.abortComplete (s : State) (us : Nat) : State := if s.host.abort.isSome then s.abortEnd us else s

/-- A power-off or a reset reaches a domain: a running abort whose units all lie there completes with RESULT 0 (R75). How long
it took is free. -/
def State.abortReached (s : State) (d : Nat) : State :=
  match s.host.abort with
  | some a =>
    let rest := a.units.filter (fun i => abortDom a.cls i != d)
    if rest.length = a.units.length then s
    else if rest.isEmpty then
      let (k, s) := s.draw
      s.abortEnd (Config.freeNat k % 256)
    else { s with host := { s.host with abort := some { a with units := rest } } }
  | none => s

/-! Power domains (R32 to R37) -/

/-- What domain `d` requires among the domains (Table 1.5). -/
def domNeeds (d : Nat) : List Nat :=
  look [] [(2, [10, 4]), (3, [10, 4]), (4, [10]), (5, [10, 4]), (6, [10, 4]), (7, [10]), (9, [10, 4]), (11, [10]), (12, [10])
          , (13, [10]), (14, [10, 15]), (15, [10])] d

/-- The A-die domains, which need the Stalk link UP. -/
def isADie (d : Nat) : Bool := decide (11 ≤ d)

/-- The order in which domains power up; they power down in the reverse order (R33). -/
def upOrder : List Nat := [10, 4, 7, 2, 3, 9, 5, 6, 15, 11, 12, 13, 14]

/-- A set of domains, one bit each: the bits 15 to 1, with AON and HOST always on. -/
def domSet (w : Nat) : Nat := (w &&& 0xFFFE) ||| 0x102

/-- The abort units that lie in a domain: class and index. -/
def domUnits (d : Nat) : List (Nat × Nat) :=
  ([1, 2, 3, 4, 5, 6, 7, 8, 9] : List Nat).flatMap (fun c =>
    ((List.range (abortCount c)).filter (fun i => abortDom c i == d)).map (fun i => (c, i)))

/-- The hidden state of a domain goes with its registers. -/
def State.domHidden (s : State) (d : Nat) : State :=
  match d with
  | 2 => s.netPortOff 0
  | 3 => s.netPortOff 1
  | 4 =>
    let s := (s.routeOff).netcOff
    { s with flow := {}, silos := { s.silos with q := [] }, spelt := { s.spelt with xps := [] }
             audio := { s.audio with src := [], sinks := [] } }
  | 5 => s.lanesOff 0
  | 6 => s.lanesOff 8
  | 9 => s.portsOff
  | 10 => { s.clkPinsLow with time := {}, vet := {}, syn := { xoOk := s.syn.xoOk, oscOk := s.syn.oscOk } }
  | 11 => s.ainOff 0
  | 12 => s.ainOff 8
  | 13 => s.aoutOff
  | 14 => s.psPowerOff
  | 15 => s.measOff
  | _ => s

/-- The units that keep data in LP5 DRAM: a queue that is not STOPPED, a silo with a middle region, a spilled receive flow. -/
def State.dramUsers (s : State) : List (Nat × Nat) :=
  (sel 32 (fun q => s.get (R.DQ_STATUS_STATE q) != 0)).map (fun q => (8, q))
    ++ (sel 64 (fun n => s.siloOpen n && s.flag (R.SILO_S_CFG_MID_EN n))).map (fun n => (4, n))
    ++ (sel 256 (fun n => s.flowState false n != 0 && s.flag (R.FLOW_RX_STATUS_SPILLED n))).map (fun n => (2, n))

/-- The units of a domain that run stop, as an abort stops them (R34, R37); with MEMC, those that keep data in LP5 DRAM. -/
def State.domStop (s : State) (d : Nat) : Bool × State :=
  let l := ((domUnits d).filter (fun u => s.unitActive u.1 u.2)) ++ (if d = 7 then s.dramUsers else [])
  let s := if d = 13 then s.aoutStop else s
  (!l.isEmpty, (l.foldl (fun s u => s.abortUnit u.1 u.2) s).abortReached d)

/-- A domain's registers and memories return to their reset values, and what is behind them goes (R35). -/
def State.domWipe (s : State) (d : Nat) : State :=
  let s := (s.domHidden d).clearDomain d
  if d = 4 ∨ d = 5 ∨ d = 6 then s.speltShow else s

/-- What a domain does as it comes up with its registers at their reset values (R35). -/
def State.domWake (s : State) (d : Nat) : State :=
  if d = 10 then (s.clkStart).setMclk true
  else if d = 2 ∨ d = 3 then s.losShow (d - 2)
  else if d = 11 then s.ainWake 0
  else if d = 12 then s.ainWake 8
  else if d = 13 then (s.hpLook 0).hpLook 1
  else if d = 14 then s.psWake
  else if d = 15 then s.measLoad.owCheck
  else s

/-- Whether outputs of a domain still fade out (R339, R352). -/
def State.domFades (s : State) (d : Nat) : Bool :=
  match d with
  | 13 => (List.range 18).any (fun n => s.outLive n && s.fadingOut n)
  | 14 => (List.range 4).any s.psFading
  | _ => false

/-- A domain begins to turn off: its running units are aborted first (R34). Its power and its registers stay until its outputs have
faded out (R352; log entry 325). -/
def State.domDown (s : State) (d : Nat) : State :=
  let (any, s) := s.domStop d
  let s := if any then s.raise R.PWR_ALARM_DOMAIN_ABORT else s
  if s.domFades d then { s with pwr := { s.pwr with fading := addTo s.pwr.fading d } } else s.domWipe d

/-- Whether domain `d` may power up now (R32). -/
def State.domMay (s : State) (d : Nat) : Bool :=
  (domNeeds d).all s.domOn && (!isADie d || s.linkUp)

/-- The next transition of the list begins (R33). One that can no longer be made is dropped. -/
def State.startMoves (s : State) : List (Nat × Bool) → State
  | [] => { s with pwr := { s.pwr with moves := [] } }
  | (d, false) :: t =>
    let s := ({ s with pwr := { s.pwr with moves := [] } }).domDown d
    { s with pwr := { s.pwr with moves := (d, false) :: t } }
  | (d, true) :: t =>
    let s := { s with pwr := { s.pwr with moves := [] } }
    if s.domMay d then { s with pwr := { s.pwr with moves := (d, true) :: t } }
    else State.startMoves (s.clr (R.PWR_DOMAIN_STATUS_BUSY.bit (d - 1))) t

/-- The domains move towards the effective request: DOMAIN_REQ with the masked bits cleared (R33, R36). Those that
turn off go first (log entry 268). -/
def State.domainsApply (s : State) : State :=
  let want := domSet ((s.rd R.PWR_DOMAIN_REQ).toNat &&& (0xFFFFFFFF - (s.rd R.PWR_TWIN_MASK).toNat))
  let head := s.pwr.moves.take 1
  let on := head.foldl (fun a m => if m.2 then a ||| 2 ^ m.1 else a &&& (0xFFFF - 2 ^ m.1)) (s.rd R.PWR_DOMAIN_STATE).toNat
  let downs := (upOrder.reverse.filter (fun d => on.testBit d && !want.testBit d)).map (fun d => (d, false))
  let ups := (upOrder.filter (fun d => want.testBit d && !on.testBit d)).map (fun d => (d, true))
  let s := s.put R.PWR_DOMAIN_STATUS_BUSY (((head ++ downs ++ ups).foldl (fun a m => a ||| 2 ^ m.1) 0) / 2)
  if head.isEmpty then s.startMoves (downs ++ ups) else { s with pwr := { s.pwr with moves := head ++ downs ++ ups } }

/-- The refusal of a write of DOMAIN_REQ, by the RESULT codes of Table 1.8: the first that applies (R33). Masked bits
of a standby count as asked for (log entry 269). -/
def State.domRefusal (s : State) (want : Nat) : Nat :=
  let stays := upOrder.filter want.testBit
  if !s.pwr.moves.isEmpty then 4
  else if stays.any isADie && !s.linkUp then 3
  else if stays.any (fun d => (domNeeds d).any (fun e => !want.testBit e)) then 1
  else if s.domOn 7 && !want.testBit 7 && s.dramInUse then 2
  else 0

/-- A write of PWR.DOMAIN_REQ once its guard has passed (R33, R36). -/
def State.domainReqWrite (s : State) (w : Word) : State :=
  let want := domSet w.toNat
  let r := s.domRefusal want
  if r ≠ 0 then s.put R.PWR_DOMAIN_STATUS_RESULT r
  else
    let held := want &&& (s.rd R.PWR_TWIN_MASK).toNat
    let s := (s.wr R.PWR_DOMAIN_REQ (BitVec.ofNat 32 want)).put R.PWR_DOMAIN_STATUS_RESULT (if held = 0 then 0 else 5)
    s.domainsApply

/-- The transition at the head of the list completes (R32), but not before the domain's outputs have faded out (R352). -/
def State.domMoved (s : State) (d : Nat) (up : Bool) : State :=
  if s.pwr.moves.head? = some (d, up) ∧ (up = true ∨ s.domFades d = false) then
    let rest := s.pwr.moves.drop 1
    let s := if !up && s.pwr.fading.contains d then ({ s with pwr := { s.pwr with fading := dropFrom s.pwr.fading d } }).domWipe d else s
    let s := { s with pwr := { s.pwr with moves := [] } }
    let s := (s.put (R.PWR_DOMAIN_STATE_ON.bit (d - 1)) (toBit up)).clr (R.PWR_DOMAIN_STATUS_BUSY.bit (d - 1))
    let s := if up then (s.islWake d).domWake d else if d = 10 then (s.islSleep d).mclkAbsent else s.islSleep d
    s.startMoves rest
  else s

/-- A domain's registers return to reset while it keeps its power (R37). -/
def State.domFresh (s : State) (d : Nat) : State := (s.domWipe d).domWake d

/-- The named domains that are on are reset (R37); `l` leaves out AON and HOST. Units are aborted at once. Where outputs have to fade
out first, the registers of all the domains named wait for that (R449; log entry 325). -/
def State.domainsReset (s : State) (w : Nat) : State :=
  let l := upOrder.reverse.filter (fun d => w.testBit d && s.domOn d && !(s.rd R.PWR_DOMAIN_RST).toNat.testBit d)
  let s := l.foldl (fun s d => ((s.domStop d).2).raise (R.PWR_DOMAIN_RST_RST.bit (d - 1))) s
  if l.any s.domFades then { s with pwr := { s.pwr with fading := l } } else l.foldl (fun s d => s.domFresh d) s

/-- A domain reset completes (R37): one that waited for outputs to fade does so only once they have. -/
def State.domainRstDone (s : State) (d : Nat) : State :=
  if d = 0 then s
  else if s.pwr.fading.contains d then
    let s := (s.domStop d).2
    if s.pwr.fading.any s.domFades then s
    else (({ s with pwr := { s.pwr with fading := dropFrom s.pwr.fading d } }).domFresh d).clr (R.PWR_DOMAIN_RST_RST.bit (d - 1))
  else s.clr (R.PWR_DOMAIN_RST_RST.bit (d - 1))

/-- Training succeeds, and domains that waited for the link may power up (R20, R36). -/
def State.trainUp (s : State) : State :=
  let was := s.linkState
  let s := s.trainDone
  if was = 1 ∧ s.pwr.moves.isEmpty then s.domainsApply else s

def execStalkTrainDone (s : State) : Result := finish s.trainUp
def execAbortLane (all : Bool) (idx : BitVec 8) (s : State) : Result := finish (s.abortWrite 1 all idx.toNat)
def execAbortRxFlow (all : Bool) (idx : BitVec 8) (s : State) : Result := finish (s.abortWrite 2 all idx.toNat)
def execAbortTxFlow (all : Bool) (idx : BitVec 8) (s : State) : Result := finish (s.abortWrite 3 all idx.toNat)
def execAbortSilo (all : Bool) (idx : BitVec 8) (s : State) : Result := finish (s.abortWrite 4 all idx.toNat)
def execAbortSerialPort (all : Bool) (idx : BitVec 8) (s : State) : Result := finish (s.abortWrite 5 all idx.toNat)
def execAbortMcv (all : Bool) (idx : BitVec 8) (s : State) : Result := finish (s.abortWrite 6 all idx.toNat)
def execAbortDmaChannel (all : Bool) (idx : BitVec 8) (s : State) : Result := finish (s.abortWrite 7 all idx.toNat)
def execAbortDramQueue (all : Bool) (idx : BitVec 8) (s : State) : Result := finish (s.abortWrite 8 all idx.toNat)
def execAbortPsChannel (all : Bool) (idx : BitVec 8) (s : State) : Result := finish (s.abortWrite 9 all idx.toNat)
def execAbortBadClass (cls : Fin 16) (all : Bool) (idx : BitVec 8) (s : State) : Result :=
  finish (s.abortWrite (if abortCount cls = 0 then cls else 0) all idx.toNat)

end Sys2Proof.Machine
end

