-- ==== Sys2Proof/Machine/Rate.lean ====
section
/-!
DEFINITION. The change of core rate (R11, R453).
-/
namespace Sys2Proof.Machine

/-- A sample index at a rate as the index at another rate of the same media time, rounded up (R7, R453). -/
def reindex (x old new : Nat) : Nat := (x * new + old - 1) / old

/-- A timed operation that still waits keeps its place in media time: its index registers are rewritten (R453). -/
def State.reindexAt (s : State) (lo hi old new : Nat) : State := s.put64 lo hi (reindex (s.get64 lo hi) old new)

/-- Ramps of the crosspoint memory in progress complete at once; a write not yet in effect stays as it is (R453). -/
def State.xpsComplete (s : State) : State :=
  { s with spelt := { s.spelt with xps := s.spelt.xps.map (fun e => (e.1, { e.2 with k := max e.2.k e.2.n })) } }

/-- The pace, in half steps for each sample of the new rate, of a fade over 64 samples of the old rate (R453). -/
def ratePace (old new : Nat) : Nat := 2 * old / new

/-- Every RUNNING input fades out over 64 samples of the old rate and passes through SETTLING (R453); one that settles already has done so
for the same time. -/
def State.inputsResettle (s : State) (old new : Nat) : State :=
  forN 16 (fun i s =>
    let a := s.ain i
    if s.ainState i = 2 then
      let fade := if a.hold ∧ a.fade = some (false, 64) then some (false, 65) else fadeOutFrom a.fade
      s.setAin i { a with fade, pace := ratePace old new, rated := true }
    else if s.ainState i = 1 then s.setAin i { a with settleFrom := a.settleFrom * new / old }
    else s) s

/-- Every line output and headphone in STARTING, RUNNING or STOPPING fades out over 64 samples of the old rate and enters STOPPED (R453). -/
def State.outputsStop (s : State) (old new : Nat) : State :=
  forN 18 (fun n s =>
    let s := if s.outState n = 3 ∨ s.outState n = 4 then s.outCtrlWrite n 2 else s
    if s.outState n = 5 then s.setAout n { s.aout n with offReq := false, want := none, pace := ratePace old new } else s) s

/-- The same of the power stage channels (R453). -/
def State.psRateStop (s : State) (old new : Nat) : State :=
  forN 4 (fun p s =>
    if s.psState p = 5 then s.setPsCh p { s.psCh p with offReq := false, pace := ratePace old new } else s) s.psFadeAll

/-- The accepted change takes effect (R453), at a boundary of the old rate whose index at the new rate is a multiple of 8. -/
def State.rateEffect (s : State) : State :=
  match s.host.ratePending with
  | some new =>
    let old := s.rate
    let x := s.time.index
    if s.on .clk && s.atBoundary && !s.time.begun && decide (x * new % old = 0) && decide (x * new / old % 8 = 0) then
      let s := if s.on .flowptp then (s.routeComplete).xpsComplete else s
      let s := ((s.inputsResettle old new).outputsStop old new).psRateStop old new
      let s := match s.route.commit with
        | some c =>
          if c.timed then
            let s := s.reindexAt R.ROUTE_COMMIT_AT_LO R.ROUTE_COMMIT_AT_HI old new
            { s with route := { s.route with commit := some { c with at_ := reindex c.at_ old new } } }
          else { s with route := { s.route with commit := some { c with at_ := x * new / old } } }
        | none => s
      let s := match s.vet.realign with
        | some r =>
          if r.timed then
            let s := s.reindexAt R.VET_REALIGN_AT_LO R.VET_REALIGN_AT_HI old new
            { s with vet := { s.vet with realign := some { r with at_ := reindex r.at_ old new } } }
          else { s with vet := { s.vet with realign := some { r with ticks := r.ticks * new / old } } }
        | none => s
      let s := match s.ports.trig with
        | some (some a) =>
          if s.get R.PORT_START_TRIG = 0 then
            let s := s.reindexAt R.PORT_START_AT_LO R.PORT_START_AT_HI old new
            { s with ports := { s.ports with trig := some (some (reindex a old new)) } }
          else { s with ports := { s.ports with trig := some (some (x * new / old)) } }
        | _ => s
      let moves := s.route.dpMoves.map (fun (e : Nat × Word × List Word) => (reindex e.1 old new, e.2))
      let mutes := s.route.mutes.map (fun (e : Nat × Bool × Nat) => (e.1, e.2.1, roundUp 8 (reindex e.2.2 old new)))
      let s : State := { s with
        route := { s.route with dpMoves := moves, mutes }, time := { s.time with index := x * new / old }
        host := { s.host with ratePending := none } }
      (forN 16 (fun n s => s.islRetarget n) s).memShow
    else s
  | none => s

/-- A guarded write of SYS.CORE_RATE (R11, R453). While CLK is off no frame runs, and the change is in effect at once. -/
def State.coreRateWrite (s : State) (w : Word) : State :=
  if s.anyRunning then s.raise R.SYS_CORE_RATE_REFUSED
  else
    let s := s.clr R.SYS_CORE_RATE_REFUSED
    let new := if w.toNat.testBit 0 then 96000 else 48000
    let now := s.rate
    let s := s.put R.SYS_CORE_RATE_RATE (toBit (w.toNat.testBit 0))
    if new = now then { s with host := { s.host with ratePending := none } }
    else if s.on .clk then { s with host := { s.host with ratePending := some new } }
    else forN 16 (fun n s => s.islRetarget n) { s with host := { s.host with ratePending := none } }

def execCoreRateWrite (w : BitVec 32) (s : State) : Result :=
  finish (s.hostPut (R.SYS_CORE_RATE) w (fun s => s.coreRateWrite w))
def execCoreRateEffect (s : State) : Result := finish s.rateEffect

end Sys2Proof.Machine
end

