-- ==== Sys2Proof/Machine/Twin.lean ====
section
/-!
DEFINITION. The twin controller (R391 to R411) but for the state image: roles, the interlock, heartbeats and the vote,
handovers and health.
-/
namespace Sys2Proof.Machine

/-! What the controller stands at -/

/-- 0 SOLO, 1 PAIRING, 2 ACTIVE, 3 STANDBY, 4 TAKEOVER, 5 CHECKING, 6 PREPARE, 7 YIELDING (Table 15.10). -/
def State.twinState (s : State) : Nat := s.get R.TWIN_STATUS_STATE

/-- Event bit `b` of TWIN.EVENT. -/
def State.twinEvent (s : State) (b : Nat) : State := s.raise (R.TWIN_EVENT_EVENT.bit b)

/-- A change of state (R393). -/
def State.setTwinState (s : State) (v : Nat) : State :=
  if s.twinState = v then s
  else
    let s := (s.put R.TWIN_STATUS_STATE v).twinEvent 0
    let s := if [2, 5, 7].contains v then s else s.put R.TWIN_IMG_SEQ_ACKED 0
    s.log 0x40 0 v (s.rd R.TWIN_EVENT).toNat

/-- The low 64 bits of the device unique ID (R391). -/
def State.uid (s : State) : Nat := s.get64 (R.FUSE_WORD 0) (R.FUSE_WORD 1)

/-- This unit is the preferred one: by its strap, or by the lower ID once the straps conflict (R391). -/
def State.preferred (s : State) : Bool :=
  if s.flag R.TWIN_STATUS_PREF_CONFLICT then decide (s.uid < s.twin.peerUid) else s.flag R.SYS_STRAPS_TWIN_PREF

def State.inhibited (s : State) : Bool := s.flag R.TWIN_CTRL_INHIBIT

def State.ownIn (s : State) : Bool := s.flag R.TWIN_STATUS_OWN_IN

def State.tlink (s : State) : Bool := s.flag R.TWIN_STATUS_TLINK_UP

def State.chan (s : State) (c : Nat) : TwinChan := look {} s.twin.chans c

def State.setChan (s : State) (c : Nat) (x : TwinChan) : State := { s with twin := { s.twin with chans := upd s.twin.chans c x } }

/-- Whether a heartbeat channel is enabled: the twin link always, the ports by HB_A_EN and HB_B_EN (R398). -/
def State.chanEnabled (s : State) (c : Nat) : Bool :=
  if c = 0 then true else if c = 1 then s.flag R.TWIN_CFG_HB_A_EN else s.flag R.TWIN_CFG_HB_B_EN

/-- Whether a channel is not silent (R399). -/
def State.chanAlive (s : State) (c : Nat) : Bool :=
  s.chanEnabled c && (s.chan c).heard && (if c = 0 then s.tlink else s.linkIsUp (c - 1))

/-- Whether an output is shut down by its current limit or HELD (Table 15.4). -/
def State.outBad (s : State) (n : Nat) : Bool := s.outState n == 7 || s.flag (R.ANA_O_STATUS_SC n)

/-- The lanes' overruns so far. -/
def State.twinOverruns (s : State) : Nat := (List.range 16).foldl (fun a n => a + (s.rd (R.LANE_OVR_CNT n)).toNat) 0

/-- HEALTH.OWN (Table 15.4). -/
def State.health (s : State) : Nat :=
  let st := s.twinState
  let cold := st == 3 || st == 6
  let v := s.get R.VET_STATUS_STATE
  let bits : List Bool :=
    [ s.on .clk && (v == 2 || v == 3), s.linkIsUp 0, s.linkIsUp 1, s.linkUp
    , cold || s.twin.units
    , cold || (List.range 16).all (fun i => !s.flag (R.ANA_IN_CFG_EN i) || s.ainState i == 2
        || (s.ainState i == 1 && decide (s.time.index < (s.ain i).settleFrom + 22 * s.rate / 1000)))
    , cold || !(List.range 18).any s.outBad
    , cold || !(List.range 4).any (fun p => s.psState p == 8 || s.psState p == 9)
    , cold || (s.flag R.MCV_REF_STATUS_BUF_READY && !s.flag R.MCV_REF_STATUS_BUF_FAULT
        && !(List.range 2).any (fun k => s.flag (R.MCV_PLAUS_STATUS_FAIL k)))
    , cold || s.get R.MEM_STATUS_STATE == 2 || !s.twin.memRecorded
    , cold || (!(List.range 16).any (fun n => s.laneState n == 4)
        && (s.twin.overran.map (fun k => decide (s.rate ≤ k * 80))).getD true)
    , !s.flag R.PS_STATUS_DIE_HOT && s.get ⟨R.MP_ALARM_STATUS, 15, 8⟩ == 0 ]
  (List.range 12).foldl (fun a k => if (bits[k]?).getD false then a ||| 2 ^ k else a) 0

/-- Whether a HEALTH value meets HEALTH_MASK (R411). -/
def State.meets (s : State) (h : Nat) : Bool := h &&& s.get R.TWIN_HEALTH_MASK_MASK == s.get R.TWIN_HEALTH_MASK_MASK

def State.healthy (s : State) : Bool := s.meets s.health

/-- The partner's INHIBIT and IMG_VALID, as last heard (Table 15.3). -/
def State.peerInhibited (s : State) : Bool := s.twin.peerFlags.testBit 4

def State.peerImage (s : State) : Bool := s.twin.peerFlags.testBit 3

/-! The interlock (R395 to R397) -/

/-- Audio packets that wait at a port are discarded without counting: a unit that does not own sends none (R395). -/
def State.audioPurge (s : State) : State :=
  forN 2 (fun x s =>
    s.setPort x { s.port x with queue := (s.port x).queue.filter (fun f => match f.kind with | .audio _ _ => false | _ => true) }) s

/-- What hangs on ownership follows it: power stage, relay drivers and audio packets (R354, R395). -/
def State.ownSet (s : State) (on : Bool) : State :=
  if s.owns = on then s
  else
    let s := s.put R.TWIN_STATUS_OWN (toBit on)
    (if on then s.psOwnershipGain else s.psOwnershipLoss.audioPurge).anaSettle

/-- Ownership and OWN_OUT are given up. -/
def State.ownRelease (s : State) : State :=
  (({ s with twin := { s.twin with ownOut := false, guard := false, want := false } }).clr R.TWIN_STATUS_OWN_BLOCKED).ownSet false

/-- The unit wants to own: it raises OWN_OUT while OWN_IN is low, and waits otherwise (R396). -/
def State.ownRaise (s : State) : State :=
  if s.owns || s.twin.guard then s
  else if s.ownIn then
    let s := { s with twin := { s.twin with want := true } }
    if s.flag R.TWIN_STATUS_OWN_BLOCKED then s else (s.raise R.TWIN_STATUS_OWN_BLOCKED).twinEvent 3
  else ({ s with twin := { s.twin with ownOut := true, guard := true, want := false } }).clr R.TWIN_STATUS_OWN_BLOCKED

/-! Entering states (R393, R394, R407, R409) -/

/-- Steps 2 to 4 of R394: aborts, release, mask. -/
def State.standbyActs (s : State) : State :=
  let s := { s with twin := { s.twin with standby := none } }
  let units := ([2, 3, 4, 5] : List Nat).flatMap (fun c => ((List.range (abortCount c)).filter (s.unitActive c)).map (fun i => (c, i)))
  let s := units.foldl (fun s u => s.abortUnit u.1 u.2) s
  (((s.ownRelease).sinksHold false).wr R.PWR_TWIN_MASK 0xFAE0).domainsApply

/-- The state becomes STANDBY, and the image store is cleared (R394). -/
def State.standbyState (s : State) : State :=
  let s := { s with twin := { s.twin with
    store := [], staged := [], commit := none, total := 0, sent := none, unacked := [], pushDue := false, take := none, yieldAt := none
    byHealth := false, declared := false, warm := false } }
  (s.clr R.TWIN_STATUS_IMG_VALID).setTwinState 3

/-- STANDBY from any state (R394): the fades of 64 core samples begin, and the rest follows at the boundary at which they are over
(log entry 327). A unit that does not own gives up its claim at once. Without the core clock there is nothing to fade. -/
def State.enterStandby (s : State) : State :=
  let s := if s.owns then s else s.ownRelease
  let s := s.standbyState
  if s.on .clk then { (s.psFadeAll).sinksHold true with twin := { s.twin with standby := some 9 } } else s.standbyActs

/-- An engine frame boundary with an entry into STANDBY in progress. -/
def State.standbyFrame (s : State) : State :=
  match s.twin.standby with
  | some (k + 1) => if k = 0 then s.standbyActs else { s with twin := { s.twin with standby := some k } }
  | some 0 => s.standbyActs
  | none => s

/-- An entry into STANDBY is given up for a takeover. -/
def State.standbyDrop (s : State) : State :=
  if s.twin.standby.isSome then ({ s with twin := { s.twin with standby := none } }).sinksHold false else s

/-- SOLO: the unit owns its outputs, and nothing is masked (R393). -/
def State.enterSolo (s : State) : State :=
  let s := { s with twin := { written := s.twin.written, ownOut := s.twin.written, overran := s.twin.overran } }
  let st := s.rd R.TWIN_STATUS &&& 0x1F
  let s := ((s.wr R.TWIN_STATUS st).wr R.PWR_TWIN_MASK 0).clr R.TWIN_CTRL_MODE
  ((((s.sinksHold false).ownSet true).domainsApply).setTwinState 0).put R.TWIN_STATUS_PREF (toBit s.preferred)

/-- PAIRING (R402): nothing of the partner has been heard; a unit that sees OWN_IN high is the standby. -/
def State.enterPairing (s : State) : State :=
  let s := { s with twin := { s.twin with chans := [], failed := true, declared := false, take := none, yieldAt := none } }
  let s := (s.ownRelease).setTwinState 1
  if s.ownIn then s.enterStandby else s

/-- ACTIVE from PAIRING: the unit wants to own. -/
def State.enterActive (s : State) : State :=
  (({ s with twin := { s.twin with warm := false } }).setTwinState 2).ownRaise

/-- The payload of the run record held; empty where none is (Table 15.6). -/
def State.runRecord (s : State) : List Word :=
  match s.twin.store.find? (fun p => bitsOf ((p[0]?).getD 0).toNat 1 0 == 2) with
  | some p => p.drop 4
  | none => []

/-- Word `k` of a run record. -/
def recWord (l : List Word) (k : Nat) : Nat := ((l[k]?).getD 0).toNat

/-- Steps 2 and 3 of R407: the mask is cleared, the recorded domains are requested, and the recorded core rate is written. -/
def State.takeBegin (s : State) (ps : Bool) : State :=
  let s := s.standbyDrop
  let record := s.runRecord
  let memRecorded := (recWord record 0).testBit 16
  let s := { s with twin := { s.twin with take := some { record, psDue := ps }, units := true, memRecorded } }
  let want := domSet ((s.rd R.PWR_DOMAIN_REQ).toNat ||| recWord record 0 % 65536)
  let s := ((s.wr R.PWR_TWIN_MASK 0).wr R.PWR_DOMAIN_REQ (BitVec.ofNat 32 want)).domainsApply
  if record.isEmpty then s else s.coreRateWrite (BitVec.ofNat 32 (recWord record 0 % 2))

/-- TAKEOVER (R401, R407). From PREPARE, what has been carried out stands. -/
def State.enterTakeover (s : State) : State :=
  let from6 := s.twinState == 6
  let s := if s.flag R.TWIN_STATUS_TIME_OK then s else s.twinEvent 12
  let s := (s.setTwinState 4).ownRaise
  if from6 then { s with twin := { s.twin with byHealth := false, take := s.twin.take.map (fun t => { t with ready := none }) } }
  else s.takeBegin true

/-- PREPARE (R409). -/
def State.enterPrepare (s : State) (byHealth : Bool) : State :=
  (({ s with twin := { s.twin with byHealth } }).setTwinState 6).takeBegin true

/-- The yielder returns to ACTIVE (R393). -/
def State.yieldBack (s : State) : State :=
  (({ s with twin := { s.twin with yieldAt := none } }).sinksHold false).setTwinState 2

/-! The vote (R399, R400) -/

/-- The channels, the partner's failure and its consequences are brought up to date. In the silence of R450 nothing is heard, and nothing
follows from that. -/
def State.twinCheck (s : State) : State :=
  let st := s.twinState
  if st = 0 ∨ s.twin.silence then s
  else
    let en := sel 3 s.chanEnabled
    let alive := en.filter s.chanAlive
    let silent := en.length - alive.length
    let failed := if en.length = 3 then decide (2 ≤ silent) else alive.isEmpty
    let degraded := decide (1 ≤ silent) && !failed
    let s := (s.put R.TWIN_STATUS_ALIVE (alive.foldl (fun a c => a + 2 ^ c) 0)).put R.TWIN_STATUS_PEER_ALIVE (toBit !failed)
    let s := if degraded && !s.flag R.TWIN_STATUS_DEGRADED then s.twinEvent 2 else s
    let s := s.put R.TWIN_STATUS_DEGRADED (toBit degraded)
    let s := s.put R.TWIN_STATUS_PEER_HEALTHY (toBit (!failed && s.meets (s.get R.TWIN_HEALTH_PEER)))
    let was := s.twin.failed
    let s := { s with twin := { s.twin with failed } }
    if !failed then { s with twin := { s.twin with declared := false } }
    else if st = 3 ∨ st = 6 then
      let s := if s.twin.declared then s else ({ s with twin := { s.twin with declared := true } }).twinEvent 1
      if s.inhibited then s else s.enterTakeover
    else if was then s
    else
      let s := s.twinEvent 11
      if st = 7 then s.yieldBack else s

/-- What has been done has changed a port's link: its channel follows at once (R399). -/
def State.twinLinks (s t : State) : State := if s.linkIsUp 0 = t.linkIsUp 0 ∧ s.linkIsUp 1 = t.linkIsUp 1 then t else t.twinCheck

/-! Handover (R408, R409) -/

/-- The bytes of a twin link frame (R392): type, length, payload, and the CRC-32 of R225 over them. -/
def twinBytes (type : Nat) (payload : List (BitVec 8)) : List (BitVec 8) :=
  let body := BitVec.ofNat 8 type :: BitVec.ofNat 8 payload.length :: BitVec.ofNat 8 (payload.length / 256) :: payload
  let crc := body.foldl (fun c b => forN 8 (fun _ c => crc32Step c) (c ^^^ b.toNat)) 0xFFFFFFFF
  body ++ leBytes (crc ^^^ 0xFFFFFFFF)

/-- Symbols dealt to lane 0 and lane 1 in turn; K28.5 fills up lane 1. -/
def dealLanes : List (Bool × BitVec 8) → List (Bool × BitVec 8) × List (Bool × BitVec 8)
  | [] => ([], [])
  | [a] => ([a], [(true, 0xBC)])
  | a :: b :: t => let r := dealLanes t; (a :: r.1, b :: r.2)

/-- A frame on the lanes: K27.7, its bytes and K29.7 (R392). -/
def twinLanes (bytes : List (BitVec 8)) : Output :=
  let r := dealLanes ((true, 0xFB) :: bytes.map (fun b => (false, b)) ++ [(true, 0xFD)])
  .twinFrame r.1 r.2

/-- Send a frame on the twin link while it is UP. -/
def State.twinSend (s : State) (type : Nat) (payload : List (BitVec 8)) : State :=
  if s.tlink then s.emit (twinLanes (twinBytes type payload)) else s

/-- A HANDOVER frame: 1 REQUEST, 2 READY, 3 CANCEL, 4 SWAP_REQ, and H (R392). -/
def State.handoverSend (s : State) (op h : Nat) : State :=
  s.twinSend 5 ([BitVec.ofNat 8 op, 0, 0, 0] ++ leBytes (h % 2 ^ 32) ++ leBytes (h / 2 ^ 32))

/-- Whether a handover to the partner can begin (R408). -/
def State.mayYield (s : State) : Bool :=
  (s.twinState == 2 || s.twinState == 5) && s.tlink && !s.twin.failed && s.twin.peerState == 3 && s.peerImage && !s.peerInhibited

/-- This unit yields (R408, R409): `ask` says that it tells the partner so. -/
def State.yieldBegin (s : State) (ask : Bool) : State :=
  if s.mayYield then
    let s := ({ s with twin := { s.twin with yieldAt := none } }).setTwinState 7
    if ask then s.handoverSend 4 0 else s
  else s.twinEvent 7

/-- A handover is given up before H (R409). -/
def State.handoverEnd (s : State) : State :=
  if s.twinState = 6 then (s.twinEvent 7).enterStandby
  else if s.twinState = 7 then (s.twinEvent 7).yieldBack
  else s

/-- Cancelled from this side: the partner is told. -/
def State.handoverCancel (s : State) : State :=
  if s.twinState = 6 ∨ s.twinState = 7 then (s.handoverSend 3 0).handoverEnd else s

/-- SWAP_REQ or the acceptance of this unit's REQUEST: the unit prepares, where it may (R408). A request from a partner that
was CHECKING is a health handover. -/
def State.swapReqRx (s : State) : State :=
  if s.twinState = 3 ∧ s.tlink ∧ s.flag R.TWIN_STATUS_IMG_VALID ∧ ¬ s.inhibited then s.enterPrepare (s.twin.peerState == 5)
  else if s.twinState = 0 then s
  else s.twinEvent 7

/-- REQUEST from the preferred standby (R408). -/
def State.requestRx (s : State) : State := if s.twinState = 0 then s else s.yieldBegin false

/-- READY carries H (R409). -/
def State.readyRx (s : State) (h : Nat) : State :=
  if s.twinState = 7 then { s with twin := { s.twin with yieldAt := some h } } else s

/-- The fade that ends at H begins 64 samples before it (R409); called at every boundary. -/
def State.yieldFade (s : State) : State :=
  match s.twin.yieldAt with
  | some h => if s.twinState = 7 ∧ h ≤ s.time.index + 64 then (s.sinksHold true).psFadeAll else s
  | none => s

/-- Index H is reached: the yielder, whose fades are over, releases and stands by (R394, R409). -/
def State.indexH (s : State) : State :=
  match s.twin.yieldAt with
  | some h =>
    if s.twinState = 7 ∧ h ≤ s.time.index then ((s.twinEvent 6).countSat R.TWIN_CNT_HANDOVERS).standbyState.standbyActs else s
  | none => s

/-- REVERT_HOLD seconds of its conditions: the preferred standby sends REQUEST and prepares (R408). -/
def State.revert' (s : State) : State :=
  if s.twinState == 3 && s.preferred && s.get R.TWIN_CFG_REVERT_HOLD != 0 && !s.twin.failed && s.twin.peerState == 2
      && s.flag R.TWIN_STATUS_PEER_HEALTHY && s.tlink && s.flag R.TWIN_STATUS_IMG_VALID && s.healthy && !s.inhibited then
    (s.handoverSend 1 0).enterPrepare false
  else s

/-- NET_YIELD × 10 ms with both port links down (R408). -/
def State.netYield (s : State) : State :=
  if s.twinState == 2 && s.get R.TWIN_CFG_NET_YIELD != 0 && !s.linkIsUp 0 && !s.linkIsUp 1 && !s.twin.failed
      && s.flag R.TWIN_STATUS_PEER_HEALTHY && s.get R.TWIN_HEALTH_PEER / 2 % 4 != 0 && s.peerImage then s.yieldBegin true
  else s

/-- CHECKING ends, t_CHECK after S (R411). A handover that cannot begin is abandoned (R408), and the unit enters ACTIVE. -/
def State.checkingEnd (s : State) : State :=
  if s.twinState = 5 then
    let gained := s.twin.byHealth
    let s := { s with twin := { s.twin with byHealth := false } }
    if s.healthy then s.setTwinState 2
    else
      let s := s.twinEvent 8
      let s := if !gained && !s.twin.failed && s.flag R.TWIN_STATUS_PEER_HEALTHY && s.peerImage then s.yieldBegin true else s
      if s.twinState = 7 then s else s.setTwinState 2
  else s

/-! Heartbeats (R397, R398, R401) -/

/-- The words of a heartbeat in the order of Table 15.3, each with its size in bytes. -/
def State.hbFields (s : State) (seq : Nat) : List (Nat × Nat) :=
  let st := s.twinState
  let flags := toBit s.owns + 2 * toBit s.preferred + 4 * s.get R.TWIN_STATUS_TIME_OK + 8 * s.get R.TWIN_STATUS_IMG_VALID
    + 16 * toBit s.inhibited
  [(4, 0x4D585457), (4, (s.rd R.TWIN_PAIR_ID).toNat), (2, seq), (1, st), (1, flags), (2, s.health)
  , (2, s.get R.TWIN_IMG_SEQ_PUSH), (8, s.time.index), (8, s.uid)]

/-- The datagram of a network heartbeat from port `x` (R398). -/
def State.hbNet (s : State) (x : Nat) (payload : List (BitVec 8)) : State :=
  let (id, s) := s.nextIdent x
  let port := s.get R.TWIN_HB_UDP_PORT
  let dst := s.get (if x = 0 then R.TWIN_PEER_IP_A_ADDR else R.TWIN_PEER_IP_B_ADDR)
  let mac := s.get (if x = 0 then R.TWIN_PEER_MAC_HI_A_HI else R.TWIN_PEER_MAC_HI_B_HI) * 2 ^ 32
    + s.get (if x = 0 then R.TWIN_PEER_MAC_A_LO_MAC_LO else R.TWIN_PEER_MAC_B_LO_MAC_LO)
  let ip := ipv4 (s.get R.TWIN_HB_UDP_DSCP) 1 17 id (s.ipOf x) dst [] (udp (s.ipOf x) dst port port payload)
  s.txSend x { cls := 4, bytes := ether mac (s.macOf x) (s.tagOf x (R.NET_VLAN_PCP_PTP x)) 0x0800 ip }

/-- A heartbeat is sent on each enabled channel that can carry it, in any state but SOLO; HB_SEQ counts those sent (R398, R450). -/
def State.hbSend (s : State) : State :=
  if s.twinState = 0 ∨ s.twin.silence then s
  else
    (sel 3 s.chanEnabled).foldl (fun s c =>
      let seq := (s.chan c).sent
      let f := s.hbFields seq
      if !(if c = 0 then s.tlink else s.linkIsUp (c - 1) && s.ipOf (c - 1) != 0) then s
      else
      let s := s.setChan c { s.chan c with sent := (seq + 1) % 65536 }
      if c = 0 then s.twinSend 1 (f.flatMap (fun e => (beBytes e.1 e.2).reverse))
      else s.hbNet (c - 1) (f.flatMap (fun e => beBytes e.1 e.2))) s

/-- Ownership is broken (R397): the non-preferred unit releases it at once and stands by. -/
def State.ownMismatch (s : State) : State :=
  let s := s.twinEvent 5
  let st := s.twinState
  if !s.preferred && (st == 2 || st == 5 || st == 7 || st == 4) then s.ownRelease.enterStandby else s

/-- A heartbeat is accepted (R398): its channel is enabled and up, MAGIC and PAIR_ID agree, and it is newer by serial
arithmetic than the last accepted on the channel. -/
def State.hbAccepts (s : State) (c : Nat) (h : TwinHb) : Bool :=
  let newer : Bool := match (s.chan c).last with
    | some l => decide (1 ≤ (h.seq + 65536 - l % 65536) % 65536) && decide ((h.seq + 65536 - l % 65536) % 65536 ≤ 32767)
    | none => true
  s.twinState != 0 && !s.twin.silence && s.chanEnabled c && (if c = 0 then s.tlink else s.linkIsUp (c - 1))
    && h.magic == 0x4D585457 && h.pairId == (s.rd R.TWIN_PAIR_ID).toNat && newer

/-- What an accepted heartbeat says is kept (R391, R398, R401). -/
def State.hbKeep (s : State) (c m : Nat) (h : TwinHb) : State :=
  let s := s.countSat (R.TWIN_HB_CNT_RX c)
  let s := s.setChan c { s.chan c with last := some h.seq, heard := true, mismatch := m, state := h.state }
  let s := { s with twin := { s.twin with peerState := h.state, peerFlags := h.flags, peerUid := h.uid } }
  let s := s.put R.TWIN_HEALTH_PEER h.health
  let s := if h.flags.testBit 1 == s.flag R.SYS_STRAPS_TWIN_PREF then s.raise R.TWIN_STATUS_PREF_CONFLICT else s
  s.put R.TWIN_STATUS_PREF (toBit s.preferred)

/-- The partner's time offset, measured on the twin link (R401). -/
def State.hbTime (s : State) (ofs : Int) : State :=
  (s.wr R.TWIN_PEER_OFS (BitVec.ofInt 32 (satI (-2 ^ 31) (2 ^ 31 - 1) ofs).1)).put R.TWIN_STATUS_TIME_OK
    (toBit (decide (ofs.natAbs < 64)))

/-- What a heartbeat decides in PAIRING (R393). -/
def State.hbPairing (s : State) (h : TwinHb) : State :=
  if s.twinState = 1 then
    if [2, 4, 5, 7].contains h.state then s.enterStandby
    else if h.state == 1 && s.preferred then s.enterActive
    else s
  else s

/-- A heartbeat arrives on channel `c` (R397, R398, R400, R401). -/
def State.hbRx (s : State) (c : Nat) (h : TwinHb) (ofs : Int) : State :=
  if s.hbAccepts c h then
    let m := if h.flags.testBit 0 != s.ownIn then (s.chan c).mismatch + 1 else 0
    let s := s.hbKeep c m h
    let s := if c = 0 then s.hbTime ofs else s
    let s := if m = 3 then s.ownMismatch else s
    s.twinCheck.hbPairing h
  else s

/-- A channel's window expires with no accepted heartbeat (R399). -/
def State.hbMiss (s : State) (c : Nat) : State :=
  if s.twinState = 0 || !s.chanEnabled c then s
  else
    let s := (s.setChan c { s.chan c with heard := false, mismatch := 0 }).countSat (R.TWIN_HB_CNT_MISS c)
    s.twinCheck

/-- The twin link trains, or loses its training (R392, R399). -/
def State.tlinkSet (s : State) (up : Bool) : State :=
  if s.pins.inReset then s else
  if up then (if s.twinState = 0 then s else (s.raise R.TWIN_STATUS_TLINK_UP).twinCheck)
  else ((s.clr R.TWIN_STATUS_TLINK_UP).setChan 0 { s.chan 0 with heard := false, mismatch := 0 }).twinCheck

/-! OWN_IN and the guard (R396, R397) -/

/-- Filtered OWN_IN rises. -/
def State.ownInRise (s : State) : State :=
  let s := s.raise R.TWIN_STATUS_OWN_IN
  let st := s.twinState
  if st = 0 then s
  else if st = 1 then s.enterStandby
  else if s.twin.guard then
    if s.preferred then s
    else
      let s := ({ s with twin := { s.twin with ownOut := false, guard := false } }).twinEvent 4
      s.ownRaise
  else if s.owns then s.ownMismatch
  else s

/-- Filtered OWN_IN falls: a unit that waits raises OWN_OUT; a guard that stood starts again. -/
def State.ownInFall (s : State) : State :=
  let s := s.clr R.TWIN_STATUS_OWN_IN
  if s.twin.want then ({ s with twin := { s.twin with want := false } }).ownRaise else s

/-- OWN_OUT has been high for t_OWN_GUARD with OWN_IN low: the unit owns the outputs (R396). The taker's trigger is set for
S = H + 8, and it enters CHECKING (R409). -/
def State.guardExpire (s : State) : State :=
  if s.twin.guard && !s.ownIn then
    let s := ({ s with twin := { s.twin with guard := false } }).ownSet true
    match s.twin.take with
    | some t =>
      match t.ready with
      | some h =>
        if s.twinState = 6 then
          let s := s.put64 R.PORT_START_AT_LO R.PORT_START_AT_HI (h + 8)
          let s := s.startWrite 1
          let at_ := if s.nextBoundary ≤ h + 8 then h + 8 else s.nextBoundary
          let s := { s with twin := { s.twin with take := some { t with start := some at_ } } }
          (s.countSat R.TWIN_CNT_HANDOVERS).setTwinState 5
        else s
      | none => s
    | none => s
  else s

/-! Commands of TWIN.CTRL and timers (R393, R402, R450) -/

/-- An enabled region: its first byte address and its words. -/
def State.region (s : State) (k : Nat) : Nat × Nat := (s.get (R.REGION_BASE_BASE k) / 4 * 4, s.get (R.REGION_WORDS_WORDS k))

def State.regions (s : State) : List Nat := sel 32 (fun k => s.flag (R.REGION_BASE_EN k))

/-- The pages of a region (R402). -/
def State.regionPages (s : State) (k : Nat) : Nat := ((s.region k).2 + 251) / 252

def State.pagesUsed (s : State) : Nat := s.regions.foldl (fun a k => a + s.regionPages k) 0

/-- Whether a region lies within the permitted ranges (R402). -/
def regionFits (r : Nat × Nat) : Bool :=
  decide (0 < r.2) && (decide (r.1 + 4 * r.2 ≤ 0x80000)
    || (decide (0x100000 ≤ r.1) && decide (r.1 + 4 * r.2 ≤ 0x800000)))

/-- Whether two regions share a word. -/
def regionsMeet (a b : Nat × Nat) : Bool := decide (a.1 < b.1 + 4 * b.2) && decide (b.1 < a.1 + 4 * a.2)

/-- IMG_STATUS.RESULT for MODE = TWIN: the first that applies (R402). -/
def State.regionsResult (s : State) : Nat :=
  let l := s.regions
  if l.any (fun k => !regionFits (s.region k)) then 3
  else if l.any (fun k => l.any (fun j => decide (j < k) && regionsMeet (s.region j) (s.region k))) then 2
  else if 1919 < s.pagesUsed then 1
  else 0

/-- A write of TWIN.CTRL once its guard has passed (R393, R402, R408, R409, R446). -/
def State.twinCtrlWrite (s : State) (w : Word) : State :=
  let toTwin := R.TWIN_CTRL_MODE.ofWord w == 1
  if !toTwin && s.ownIn then s.put R.TWIN_IMG_STATUS_RESULT 4
  else if s.twinState = 0 then
    if toTwin then
      let r := s.regionsResult
      let s := s.put R.TWIN_IMG_STATUS_RESULT r
      if r ≠ 0 then s.twinEvent 9
      else
        let s := { s with twin := { s.twin with written := true } }
        let s := (s.wr R.TWIN_CTRL (w &&& 0xB)).put R.TWIN_IMG_STATUS_PAGES s.pagesUsed
        s.enterPairing
    else
      let s := { s with twin := { s.twin with written := true, ownOut := true } }
      s.wr R.TWIN_CTRL (w &&& 0xB)
  else if !toTwin then
    ((s.wr R.TWIN_CTRL (w &&& 0x8)).put R.TWIN_IMG_STATUS_RESULT 0).enterSolo
  else
    let s := s.wr R.TWIN_CTRL (w &&& 0xB)
    let s := if w.toNat.testBit 2 then (if s.twinState = 2 then s.yieldBegin true else s.twinEvent 7) else s
    let s := if w.toNat.testBit 4 then s.handoverCancel else s
    s.twinCheck

/-- 2 s in PAIRING with no heartbeat heard on any channel (R393). -/
def State.pairingTimeout (s : State) : State :=
  if s.twinState = 1 ∧ ¬ (List.range 3).any (fun c => (s.chan c).heard) then s.enterActive else s

/-- 100 ms of OWN_IN high while a heartbeat reports ACTIVE (R393). -/
def State.takeoverYield (s : State) : State :=
  if s.twinState = 4 ∧ s.ownIn ∧ (List.range 3).any (fun c => s.chanAlive c && (s.chan c).state == 2) then s.enterStandby else s

/-- The taker is not ready within t_PREP (R409). -/
def State.prepTimeout (s : State) : State :=
  if s.twinState = 6 ∧ (s.twin.take.map (fun t => t.ready.isNone)).getD true then s.handoverCancel
  else if s.twinState = 7 ∧ s.twin.yieldAt.isNone then s.handoverEnd
  else s

/-- A warm reset of an owning unit: release and silence (R450). -/
def State.twinWarm (s : State) : State :=
  if [4, 5, 2, 7, 6].contains s.twinState then
    let s := { s with twin := { s.twin with silence := true, take := none, yieldAt := none, byHealth := false } }
    (s.ownRelease).sinksHold false
  else s

/-- The silence ends: PAIRING (R450). -/
def State.silenceEnd (s : State) : State :=
  if s.twin.silence then ({ s with twin := { s.twin with silence := false, warm := true } }).enterPairing else s

/-- The partner has stayed in STANDBY or PREPARE for 100 ms (R450). -/
def State.pairingResume (s : State) : State :=
  if s.twinState = 1 ∧ s.twin.warm ∧ (List.range 3).any (fun c => s.chanAlive c && ((s.chan c).state == 3 || (s.chan c).state == 6)) then
    s.enterActive
  else s

def execNetCtrlWrite (x : Fin 2) (w : BitVec 32) (s : State) : Result :=
  finish (s.hostPut (R.NET_CTRL x) w (fun s => s.twinLinks (s.netCtrlWrite x w)))
def execAnComplete (x : Fin 2) (mbps : Nat) (s : State) : Result := finish (s.twinLinks (s.anDone x mbps))
def execLinkUp (x : Fin 2) (los : Bool) (s : State) : Result := finish (s.twinLinks (s.linkReady x los))
def execTwinModeTwin (w : BitVec 32) (s : State) : Result :=
  finish (s.hostPut (R.TWIN_CTRL) (R.TWIN_CTRL_MODE.inWord w 1) (fun s => s.twinCtrlWrite (R.TWIN_CTRL_MODE.inWord w 1)))
def execTwinModeSolo (w : BitVec 32) (s : State) : Result :=
  finish (s.hostPut (R.TWIN_CTRL) (R.TWIN_CTRL_MODE.inWord w 0) (fun s => s.twinCtrlWrite (R.TWIN_CTRL_MODE.inWord w 0)))
def execTwinSwap (w : BitVec 32) (s : State) : Result :=
  finish (s.hostPut (R.TWIN_CTRL) (R.TWIN_CTRL_SWAP.inWord (R.TWIN_CTRL_MODE.inWord w 1) 1) (fun s => s.twinCtrlWrite (R.TWIN_CTRL_SWAP.inWord (R.TWIN_CTRL_MODE.inWord w 1) 1)))
def execTwinCancel (w : BitVec 32) (s : State) : Result :=
  finish (s.hostPut (R.TWIN_CTRL) (R.TWIN_CTRL_CANCEL.inWord (R.TWIN_CTRL_MODE.inWord w 1) 1) (fun s => s.twinCtrlWrite (R.TWIN_CTRL_CANCEL.inWord (R.TWIN_CTRL_MODE.inWord w 1) 1)))
def execTwinLinkTrained (s : State) : Result := finish (s.tlinkSet true)
def execTwinLinkDown (s : State) : Result := finish (s.tlinkSet false)
def execTwinHeartbeatRx (c : Fin 3) (hb : TwinHb) (ofs : Int) (s : State) : Result := finish (s.hbRx c hb ofs)
def execHandoverRequestRx (s : State) : Result := finish s.requestRx
def execHandoverReadyRx (h : Nat) (s : State) : Result := finish (s.readyRx h)
def execHandoverCancelRx (s : State) : Result := finish s.handoverEnd
def execHandoverSwapReqRx (s : State) : Result := finish s.swapReqRx
def execHeartbeatSend (s : State) : Result := finish s.hbSend
def execHeartbeatMiss (c : Fin 3) (s : State) : Result := finish (s.hbMiss c)
def execOwnInRise (s : State) : Result := finish s.ownInRise
def execOwnInFall (s : State) : Result := finish s.ownInFall
def execPairingTimeout (s : State) : Result := finish s.pairingTimeout
def execTakeoverYieldTimeout (s : State) : Result := finish s.takeoverYield
def execCheckingEnd (s : State) : Result := finish s.checkingEnd
def execPrepareTimeout (s : State) : Result := finish s.prepTimeout
def execHandoverIndexH (s : State) : Result := finish s.indexH
def execRevertHoldExpire (s : State) : Result := finish s.revert'
def execNetYieldExpire (s : State) : Result := finish s.netYield
def execWarmTwinSilenceEnd (s : State) : Result := finish s.silenceEnd
def execWarmPairingResume (s : State) : Result := finish s.pairingResume
def execLinkDown (x : Fin 2) (c : LinkCause) (s : State) : Result := finish (s.linkFails x c).twinCheck

end Sys2Proof.Machine
end

