-- ==== Sys2Proof/Machine/NetRx.lean ====
section
/-!
DEFINITION. A frame arrives at a port: the MAC's filter, the VLAN and IPv4 checks, the classification of Table 5.3 and the
host frame path's receive side (R134 to R139).
-/
namespace Sys2Proof.Machine

/-- Whether the MAC passes a destination address (R134). -/
def State.macPasses (s : State) (x d : Nat) : Bool :=
  d == s.macOf x || d == 0xFFFFFFFFFFFF || d == 0x01005E000181 || d == 0x01005E000001 || d == 0x01005E000016
    || (List.range 512).any (fun n => s.joinedOn n x && groupMac (s.get (R.MEMB_GROUP_GROUP n)) == d)
    || (s.flag R.NETC_HFP_CFG_ACC_MC_ALL && (d / 2 ^ 40) % 2 == 1)

/-- Whether the VLAN rules pass a frame (R135). -/
def State.vlanPasses (s : State) (x : Nat) (e : EthRx) : Bool :=
  match e.tag with
  | none => s.flag (R.NET_VLAN_ACCEPT_UNTAGGED x)
  | some (_, vid) => if vid = 0 then s.flag (R.NET_VLAN_ACCEPT_UNTAGGED x) else vid == s.get (R.NET_VLAN_VID x)

/-- The receive prefix (Table 5.4). -/
def hfpPrefix (len port reason : Nat) (e : EthRx) (t : Nat) : List (BitVec 8) :=
  let pcp := match e.tag with
    | some (p, _) => 2 ^ 15 + p * 2 ^ 16
    | none => 0
  let ns := t / 65536
  leBytes (len % 2 ^ 14 + port * 2 ^ 14 + pcp + reason * 2 ^ 19) ++ leBytes (ns % 1000000000)
    ++ leBytes (ns / 1000000000 % 2 ^ 32) ++ leBytes (ns / 1000000000 / 2 ^ 32 % 65536 + t / 256 % 256 * 65536)

/-- A frame goes to the host frame path (R138, R139). -/
def State.hfpRx (s : State) (x reason : Nat) (e : EthRx) (t : Nat) : State :=
  if !s.flag R.NETC_HFP_CFG_EN || !s.on .flowptp then s
  else
    let f := e.untagged
    let t := shiftTime t (corrUnits (s.get (R.NET_TS_CORR_RX_CORR x)))
    match s.siloPutFrame (s.get R.NETC_HFP_CFG_RX_SILO) (hfpPrefix f.length x reason e t ++ f) with
    | (true, s) => s.count R.NETC_HFP_RX_FRAMES_COUNT
    | (false, s) => (s.count R.NETC_HFP_RX_DROP_COUNT).raise R.NETC_HFP_EVENT_RX_DROP

/-- Rows 5 to 7 of Table 5.3; `other` marks an EtherType other than those of IPv4 and ARP, which row 6 names (log entry 37). -/
def State.byDestination (s : State) (x : Nat) (other : Bool) (e : EthRx) (t : Nat) : State :=
  if e.dst = s.macOf x then s.hfpRx x (if other then 4 else 0) e t
  else if e.dst = 0xFFFFFFFFFFFF then
    (if s.flag R.NETC_HFP_CFG_ACC_BCAST then s.hfpRx x (if other then 4 else 1) e t else s)
  else if s.flag R.NETC_HFP_CFG_ACC_MC_ALL then s.hfpRx x (if other then 4 else 2) e t
  else s

/-- A PTP message out of a UDP datagram (IEEE 1588, log entry 32). -/
def ptpParse (d : List (BitVec 8)) (ip mac : Nat) : PtpMsg :=
  { source := beAt d 20 10, seq := beAt d 30 2, twoStep := (beAt d 6 1).testBit 1, corr := sgn 64 (beAt d 8 8)
    logInterval := sgn 8 (beAt d 33 1), time := beAt d 34 6 * 1000000000 + beAt d 40 4, req := beAt d 44 10
    ds := { priority1 := beAt d 47 1, cls := beAt d 48 1, accuracy := beAt d 49 1, variance := beAt d 50 2,
            priority2 := beAt d 52 1, gm := beAt d 53 8, steps := beAt d 61 2 }
    ip, mac }

/-- The PTP unit takes a message by its type. -/
def State.ptpRx (s : State) (x type : Nat) (m : PtpMsg) (t : Nat) : State :=
  if type = 0 then s.ptpSync x m t
  else if type = 1 then s.ptpDelayReq x m t
  else if type = 8 then s.ptpFollowUp x m
  else if type = 9 then s.ptpDelayResp x m
  else s.ptpAnnounce x m t

/-- An RTP packet out of a UDP datagram (R164): what remains after CSRC list, header extension and padding. -/
def rtpParse (i : IpRx) (u : UdpRx) : RtpPacket :=
  let d := u.data
  let b0 := beAt d 0 1
  let h := 12 + 4 * (b0 % 16)
  let h := if b0.testBit 4 then h + 4 + 4 * beAt d (h + 2) 2 else h
  let pad := if b0.testBit 5 then (d.getLast?.map (·.toNat)).getD 0 else 0
  { src := i.src, dst := i.dst, sport := u.sport, dport := u.dport, version := b0 / 64, pt := beAt d 1 1 % 128
    seq := beAt d 2 2, ts := beAt d 4 4, ssrc := beAt d 8 4, payload := (d.take (d.length - pad)).drop h }

/-- An IGMP Membership Query (R155): version 3 from 12 bytes on, else version 2 with a Max Resp Time (log entry 32). -/
def igmpParse (b : List (BitVec 8)) : IgmpQuery :=
  if 12 ≤ b.length then
    { version := 3, group := beAt b 4 4, sources := (List.range (beAt b 10 2)).map (fun k => beAt b (12 + 4 * k) 4) }
  else { version := if beAt b 1 1 = 0 then 1 else 2, group := beAt b 4 4 }

/-- A heartbeat out of a UDP datagram, big-endian (R398, Table 15.3). -/
def hbParse (d : List (BitVec 8)) : TwinHb :=
  { magic := beAt d 0 4, pairId := beAt d 4 4, seq := beAt d 8 2, state := beAt d 10 1, flags := beAt d 11 1
    health := beAt d 12 2, push := beAt d 14 2, index := beAt d 16 8, uid := beAt d 24 8 }

/-- Whether a UDP datagram is a network heartbeat: addressed to the port's own address and TWIN.HB_UDP.PORT (R398). -/
def State.isHb (s : State) (x dst dport : Nat) : Bool :=
  dst == s.ipOf x && dport == s.get R.TWIN_HB_UDP_PORT

/-- Classify an IPv4 frame (Table 5.3). -/
def State.classify (s : State) (x : Nat) (e : EthRx) (i : IpRx) (t : Nat) : State :=
  if i.proto = 2 then
    if beAt i.body 0 1 = 0x11 then (s.igmpQuery x (igmpParse i.body)).hfpRx x 5 e t
    else s.byDestination x false e t
  else if i.special then
    if i.proto = 17 ∧ ¬ i.frag ∧ ¬ (parseUdp i).ok then s.netCount x 5 1 else s.hfpRx x 6 e t
  else if i.proto = 17 then
    let u := parseUdp i
    if !u.ok then s.netCount x 5 1
    else if (u.dport = 319 ∨ u.dport = 320) ∧ (i.dst = ptpGroup ∨ i.dst = s.ipOf x) then
      let type := beAt u.data 0 1 % 16
      if beAt u.data 1 1 % 16 = 2 ∧ beAt u.data 4 1 = s.ptpDomain x ∧ [0, 1, 8, 9, 11].contains type then
        s.ptpRx x type (ptpParse u.data i.src e.src) (shiftTime t (corrUnits (s.get (R.NET_TS_CORR_RX_CORR x))))
      else if s.flag R.NETC_HFP_CFG_ACC_PTP_OTHER then s.hfpRx x 3 e t
      else s.netCount x 15 1
    else if s.isHb x i.dst u.dport then s.hbRx (x + 1) (hbParse u.data) 0
    else
      match s.flowRx x (rtpParse i u) t with
      | (true, s) => s
      | (false, s) => s.byDestination x false e t
  else s.byDestination x false e t

/-- A frame reaches a port's MAC (R134 to R137). -/
def State.frameTake (s : State) (x : Nat) (fcsOk : Bool) (bs : List (BitVec 8)) (t : Nat) : State :=
  if !s.netOn x || !s.linkIsUp x then s
  else
    let e := parseEth bs
    let len := bs.length + 4
    let top := if e.tag.isSome then 1522 else 1518
    if !fcsOk then s.netCount x 2 1
    else if len < 64 ∨ top < len then s.netCount x 3 1
    else if e.etype = 0x8808 then s.netCount x 6 1
    else if !s.macPasses x e.dst || !s.vlanPasses x e then s.netCount x 4 1
    else
      let s := (s.netCount x 0 1).netCount x 1 len
      if e.etype = 0x0800 then
        let i := parseIp e.body
        if !i.ok then s.netCount x 5 1 else s.classify x e i t
      else s.byDestination x (e.etype != 0x0806) e t

/-- A frame arrives at a port's serial inputs; in loopback it is ignored (R132). -/
def State.frameRx (s : State) (x : Nat) (fcsOk : Bool) (bs : List (BitVec 8)) (t : Nat) : State :=
  if s.flag (R.NET_CTRL_LOOPBACK x) then s else s.frameTake x fcsOk bs t

/-- A frame has finished leaving a port, and in loopback has come back to the port's own receiver (R132, R141). -/
def State.frameLeft (s : State) (x : Nat) : State :=
  match (s.port x).looped with
  | some (bs, t) => (s.txEnd x).frameTake x true bs t
  | none => s.txEnd x

def execPortTxFrameEnd (x : Fin 2) (s : State) : Result := finish (s.frameLeft x)
def execFrameReceive (x : Fin 2) (fcsOk : Bool) (bs : List (BitVec 8)) (t : Nat) (s : State) : Result :=
  finish (s.frameRx x fcsOk bs t)

end Sys2Proof.Machine
end

