-- ==== Sys2Proof/Machine/Crypto.lean ====
section
/-!
DEFINITION. SHA-256 and ECDSA over P-256, the two standards that firmware verification names (R427, R429; FIPS 180-4 and
FIPS 186-4, log entry 50).
-/
namespace Sys2Proof.Machine

/-! SHA-256: its constants are roots of primes (FIPS 180-4, 4.2.2 and 5.3.3) -/

/-- The largest number below `r` + 2^n whose power `e` does not exceed `x`, found bit by bit from the top. -/
def rootFloor (e x : Nat) : Nat → Nat → Nat
  | 0, r => r
  | n + 1, r => rootFloor e x n (if (r + 2 ^ n) ^ e ≤ x then r + 2 ^ n else r)

/-- The first 32 bits of the fraction of the root of degree `e` of a number below 400. -/
def rootFraction (e p : Nat) : Word := BitVec.ofNat 32 (rootFloor e (p * 2 ^ (32 * e)) 37 0)

def isPrime (p : Nat) : Bool := decide (2 ≤ p) && (List.range p).all (fun d => d < 2 || p % d != 0)

/-- The 64 primes up to 311. -/
def primes : List Nat := (List.range 312).filter isPrime

/-- The exclusive or of a word turned right by several counts. -/
def turned (x : Word) (counts : List Nat) : Word := (counts.map x.rotateRight).foldl (· ^^^ ·) 0

/-- The chaining value, and the working variables of a block. -/
structure Sha where
  a : Word
  b : Word
  c : Word
  d : Word
  e : Word
  f : Word
  g : Word
  h : Word
  deriving DecidableEq, Repr

def Sha.ofList (l : List Word) : Sha :=
  let w (k : Nat) := l.getD k 0
  { a := w 0, b := w 1, c := w 2, d := w 3, e := w 4, f := w 5, g := w 6, h := w 7 }

def Sha.toList (v : Sha) : List Word := [v.a, v.b, v.c, v.d, v.e, v.f, v.g, v.h]

def shaStart : Sha := Sha.ofList (primes.map (rootFraction 2))

/-- One turn of the working variables with the sum of a constant and a word of the schedule. -/
def Sha.turn (v : Sha) (x : Word) : Sha :=
  let choice := v.g ^^^ (v.e &&& (v.f ^^^ v.g))
  let most := (v.a &&& v.b) ||| (v.c &&& (v.a ||| v.b))
  let t := x + v.h + choice + turned v.e [6, 11, 25]
  { b := v.a, c := v.b, d := v.c, f := v.e, g := v.f, h := v.g, e := v.d + t, a := t + most + turned v.a [2, 13, 22] }

/-- The word that enters the window of the last 16 words of the schedule. -/
def shaNext (w : List Word) : Word :=
  let old := w.getD 1 0
  let new := w.getD 14 0
  w.getD 0 0 + w.getD 9 0 + (turned old [7, 18] ^^^ (old >>> 3)) + (turned new [17, 19] ^^^ (new >>> 10))

/-- The turns of one block, a prime for each, with the schedule as a window of 16 words that moves along. -/
def shaTurns : List Nat → List Word → Sha → Sha
  | [], _, v => v
  | p :: ps, w, v => shaTurns ps (w.drop 1 ++ [shaNext w]) (v.turn (rootFraction 3 p + w.getD 0 0))

/-- The chaining value after a block of 16 words. -/
def Sha.block (v : Sha) (w : List Word) : Sha := Sha.ofList (List.zipWith (· + ·) v.toList (shaTurns primes w v).toList)

/-- The words of some bytes, most significant byte first. -/
def beWords (bs : List (BitVec 8)) : List Word :=
  (List.range (bs.length / 4)).map (fun k => BitVec.ofNat 32 (beAt bs (4 * k) 4))

/-- A message of `n` blocks, in words. -/
def Sha.blocks : Nat → List Word → Sha → Sha
  | 0, _, v => v
  | n + 1, w, v => Sha.blocks n (w.drop 16) (v.block (w.take 16))

/-- SHA-256 of some bytes, as a number, its first byte most significant. The padding brings the length to a multiple of 64 bytes. -/
def sha256 (bs : List (BitVec 8)) : Nat :=
  let fill := 63 - (bs.length + 8) % 64
  let w := beWords (bs ++ [0x80] ++ List.replicate fill 0 ++ beBytes 8 (8 * bs.length))
  ((Sha.blocks (w.length / 16) w shaStart).toList).foldl (fun n x => 2 ^ 32 * n + x.toNat) 0

/-! P-256 -/

def p256P : Nat := 2 ^ 256 - 2 ^ 224 + 2 ^ 192 + 2 ^ 96 - 1
def p256N : Nat := 0xFFFFFFFF00000000FFFFFFFFFFFFFFFFBCE6FAADA7179E84F3B9CAC2FC632551
def p256B : Nat := 0x5AC635D8AA3A93E7B3EBBD55769886BC651D06B0CC53B0F63BCE3C3E27D2604B
def p256G : Nat × Nat :=
  (0x6B17D1F2E12C4247F8BCE6E563A440F277037D812DEB33A0F4A13945D898C296,
   0x4FE342E2FE1A7F9B8EE7EB4A7C0F9E162BCE33576B315ECECBB6406837BF51F5)

/-- `x` to the power `e` modulo `m`, for an exponent of at most `k` bits. -/
def powMod (m : Nat) : Nat → Nat → Nat → Nat
  | 0, _, _ => 1 % m
  | k + 1, x, e =>
    let h := powMod m k (x * x % m) (e / 2)
    if e % 2 = 1 then h * x % m else h

/-- The inverse modulo a prime of 256 bits. -/
def invMod (m x : Nat) : Nat := powMod m 256 (x % m) (m - 2)

/-- Addition of points of the curve; none is the point at infinity. -/
def ecAdd : Option (Nat × Nat) → Option (Nat × Nat) → Option (Nat × Nat)
  | none, q => q
  | p, none => p
  | some (x1, y1), some (x2, y2) =>
    let m := p256P
    if x1 = x2 ∧ (y1 + y2) % m = 0 then none
    else
      let l := if x1 = x2 then (3 * x1 * x1 + (m - 3)) * invMod m (2 * y1) % m
        else (y2 + (m - y1)) * invMod m (x2 + (m - x1)) % m
      let x3 := (l * l + 2 * m - x1 - x2) % m
      some (x3, (l * (x1 + (m - x3)) + (m - y1)) % m)

/-- `e` times a point, for `e` of at most `k` bits. -/
def ecMul : Nat → Nat → Option (Nat × Nat) → Option (Nat × Nat)
  | 0, _, _ => none
  | k + 1, e, p =>
    let h := ecMul k (e / 2) (ecAdd p p)
    if e % 2 = 1 then ecAdd h p else h

/-- Whether (r, s) signs the message whose SHA-256 is `z` under the public key (x, y). -/
def ecdsaOk (x y r s z : Nat) : Bool :=
  let m := p256P
  let n := p256N
  let curve := decide (x < m) && decide (y < m) && y * y % m == (x * x * x + (m - 3) * x + p256B) % m
  if !curve || r == 0 || s == 0 || decide (n ≤ r) || decide (n ≤ s) then false
  else
    let w := invMod n s
    match ecAdd (ecMul 256 (z * w % n) (some p256G)) (ecMul 256 (r * w % n) (some (x, y))) with
    | some (px, _) => px % n == r
    | none => false

end Sys2Proof.Machine
end

