-- ==== Sys2Proof/Machine/Mgmt.lean ====
section
/-!
DEFINITION. The management processor's mailbox, sensors, event log and firmware, the GPIO timestamps, and the fuses
(R414 to R434). What the management processor does through the register map stands in MgmtAct.lean.
-/
namespace Sys2Proof.Machine

/-- Event bit `b` of MP.EVENT. -/
def State.mpEvent (s : State) (b : Nat) : State := s.raise (R.MP_EVENT_EVENT.bit b)

/-- The management processor runs its firmware. -/
def State.mpRuns (s : State) : Bool := s.get R.MP_STATUS_STATE == 1

/-! The event log (R420, R421, Table 16.5) -/

/-- The CRC-16 of R16 over some bytes, in order, the highest bit of each first (log entry 60). -/
def crc16Bytes (bs : List (BitVec 8)) : Nat := bs.foldl (fun c b => crc16 b.toNat 8 c) 0xFFFF

/-- The eight words of an entry. -/
def LogEntry.words (e : LogEntry) : List Word :=
  let sec := e.ns / 1000000000
  let l : List Word :=
    [ BitVec.ofNat 32 e.seq
    , BitVec.ofNat 32 (e.code % 65536 + e.sev % 4 * 2 ^ 16 + toBit e.timeValid * 2 ^ 18 + toBit e.gap * 2 ^ 19)
    , BitVec.ofNat 32 (e.ns % 1000000000), BitVec.ofNat 32 sec
    , BitVec.ofNat 32 (sec / 2 ^ 32 % 65536 + e.boot % 65536 * 2 ^ 16), e.arg0, e.arg1 ]
  let crc := crc16Bytes (l.flatMap (fun w => leBytes w.toNat) ++ (leBytes e.arg2).take 2)
  l ++ [BitVec.ofNat 32 (crc + e.arg2 % 65536 * 2 ^ 16)]

/-- LOG_DATA[k]: word `k` of the ring slot that LOG_SEL names (R421). -/
def State.logData (s : State) (k : Nat) : Word :=
  let q := s.get R.MP_LOG_SEL_SEQ
  let lo := s.get R.MP_LOG_OLDEST_SEQ
  if (q + 2 ^ 32 - lo) % 2 ^ 32 ≤ (s.get R.MP_LOG_HEAD_SEQ + 2 ^ 32 - lo) % 2 ^ 32 then
    match s.mgmt.ring.find? (fun e => e.seq % 256 == q % 256) with
    | some e => (e.words[k]?).getD 0
    | none => 0
  else 0

/-- The entry of sequence number `q`, from RAM or flash, with a good CRC. -/
def State.logFind (s : State) (q : Nat) : Option LogEntry := (s.mgmt.ring ++ s.mgmt.flash).find? (fun e => e.good && e.seq == q)

/-- The oldest entry not yet copied goes to the flash ring; when that is full, the sector with its oldest 128 entries is erased
first (R420). -/
def State.logCopy (s : State) : State :=
  if s.mpRuns && decide (0 < s.mgmt.uncopied) then
    match s.mgmt.ring[s.mgmt.uncopied - 1]? with
    | some e =>
      let old := if 8192 ≤ s.mgmt.flash.length then s.mgmt.flash.take (s.mgmt.flash.length - 128) else s.mgmt.flash
      { s with mgmt := { s.mgmt with flash := e :: old, uncopied := s.mgmt.uncopied - 1 } }
    | none => s
  else s

/-- The log registers after a start: what the RAM ring holds and the flash does not yet is copied first, and SEQ goes on from the highest
in flash whose CRC is good (R420; log entry 330). -/
def State.logStart (s : State) : State :=
  let s := forN s.mgmt.uncopied (fun _ s => s.logCopy) s
  let top := (s.mgmt.flash.find? (·.good)).map (·.seq)
  let low := (s.mgmt.ring.getLast?.map (·.seq)).orElse (fun _ => top)
  (s.put R.MP_LOG_HEAD_SEQ (top.getD 0)).put R.MP_LOG_OLDEST_SEQ (low.getD 0)

/-! Fuses (R431 to R434) -/

/-- The fuse SVN: the blown bits of word 23. -/
def State.fuseSvn (s : State) : Nat := (List.range 32).foldl (fun a k => a + toBit ((s.rd (R.FUSE_WORD 23)).toNat.testBit k)) 0

/-- Key hash `k` is programmed. -/
def State.keySet (s : State) (k : Nat) : Bool := (List.range 8).any (fun j => s.rd (R.FUSE_WORD (6 + 8 * k + j)) != 0)

/-- JTAG_OFF, SPELT_DBG_OFF and PROG_RD_OFF of word 24. -/
def State.closed (s : State) (b : Nat) : Bool := (s.rd (R.FUSE_WORD 24)).toNat.testBit b

/-- The bit of word 25 that locks a word, for the words that FUSE.PROG programs (Table 16.10); none where it never locks. -/
def fuseLockBit (w : Nat) : Option Nat :=
  if w = 5 then some 3 else if 6 ≤ w ∧ w ≤ 13 then some 4 else if 14 ≤ w ∧ w ≤ 21 then some 5
  else if 26 ≤ w ∧ w ≤ 27 then some 6 else none

/-- FUSE.STATUS.RESULT of a refusal, the first that applies; 0 where the programming starts (R433). -/
def State.fuseRefusal (s : State) (p w : Nat) : Nat :=
  let locked := match fuseLockBit w with
    | some b => (s.rd (R.FUSE_WORD 25)).toNat.testBit b
    | none => false
  if (fuseLockBit w).isNone && w != 22 && w != 23 then 1
  else if locked then 2
  else if w == 23 && p != 2 then 3
  else if bitsOf (s.rd R.MP_ALARM_STATUS).toNat 31 24 ≠ 0 then 4
  else if s.flag R.FUSE_STATUS_BUSY then 5
  else 0

/-- An outcome of the fuses: RESULT and PROG_DONE or PROG_FAIL. -/
def State.fuseOutcome (s : State) (r : Nat) : State :=
  (s.put R.FUSE_STATUS_RESULT r).raise (R.FUSE_EVENT_EVENT.bit (if r = 0 then 0 else 1))

/-- Programming starts. -/
def State.fuseStart (s : State) (l : List (Nat × Word)) : State :=
  { s.raise R.FUSE_STATUS_BUSY with mgmt := { s.mgmt with fusing := l } }

/-- A write of FUSE.PROG from port `p` once its guard has passed (R433). -/
def State.fuseProgWrite (s : State) (p : Nat) (w : Word) : State :=
  let n := R.FUSE_PROG_WORD.ofWord w
  let r := s.fuseRefusal p n
  if r = 0 then (s.put R.FUSE_PROG_WORD n).fuseStart [(n, s.rd R.FUSE_DATA)] else s.fuseOutcome r

/-- A write of FUSE.LOCK once its guard has passed (R434). -/
def State.fuseLockWrite (s : State) (w : Word) : State :=
  if bitsOf (s.rd R.MP_ALARM_STATUS).toNat 31 24 ≠ 0 then s.fuseOutcome 4
  else if s.flag R.FUSE_STATUS_BUSY then s.fuseOutcome 5
  else s.fuseStart [(24, w &&& 7), (25, w &&& 0x78)]

/-- Bits of a fuse word are blown: a bit only ever changes from 0 to 1 (R432). -/
def State.blow (s : State) (w : Nat) (bits : Word) : State := s.wr (R.FUSE_WORD w) (s.rd (R.FUSE_WORD w) ||| bits)

/-- SPELT_DBG_OFF: a halted lane resumes, and none halts after a step (R241, R434). -/
def State.lanesResume (s : State) : State :=
  forN 16 (fun n s =>
    if s.domOn (laneDom n) then
      let s := s.setLane n { s.lane n with stepping := false }
      if s.laneState n = 3 then (s.setLane n { s.lane n with pastBp := false }).setLaneState n 2 else s
    else s) s

/-- Programming ends: `bad` are the bits that do not read back set (R433, R434). -/
def State.fuseDone (s : State) (bad : Word) : State :=
  if s.flag R.FUSE_STATUS_BUSY then
    let l := s.mgmt.fusing
    let miss : Nat × Word → Word := fun e => e.2 &&& bad &&& ~~~ s.rd (R.FUSE_WORD e.1)
    let r := if l.any (fun e => miss e != 0) then 6 else 0
    let was := s.closed 1
    let s := l.foldl (fun s (e : Nat × Word) =>
      let s := s.blow e.1 (e.2 &&& ~~~ miss e)
      if e.2 = 0 ∧ l.length ≠ 1 then s else s.log 0x63 0 e.1 (e.2 &&& ~~~ miss e).toNat) s
    let s := { s.clr R.FUSE_STATUS_BUSY with mgmt := { s.mgmt with fusing := [] } }
    (if s.closed 1 && !was then s.lanesResume else s).fuseOutcome r
  else s

/-! Firmware slots (R426 to R430) -/

def State.fwSlot (s : State) (k : Nat) : FwSlot := if k = 0 then s.mgmt.slotA else s.mgmt.slotB

/-- Replace a slot's content. -/
def State.setFwSlot (s : State) (k : Nat) (x : FwSlot) : State :=
  { s with mgmt := if k = 0 then { s.mgmt with slotA := x } else { s.mgmt with slotB := x } }

/-- Record 1 is the one in force: its CRC is good, and it is the later one or record 0's CRC is bad (R428). -/
def MgmtSt.second (m : MgmtSt) : Bool := m.boot1.good && (!m.boot0.good || decide (m.boot0.generation < m.boot1.generation))

/-- The boot record in force; where neither has a good CRC, both slots are EMPTY (R428). -/
def MgmtSt.inForce (m : MgmtSt) : BootRec := if m.second then m.boot1 else if m.boot0.good then m.boot0 else {}

/-- The state of slot `k` (R428). -/
def State.fwState (s : State) (k : Nat) : Nat := if k = 0 then s.mgmt.inForce.a else s.mgmt.inForce.b

/-- The other record is written with the next generation and the slots' states. Where the flash fails, it is left with a bad CRC, and the
older record stays in force (R428). -/
def State.recWrite (s : State) (ok : Bool) (a b : Nat) : State :=
  let r : BootRec := if ok then { generation := s.mgmt.inForce.generation + 1, a, b } else { good := false }
  { s with mgmt := if s.mgmt.second then { s.mgmt with boot0 := r } else { s.mgmt with boot1 := r } }

/-- A slot's state changes (R428). -/
def State.slotState (s : State) (k v : Nat) : State :=
  if s.fwState k = v then s else if k = 0 then s.recWrite true v (s.fwState 1) else s.recWrite true (s.fwState 0) v

/-- The word at byte offset `o` of a slot; erased flash reads ones. -/
def FwSlot.word (x : FwSlot) (o : Nat) : Word :=
  match x.words.find? (fun e => e.1 == o) with
  | some e => e.2
  | none => match x.torn with
    | some k => Config.freeWord (k + o / 4)
    | none => 0xFFFFFFFF

/-- `n` bytes of a slot from offset `o`. -/
def FwSlot.bytes (x : FwSlot) (o n : Nat) : List (BitVec 8) :=
  (((List.range (n / 4 + 1)).flatMap (fun k => leBytes (x.word (o + 4 * k)).toNat))).take n

def FwSlot.num (x : FwSlot) (o : Nat) : Nat := (x.word o).toNat

/-- The header's own rules (R427, Table 16.9). -/
def FwSlot.headerOk (x : FwSlot) : Bool :=
  x.num 0 == 0x5746584D && x.num 4 % 65536 == 1 && x.num 4 / 2 ^ 17 == 0 && x.num 12 / 256 == 0
    && x.num 16 % 4 == 0 && decide (x.num 16 ≤ 786432) && (List.range 18).all (fun k => x.num (0xB8 + 4 * k) == 0)

/-- KEY_HASH[k] as a number, byte 0 most significant. -/
def State.keyHash (s : State) (k : Nat) : Nat :=
  beNat ((List.range 8).flatMap (fun j => leBytes (s.rd (R.FUSE_WORD (6 + 8 * k + j))).toNat))

/-- The signature and key rules (R429). -/
def State.signed (s : State) (x : FwSlot) : Bool :=
  if s.keySet 0 || s.keySet 1 then
    let k := x.num 4 / 2 ^ 16 % 2
    let key := x.bytes 0x38 64
    sha256 key == s.keyHash k && !(s.rd (R.FUSE_WORD 22)).toNat.testBit k
      && ecdsaOk (beAt key 0 32) (beAt key 32 32) (beNat (x.bytes 0x78 32)) (beNat (x.bytes 0x98 32)) (sha256 (x.bytes 0 0x78))
  else true

/-- The status code of an image's verification; 0 where it passes (R429). -/
def State.imageStatus (s : State) (x : FwSlot) : Nat :=
  let svn := x.num 12 % 256
  if !x.headerOk || sha256 (x.bytes 256 (x.num 16)) != beNat (x.bytes 0x18 32) then 4
  else if svn < s.fuseSvn then 5
  else if 32 < svn then 6
  else if s.signed x then 0 else 4

/-- The slot that FW_BEGIN erases: the one that is not ACTIVE. -/
def State.inactive (s : State) : Nat := if s.fwState 0 = 4 then 1 else 0

/-! The mailbox (R416, R417) -/

/-- The commands of Table 16.1. -/
def mbOps : List Nat := [1, 2, 3, 0x10, 0x11, 0x12, 0x13, 0x14]

/-- The ROM or the firmware takes mailbox commands. -/
def State.mbServed (s : State) : Bool := s.mpRuns || s.get R.MP_STATUS_STATE == 3 || (s.get R.MP_STATUS_STATE == 0 && s.mgmt.serving)

/-- A write that BUSY keeps out (R416). -/
def State.mbRefuse (s : State) : State := (s.raise R.MP_MB_STATUS_REFUSED).mpEvent 1

/-- A write of MB_CMD from port `p`. -/
def State.mbCmdWrite (s : State) (p : Nat) (w : Word) : State :=
  if s.flag R.MP_MB_STATUS_BUSY then s.mbRefuse
  else
    let cmd := some (R.MP_MB_CMD_OP.ofWord w, R.MP_MB_CMD_LEN.ofWord w, R.MP_MB_CMD_TAG.ofWord w)
    let s := { s with mgmt := { s.mgmt with cmd } }
    ((s.raise R.MP_MB_STATUS_BUSY).clr R.MP_MB_STATUS_REFUSED).put R.MP_MB_STATUS_PORT p

/-- STATUS, TAG and RLEN in one step. -/
def State.mbStatus (s : State) (status tag : Nat) (rsp : List Word) : State :=
  let s := (rsp.zipIdx).foldl (fun s (e : Word × Nat) => s.wr (R.MP_MB_RSP e.2) e.1) s
  let s := { s with mgmt := { s.mgmt with cmd := none } }
  (((s.put R.MP_MB_STATUS_STATUS status).put R.MP_MB_STATUS_TAG tag).put R.MP_MB_STATUS_RLEN rsp.length).clr R.MP_MB_STATUS_BUSY

/-- A halt or a restart ends the command in progress (R415). -/
def State.mbAbort (s : State) : State :=
  match s.mgmt.cmd with
  | some (_, _, tag) => s.mbStatus 9 tag []
  | none => s

def State.mbArg (s : State) (k : Nat) : Nat := (s.rd (R.MP_MB_ARG k)).toNat

/-- GET_INFO. -/
def State.mbInfo (s : State) : List Word :=
  [ s.rd R.MP_FW_VER
  , BitVec.ofNat 32 (s.get R.MP_FW_SVN_IMG + s.fuseSvn * 2 ^ 8 + s.get R.MP_STATUS_SLOT * 2 ^ 16 + s.get R.MP_STATUS_TRIAL * 2 ^ 17)
  , Config.freeWord s.mgmt.build, Config.freeWord (s.mgmt.build + 1) ]

/-- FW_BEGIN; `ok` says whether the flash took the erase. -/
def State.fwBegin (s : State) (ok : Bool) : Nat × List Word × State :=
  let len := s.mbArg 0
  if len < 256 ∨ 786688 < len then (2, [], s)
  else
    let k := s.inactive
    if ok then
      let s := (s.setFwSlot k {}).slotState k 0
      (0, [BitVec.ofNat 32 k], { s with mgmt := { s.mgmt with begun := some (k, len), verified := false } })
    else
      let s := (s.setFwSlot k { torn := some s.drawn }).slotState k 0
      (7, [], { s with mgmt := { s.mgmt with begun := none, verified := false }, drawn := s.drawn + 262144 })

/-- FW_WRITE. -/
def State.fwWrite (s : State) (ok : Bool) : Nat × List Word × State :=
  match s.mgmt.begun with
  | none => (3, [], s)
  | some (k, len) =>
    let o := s.mbArg 0
    let n := s.mbArg 1
    if n < 4 ∨ 2048 < n ∨ n % 4 ≠ 0 ∨ o % 4 ≠ 0 ∨ len < o + n then (2, [], s)
    else
      let x := s.fwSlot k
      let new := (List.range (n / 4)).map (fun j =>
        (o + 4 * j, if ok then s.rd (R.MP_XFER j) else Config.freeWord (s.drawn + j)))
      let s := s.setFwSlot k { x with words := new ++ x.words.filter (fun e => decide (e.1 < o) || decide (o + n ≤ e.1)) }
      let s := { s with mgmt := { s.mgmt with verified := false }, drawn := if ok then s.drawn else s.drawn + n / 4 }
      (if ok then 0 else 7, [], s)

/-- FW_VERIFY; `ok` says whether the slot could be read back and the boot record written (Table 16.2). -/
def State.fwVerify (s : State) (ok : Bool) : Nat × List Word × State :=
  match s.mgmt.begun with
  | none => (3, [], s)
  | some (k, _) =>
    let x := s.fwSlot k
    let r := s.imageStatus x
    if !ok then (7, [], { s with mgmt := { s.mgmt with verified := false } })
    else if r = 0 then
      let s := s.slotState k 1
      (0, [x.word 8, BitVec.ofNat 32 (x.num 12)], { s with mgmt := { s.mgmt with verified := true } })
    else (r, [], { s with mgmt := { s.mgmt with verified := false } })

/-- FW_ACTIVATE (R430); `ok` says whether the boot record was programmed. -/
def State.fwActivate (s : State) (ok : Bool) : Nat × List Word × State :=
  match s.mgmt.begun, s.mgmt.verified with
  | some (k, _), true =>
    if !ok then (7, [], s.recWrite false 0 0)
    else
    let s := (s.slotState k 2).log 0x60 0 k ((s.fwSlot k).num 8)
    (0, [], { s with mgmt := { s.mgmt with begun := none, verified := false } })
  | _, _ => (3, [], s)

/-- LOG_READ. -/
def State.mbLogRead (s : State) : Nat × List Word × State :=
  let n := s.mbArg 1
  let l := (List.range n).map (fun k => s.logFind ((s.mbArg 0 + k) % 2 ^ 32))
  if n = 0 ∨ 2 < n ∨ l.any (·.isNone) then (2, [], s)
  else (0, l.flatMap (fun e => match e with | some e => e.words | none => []), s)

/-- LOG_MARK. -/
def State.mbLogMark (s : State) : Nat × List Word × State :=
  if 65536 ≤ s.mbArg 2 then (2, [], s)
  else
    let s := s.log3 0xFF 0 (s.rd (R.MP_MB_ARG 0)) (s.rd (R.MP_MB_ARG 1)) (s.mbArg 2)
    (0, [s.rd R.MP_LOG_HEAD], s)

/-! Control and start of the management processor (R415, R428) -/

/-- The registers of Table 16.12 return to their reset values; those of GPIO stay (Table 17.3). -/
def State.mpRegsReset (s : State) : State :=
  { s with regs := s.regs.clear (fun a => (decide (0x5000 ≤ a) && decide (a < 0x5200)) || (decide (0x5800 ≤ a) && decide (a < 0x6000))) }

/-- The management processor starts again from ROM (R415), under R428. GPIO_EVT stays set while the FIFO holds an entry (R423). -/
def State.mpStart (s : State) : State :=
  let s := s.mbAbort
  let mb := s.rd R.MP_MB_STATUS
  let s := { s.mpRegsReset with mgmt := { s.mgmt with
    booting := true, recovery := false, serving := false, begun := none, verified := false, smon4 := none, breach := [], clear := [] } }
  (s.wr R.MP_MB_STATUS mb).put (R.MP_EVENT_EVENT.bit 16) (toBit (!s.mgmt.evts.isEmpty))

/-- A write of MP.CTRL once its guard has passed. -/
def State.mpCtrlWrite (s : State) (w : Word) : State :=
  let s := if w.toNat.testBit 1 then s.mpStart else s
  let halted := s.get R.MP_STATUS_STATE == 2
  let s := s.put R.MP_CTRL_HALT (R.MP_CTRL_HALT.ofWord w)
  if w.toNat.testBit 0 && !halted then
    let s := { s.mbAbort with mgmt := { s.mbAbort.mgmt with before := s.get R.MP_STATUS_STATE } }
    s.put R.MP_STATUS_STATE 2
  else if !w.toNat.testBit 0 && halted then (s.put R.MP_STATUS_STATE s.mgmt.before).logSeen
  else s

/-- The watchdog expires (R415); `pc` is the last program counter. -/
def State.mpWatchdog (s : State) (pc : Word) : State :=
  if s.pins.inReset then s else
  let s := s.mpStart
  let s := { s with mgmt := { s.mgmt with wdog := some pc } }
  (s.raise ⟨R.SYS_RESET_CAUSE, 5, 5⟩).mpEvent 13

/-- The ROM's choice (R428): the slot to try first, what its state becomes, and whether it is a fallback. -/
def State.bootChoice (s : State) : Option Nat × State × Bool :=
  let find (v : Nat) : Option Nat := ([0, 1] : List Nat).find? (fun k => s.fwState k == v)
  match find 2 with
  | some k => (some k, s.slotState k 3, false)
  | none =>
    match find 3 with
    | some k => (find 4, s.slotState k 5, true)
    | none => (find 4, s, false)

/-- The slot that passes verification: the one chosen, or else the other, if that is ACTIVE or VALID. -/
def State.bootSlot (s : State) (k : Nat) : Option Nat :=
  let other := s.fwSlot (1 - k)
  let st := s.fwState (1 - k)
  if s.imageStatus (s.fwSlot k) = 0 then some k
  else if (st = 4 ∨ st = 1) ∧ s.imageStatus other = 0 then some (1 - k)
  else none

/-- The entries of a start: MP_START, WATCHDOG and FW_FALLBACK. -/
def State.bootLog (s : State) (k : Nat) (fallback : Bool) : State :=
  let s := s.log 1 0 (s.rd R.SYS_RESET_CAUSE).toNat (s.get R.MP_FW_SVN_IMG + k * 2 ^ 16)
  let s := match s.mgmt.wdog with
    | some pc => { s.log3 2 2 pc 0 0 with mgmt := { (s.log3 2 2 pc 0 0).mgmt with wdog := none } }
    | none => s
  if fallback then s.log 0x62 1 k (s.get R.MP_FW_VER_VER) else s

/-- The firmware of slot `k` starts. -/
def State.bootRun (s : State) (k : Nat) (trial fallback : Bool) : State :=
  let x := s.fwSlot k
  let s := ((s.put R.MP_STATUS_STATE 1).put R.MP_STATUS_SLOT k).put R.MP_STATUS_TRIAL (toBit trial)
  let s := ((s.put R.MP_STATUS_FALLBACK (toBit fallback)).put R.MP_FW_VER_VER (x.num 8)).put R.MP_FW_SVN_IMG (x.num 12)
  let s := { s with mgmt := { s.mgmt with boots := (s.mgmt.boots + 1) % 65536, build := s.drawn }, drawn := s.drawn + 2 }
  (s.logStart.bootLog k fallback).logSeen

/-! Sensors (R418, R419) -/

/-- The nominal of SMON_k in mV (Table 16.3). -/
def State.nominal (s : State) (k : Nat) : Nat := if k = 4 then s.mgmt.smon4.getD 1800 else ([900, 800, 900, 1800, 1800, 500, 1100, 5000][k]?).getD 1800

/-- Whether a sensor stands on the A-die (R418): DTS_5 to DTS_7, and the monitors of the A-die's supplies. -/
def onADie (supply : Bool) (k : Nat) : Bool := if supply then decide (6 ≤ k) else decide (5 ≤ k)

/-- TEMP[k] or SUPPLY[k] as it reads: an A-die reading is not valid while the link is not UP (R418). -/
def State.sensorRead (s : State) (supply : Bool) (k : Nat) : Word :=
  let w := s.rd (if supply then R.MP_SUPPLY k else R.MP_TEMP k)
  if onADie supply k && !s.linkUp then w &&& 0xFFFEFFFF else w

/-- A reading's distance beyond a threshold less `inside`, at least 0 where it breaches: `b` is a bit number of ALARM_STATUS. -/
def State.beyond (s : State) (b : Nat) (r : Int) (inside : Int) : Int :=
  let k := b % 8
  if b < 16 then
    let t := sgn 8 (s.get (if b < 8 then R.MP_TEMP_THR_WARN k else R.MP_TEMP_THR_ALARM k))
    r - 8 * (t - inside)
  else
    let n : Int := s.nominal k
    let t : Int := s.get (if b < 24 then R.MP_SUPPLY_THR_WARN k else R.MP_SUPPLY_THR_ALARM k)
    ((r - n).natAbs : Int) * 1000 - (t - inside) * n

/-- One bit of ALARM_STATUS takes a valid reading (R419). -/
def State.alarmBit (s : State) (b : Nat) (r : Int) : State :=
  let f : Field := ⟨R.MP_ALARM_STATUS, b, b⟩
  let k := b % 8
  let up := if 0 ≤ s.beyond b r 0 then look 0 s.mgmt.breach b + 1 else 0
  let dn := if s.beyond b r (if b < 16 then 2 else 10) ≤ 0 then look 0 s.mgmt.clear b + 1 else 0
  let s := { s with mgmt := { s.mgmt with breach := upd s.mgmt.breach b (min up 2), clear := upd s.mgmt.clear b (min dn 2) } }
  let w := (BitVec.ofInt 32 r).toNat
  if !s.flag f && decide (2 ≤ up) then ((s.raise f).mpEvent (8 + b / 8)).log (0x10 + b / 8) (1 + b / 8 % 2) k w
  else if s.flag f && decide (2 ≤ dn) then (s.clr f).log 0x14 0 (b / 16 * 256 + k) w
  else s

/-- One sensor takes its reading: WARN and ALARM. -/
def State.sensorTake (s : State) (supply : Bool) (k : Nat) (r : BitVec 16) : State :=
  let v := if supply then R.MP_SUPPLY_VALID k else R.MP_TEMP_VALID k
  if onADie supply k && !s.linkUp then
    let bits := if supply then [16 + k, 24 + k] else [k, 8 + k]
    { s.clr v with mgmt := { s.mgmt with breach := s.mgmt.breach.filter (fun e => !bits.contains e.1) } }
  else
    let s := if supply && k == 4 && s.mgmt.smon4.isNone then
        { s with mgmt := { s.mgmt with smon4 := some (if r.toNat ≤ 2550 then 1800 else 3300) } } else s
    let s := (s.put (if supply then R.MP_SUPPLY_V k else R.MP_TEMP_T k) r.toNat).raise v
    let x : Int := if supply then (r.toNat : Int) else r.toInt
    if supply then (s.alarmBit (16 + k) x).alarmBit (24 + k) x else (s.alarmBit k x).alarmBit (8 + k) x

/-- The poll every 10 ms (R418). -/
def State.sensorPoll (s : State) (temps supplies : List (BitVec 16)) : State :=
  if s.mpRuns then
    let s := (temps.take 8).zipIdx.foldl (fun s (e : BitVec 16 × Nat) => s.sensorTake false e.2 e.1) s
    (supplies.take 8).zipIdx.foldl (fun s (e : BitVec 16 × Nat) => s.sensorTake true e.2 e.1) s
  else s

/-! GPIO (R422, R423) -/

def State.pin (s : State) (n : Nat) : GpioPin := look {} s.mgmt.pins n

def State.setPin (s : State) (n : Nat) (p : GpioPin) : State := { s with mgmt := { s.mgmt with pins := upd s.mgmt.pins n p } }

/-- DIR 0 and 3 are inputs. -/
def State.pinIn (s : State) (n : Nat) : Bool := let d := s.get (R.MP_GPIO_CFG_DIR n); d == 0 || d == 3

/-- The debounced active state of a pin (R422). -/
def State.pinActive (s : State) (n : Nat) : Bool := (s.pin n).settled != s.flag (R.MP_GPIO_CFG_POL n)

/-- The level that an output drives; none for an input and for a released open-drain output (R422). -/
def State.pinDrive (s : State) (n : Nat) : Option Bool :=
  let o := s.get (R.MP_GPIO_CFG_OSRC n)
  let v := if s.get (R.MP_GPIO_CFG_DIR n) = 1 then (s.rd R.MP_GPIO_OUT).toNat.testBit n
    else if o = 0 then s.owns
    else if o = 1 then s.rd R.MP_ALARM_STATUS != 0
    else if o = 2 then s.on .clk && s.get R.VET_STATUS_STATE == 2
    else if o = 3 then s.flag R.TWIN_STATUS_IMG_VALID
    else false
  let v := v != s.flag (R.MP_GPIO_CFG_POL n)
  if s.pinIn n || (v && s.flag (R.MP_GPIO_CFG_OD n)) then none else some v

/-- GPIO_IN (R422). -/
def State.gpioIn (s : State) : Word :=
  BitVec.ofNat 32 ((List.range 16).foldl (fun a n =>
    a + toBit ((s.pinDrive n).getD (s.pin n).level) * 2 ^ n + toBit (s.pinActive n) * 2 ^ (16 + n)) 0)

/-- GPIO_EVT is set while the FIFO holds an entry (R423). -/
def State.gpioEvtShow (s : State) : State := s.put (R.MP_EVENT_EVENT.bit 16) (toBit (!s.mgmt.evts.isEmpty))

/-- The interrupt handler pushes a timestamp: `t` is media time on its entry in whole nanoseconds (R423). -/
def State.gpioStamp (s : State) (n : Nat) (edge : Bool) (t : Nat) : State :=
  if 32 ≤ s.mgmt.evts.length then { s.mpEvent 17 with mgmt := { s.mgmt with lost := true } }
  else
    let e : GpioEvt := { pin := n, edge, ns := t - s.get (R.MP_GPIO_CFG_DEB n) * 100000, lost := s.mgmt.lost }
    ({ s with mgmt := { s.mgmt with evts := s.mgmt.evts ++ [e], lost := false } }).gpioEvtShow

/-- The count of coalesced changes of a pin (R422). -/
def gpioOvf (n : Nat) : Field := ⟨R.MP_OVF (n / 2), 16 * (n % 2) + 15, 16 * (n % 2)⟩

/-- EVT_INFO of the head entry, and the head's nanoseconds. -/
def State.gpioHead (s : State) : Word × Word :=
  match s.mgmt.evts.head? with
  | some e =>
    let sec := e.ns / 1000000000
    (BitVec.ofNat 32 (e.ns % 1000000000),
      BitVec.ofNat 32 (sec % 65536 + e.pin * 2 ^ 16 + toBit e.edge * 2 ^ 20 + 2 ^ 21 + toBit e.lost * 2 ^ 22))
  | none => (0, 0)

/-- The head entry is removed. -/
def State.gpioPop (s : State) : State := ({ s with mgmt := { s.mgmt with evts := s.mgmt.evts.tail } }).gpioEvtShow

def execMbGetInfo (p : Fin 4) (w : BitVec 32) (s : State) : Result :=
  finish (s.hostPut (R.MP_MB_CMD) (R.MP_MB_CMD_OP.inWord w 1) (fun s => s.mbCmdWrite p (R.MP_MB_CMD_OP.inWord w 1)))
def execMbLogRead (p : Fin 4) (w : BitVec 32) (s : State) : Result :=
  finish (s.hostPut (R.MP_MB_CMD) (R.MP_MB_CMD_OP.inWord w 2) (fun s => s.mbCmdWrite p (R.MP_MB_CMD_OP.inWord w 2)))
def execMbLogMark (p : Fin 4) (w : BitVec 32) (s : State) : Result :=
  finish (s.hostPut (R.MP_MB_CMD) (R.MP_MB_CMD_OP.inWord w 3) (fun s => s.mbCmdWrite p (R.MP_MB_CMD_OP.inWord w 3)))
def execMbFwBegin (p : Fin 4) (w : BitVec 32) (s : State) : Result :=
  finish (s.hostPut (R.MP_MB_CMD) (R.MP_MB_CMD_OP.inWord w 0x10) (fun s => s.mbCmdWrite p (R.MP_MB_CMD_OP.inWord w 0x10)))
def execMbFwWrite (p : Fin 4) (w : BitVec 32) (s : State) : Result :=
  finish (s.hostPut (R.MP_MB_CMD) (R.MP_MB_CMD_OP.inWord w 0x11) (fun s => s.mbCmdWrite p (R.MP_MB_CMD_OP.inWord w 0x11)))
def execMbFwVerify (p : Fin 4) (w : BitVec 32) (s : State) : Result :=
  finish (s.hostPut (R.MP_MB_CMD) (R.MP_MB_CMD_OP.inWord w 0x12) (fun s => s.mbCmdWrite p (R.MP_MB_CMD_OP.inWord w 0x12)))
def execMbFwActivate (p : Fin 4) (w : BitVec 32) (s : State) : Result :=
  finish (s.hostPut (R.MP_MB_CMD) (R.MP_MB_CMD_OP.inWord w 0x13) (fun s => s.mbCmdWrite p (R.MP_MB_CMD_OP.inWord w 0x13)))
def execMbFwConfirm (p : Fin 4) (w : BitVec 32) (s : State) : Result :=
  finish (s.hostPut (R.MP_MB_CMD) (R.MP_MB_CMD_OP.inWord w 0x14) (fun s => s.mbCmdWrite p (R.MP_MB_CMD_OP.inWord w 0x14)))
def execMbUnknownOp (p : Fin 4) (w : BitVec 32) (s : State) : Result :=
  finish (if mbOps.contains (R.MP_MB_CMD_OP.ofWord w) then s else s.hostPut R.MP_MB_CMD w (fun s => s.mbCmdWrite p w))
def execMpHalt (w : BitVec 32) (s : State) : Result :=
  finish (s.hostPut (R.MP_CTRL) (R.MP_CTRL_HALT.inWord w 1) (fun s => s.mpCtrlWrite (R.MP_CTRL_HALT.inWord w 1)))
def execMpRestart (w : BitVec 32) (s : State) : Result :=
  finish (s.hostPut (R.MP_CTRL) (R.MP_CTRL_RESTART.inWord w 1) (fun s => s.mpCtrlWrite (R.MP_CTRL_RESTART.inWord w 1)))
def execMpWatchdogExpire (pc : BitVec 32) (s : State) : Result := finish (s.mpWatchdog pc)
def execSensorPoll (temps supplies : List (BitVec 16)) (s : State) : Result := finish (s.sensorPoll temps supplies)
def execLogFlashCopy (s : State) : Result := finish s.logCopy
def execFuseProg (p : Fin 4) (w : BitVec 32) (s : State) : Result :=
  finish (s.hostPut (R.FUSE_PROG) w (fun s => s.fuseProgWrite p w))
def execFuseProgDone (bad : BitVec 32) (s : State) : Result := finish (s.fuseDone bad)
def execFuseLock (w : BitVec 32) (s : State) : Result :=
  finish (s.hostPut (R.FUSE_LOCK) w (fun s => s.fuseLockWrite w))

end Sys2Proof.Machine
end

