-- ==== Sys2Proof/Machine/Reset.lean ====
section
/-!
DEFINITION. Resets (chapter 17): what each one returns to its reset value and what it keeps (Tables 17.1 and 17.3).
-/
namespace Sys2Proof.Machine

/-- The strap word that SYS.STRAPS shows (Table 2.13). -/
def strapWord (hostSel twinPref : Bool) (bootSrc : Nat) : Word :=
  BitVec.ofNat 32 (toBit hostSel + bootSrc % 4 * 2 + toBit twinPref * 8)

/-- The fuses, loaded afresh; a bit that was being programmed is either blown or not (R443, R451). -/
def State.fuseReload (s : State) : State :=
  s.mgmt.fusing.foldl (fun s (e : Nat × Word) =>
    let (k, s) := s.draw
    s.blow e.1 (e.2 &&& Config.freeWord k)) s

/-- The flash ring after a power loss: the entry that was being copied to it, if any, may stand there with a bad CRC (R420). Whether it does
is free. -/
def State.tornFlash (s : State) : List LogEntry :=
  match s.mgmt.ring[s.mgmt.uncopied - 1]? with
  | some e => if 0 < s.mgmt.uncopied ∧ Config.freeNat s.drawn % 2 = 1 then { e with good := false } :: s.mgmt.flash else s.mgmt.flash
  | none => s.mgmt.flash

/-- What a device reset keeps of the management processor's records: the flash, the RAM ring but for a power-on reset, and the
levels of the GPIO pins (Table 17.3, R420). -/
def State.mgmtKept (s : State) (por : Bool) : MgmtSt :=
  { ring := if por then [] else s.mgmt.ring, flash := if por then s.tornFlash else s.mgmt.flash, uncopied := if por then 0 else s.mgmt.uncopied
    gap := por || s.mgmt.gap, boots := s.mgmt.boots, slotA := s.mgmt.slotA, slotB := s.mgmt.slotB
    boot0 := s.mgmt.boot0, boot1 := s.mgmt.boot1, svnDue := s.mgmt.svnDue, recovery := bitsOf (s.rd R.SYS_STRAPS).toNat 2 1 == 1
    pins := s.mgmt.pins.map (fun e => (e.1, { e.2 with settled := e.2.level, running := false })) }

/-- A device reset (R443, R444, R451): every domain, both dies and the Stalk link. The straps have been sampled into `straps`;
`cause` is what SYS.RESET_CAUSE holds afterwards. -/
def State.fresh (s : State) (straps cause : Word) (por : Bool) : State :=
  let s := s.fuseReload
  let fuses := s.regs.filter (fun c => decide (R.FUSE_WORD 0 ≤ c.1) && decide (c.1 < R.FUSE_WORD 64))
  let ids := s.rd (R.FUSE_WORD 5)
  let ownIn := s.get R.TWIN_STATUS_OWN_IN
  let t : State :=
    { regs := fuses, drawn := s.drawn, out := s.clkPinsLow.out, pending := s.pending
      pins := { s.pins with irqLow := false, inReset := false, aReleased := false }
      host := { subsystem := if ids = 0 then 0x10241F8C else ids }
      syn := { xoOk := s.syn.xoOk, oscOk := s.syn.oscOk }
      net := { a := { los := s.net.a.los }, b := { los := s.net.b.los } } }
  let t := ((t.wr R.SYS_STRAPS straps).wr R.SYS_RESET_CAUSE cause).put R.TWIN_STATUS_OWN_IN ownIn
  let t := { t with mgmt := { s with regs := t.regs }.mgmtKept por }
  t.put R.TWIN_STATUS_PREF (toBit t.preferred)

/-- VDD_AON or VDD_D falls below 85 % of nominal: the whole device is held in reset (R441). -/
def State.powerOn (s : State) : State :=
  let t := s.fresh 0 1 true
  { t with pins := { t.pins with inReset := true } }

/-- A device reset that sets bit `b` of SYS.RESET_CAUSE and samples `straps` at its release (R443, R444). -/
def State.deviceRst (s : State) (b : Nat) (straps : Word) : State :=
  if s.pins.inReset then s
  else s.fresh straps (s.rd R.SYS_RESET_CAUSE ||| BitVec.ofNat 32 (2 ^ b)) false

/-- A device reset by SYS.RESET_CTRL.DEVICE. What the board drives on the straps at its release, or what a floating strap samples, is
free (R444, R467; log entry 332). -/
def State.deviceRstFree (s : State) : State :=
  if s.pins.inReset then s
  else ({ s with drawn := s.drawn + 1 }).deviceRst 3 (BitVec.ofNat 32 (Config.freeNat s.drawn % 16))

/-- The power-on reset releases (R441). -/
def State.powerOnDone (s : State) (straps : Word) : State :=
  if s.pins.inReset then s.fresh straps (s.rd R.SYS_RESET_CAUSE) true else s

/-- The A-die leaves reset, and the link trains (R443, R445). -/
def State.aDieRelease (s : State) : State :=
  if s.pins.inReset || s.pins.aReleased then s
  else { s with pins := { s.pins with aReleased := true } }.setLinkState 1

/-- A warm reset acts (R449, R450): the domains of 0xFAFC, issued together. -/
def State.warmAct (s : State) : State :=
  let s := { s with host := { s.host with warmPending := false } }
  let s := (s.raise ⟨R.SYS_RESET_CAUSE, 4, 4⟩).twinWarm
  s.domainsReset 0xFAFC

/-- Whether a domain transition or a domain reset is in progress. -/
def State.domBusy (s : State) : Bool := !s.pwr.moves.isEmpty || s.rd R.PWR_DOMAIN_RST != 0

/-- WARM, which waits for transitions and domain resets in progress (R449). -/
def State.warm (s : State) : State :=
  if s.pins.inReset then s
  else if s.domBusy then { s with host := { s.host with warmPending := true } } else s.warmAct

/-- A transition or a reset has ended: a warm reset that waited acts. -/
def State.warmCheck (s : State) : State := if s.host.warmPending && !s.domBusy then s.warmAct else s

/-- A write of SYS.RESET_CTRL once its guard has passed: DEVICE takes precedence (R443, R449). -/
def State.resetCtrlWrite (s : State) (w : Word) : State :=
  if w.toNat.testBit 0 then s.deviceRstFree else if w.toNat.testBit 1 then s.warm else s

/-- A HOST reset (R452): the DMA channels, the MSI-X table and the quad-SPI target; `linkDown` where the PCIe link went down. -/
def State.hostRst (s : State) (linkDown : Bool) : State :=
  if s.pins.inReset then s else
  let s := forN 8 (fun c s => s.dmaAbort c) s
  let s := (s.abortReached 8).clearDomain 8
  let s := { s with silos := { s.silos with dma := [] }
                    host := { s.host with qspi := .idle, pba := 0, msixMasked := false, mps := 128, mrrs := 512 } }
  let s := (s.clr R.SYS_PCIE_STATUS_BME).clr R.SYS_PCIE_STATUS_DSTATE
  let s := if linkDown then ((s.clr R.SYS_PCIE_STATUS_LINK_UP).clr R.SYS_PCIE_STATUS_SPEED).clr R.SYS_PCIE_STATUS_WIDTH else s
  s.raise ⟨R.SYS_RESET_CAUSE, 2, 2⟩

def execPowerOnReset (s : State) : Result := finish s.powerOn
def execPowerOnResetRelease (hostSel twinPref : Bool) (bootSrc : BitVec 2) (s : State) : Result :=
  finish (s.powerOnDone (strapWord hostSel twinPref bootSrc.toNat))
def execRstNReset (hostSel twinPref : Bool) (bootSrc : BitVec 2) (s : State) : Result :=
  finish (s.deviceRst 1 (strapWord hostSel twinPref bootSrc.toNat))
def execDeviceReset (s : State) : Result := finish s.deviceRstFree
def execADieResetRelease (s : State) : Result := finish s.aDieRelease
end Sys2Proof.Machine
end

