-- ==== Sys2Proof/Machine/Frame.lean ====
section
/-!
DEFINITION. The media clock and the engine frame (R8, R99, R103), and audio over the Stalk link (R18).
-/
namespace Sys2Proof.Machine

/-! Audio over the Stalk link (R18): `frame` is the engine frame that has ended, by the low 9 bits of its index -/

/-- The samples of a channel that have arrived for a frame, by their places. -/
def arrived (l : List (Nat × Nat × Nat × BitVec 32)) (id frame : Nat) : List (Nat × BitVec 32) :=
  (l.filter (fun e => e.1 == id && e.2.2.1 == frame)).map (fun e => (e.2.1, e.2.2.2))

/-- A channel's samples of a frame of `len` samples, which are the last of its 8 places (R8); none where some have not arrived. -/
def wholeFrame (l : List (Nat × BitVec 32)) (len : Nat) : Option (List F32) :=
  ((List.range len).map (· + (8 - len))).mapM (fun j => (l.find? (fun e => e.1 == j)).map (fun e => flush32 e.2))

/-- A channel's samples in their 8 places, for flits: the places before a short frame carry zero. -/
def places (xs : List F32) : List F32 := let l := xs.take 8; List.replicate (8 - l.length) 0 ++ l

/-- A channel that is late, by its key in `late` and in the fast mutes: it fades to zero from `v`, and is counted. -/
def State.lateFade (s : State) (key : Nat) (v : F32) : State :=
  let s := if s.link.late.contains key then s else s.srcStopAt key v
  let s := { s with link := { s.link with late := addTo s.link.late key } }
  (s.count R.PWR_STALK_LATE_CNT_LATE_CNT).raise R.PWR_STALK_ERR_LATE

/-- A channel that is whole fades back in, where anything had stopped it (R18, R198). -/
def State.lateEnd (s : State) (key : Nat) : State :=
  { s.srcReturn key with link := { s.link with late := dropFrom s.link.late key } }

/-- An input's channel at the D-die: what has arrived of the ended frame is presented where it is whole; `v` is the last sample
presented, `was` the ended frame's length. -/
def State.crossIn (s : State) (i frame was : Nat) (v : F32) : State :=
  let id := 1424 + i
  if s.ainState i = 2 then
    match wholeFrame (arrived s.link.d.audio id frame) was with
    | some xs => (s.present id ((places xs).drop (8 - s.audio.len))).lateEnd id
    | none => s.lateFade id v
  else s

/-- Whether the A-die drives the output of a sink: an output that is STARTING, RUNNING or STOPPING, or a channel that switches. -/
def State.sinkLive (s : State) (id : Nat) : Bool :=
  if id < 1440 then (let v := s.outState (id - 1424); v == 3 || v == 4 || v == 5)
  else if id < 1444 then (let v := s.outState (16 + (id - 1440) / 2); v == 3 || v == 4 || v == 5)
  else switching (s.psState (id - 1444))

/-- An output's channel at the A-die for the frame that begins: the samples that have arrived of the ended frame, or, where an output
that the A-die drives is late, the fade from the last good sample (R18). -/
def State.crossOut (s : State) (id frame : Nat) : State :=
  let key := 4096 + id
  let v := ((s.sinkThere id).getLast?).getD 0
  let give (s : State) (xs : List F32) : State := { s with audio := { s.audio with held := upd s.audio.held id xs } }
  let live := s.sinkLive id
  let s := match wholeFrame (arrived s.link.a.audio id frame) s.audio.len with
    | some xs => let s := give s (places xs); if live then s.lateEnd key else s
    | none => let s := give s (List.replicate 8 0); if live then s.lateFade key v else s
  match s.route.muted.find? (fun e => e.1 == key) with
  | some (_, m) =>
    let r := muteRun (look [] s.audio.held id) (some m)
    let muted := match r.2 with
      | some m => upd s.route.muted key m
      | none => del s.route.muted key
    give { s with route := { s.route with muted } } r.1
  | none => s

/-- The audio flits of the frame that has ended (R16 to R18): the D-die sends its 24 sinks, the A-die its 16 inputs. They are
recorded at the frame's end, whenever in it they left (log entry 61). During a retrain they wait (R19). -/
def State.sendFrameAudio (s : State) (frame : Nat) : State :=
  if s.linkState == 2 || s.linkState == 3 then
    let outs := (List.range 24).flatMap (fun k => places (s.sinkNow (1424 + k)))
    let ins := (List.range 16).flatMap (fun i => places (look [] s.audio.ins i))
    State.sendAudio false 1424 frame 22 0 ins (State.sendAudio true 1424 frame 32 0 outs s)
  else s

/-- The samples of frame `frame` have been used at both ends. -/
def State.crossDone (s : State) (frame : Nat) : State :=
  let keep (l : List (Nat × Nat × Nat × BitVec 32)) := l.filter (fun e => e.2.2.1 != frame)
  { s with link := { s.link with
    d := { s.link.d with audio := keep s.link.d.audio }
    a := { s.link.a with audio := keep s.link.a.audio } } }

/-! The engine frame boundary (R8) -/

/-- The ended frame: lanes' outputs, the route fabric, and what leaves over the link for the A-die (R185, R215, R18). -/
def State.frameEnds (s : State) : State :=
  let frame := s.audio.first / 8 % 512
  let overruns := s.twinOverruns
  let s := ((s.lanesEnd).laneMutes.lanesHeard).routeFrame
  let s := { s with twin := { s.twin with
    overran := if s.twinOverruns != overruns then some 0 else s.twin.overran.map (· + 1) } }
  s.anaInputs.sendFrameAudio frame

/-- What the units do with the ended frame; then the A-die takes its sinks' samples for the frame that begins. -/
def State.frameUnits (s : State) : State :=
  let s := (((((s.siloBoundary).syncAtBoundary).flowsAtBoundary).anaOutputs).dpFrame.dpApply).psFrames
  forN 24 (fun k s => s.crossOut (1424 + k) (s.audio.first / 8 % 512)) s

/-- What takes effect at the boundary: the route commit with the lanes it frees, mutes, the common start, islands, lanes. -/
def State.frameTakes (s : State) : State :=
  let (swap, s) := s.commitApply
  let s := (((s.mutesAtBoundary).portsFire).portsAtBoundary).islBoundary
  let s := forN 32 (fun q s => s.dqBoundary q) s.xpsAdvance
  (forN 16 (fun n s => s.laneBoundary swap n) s).islCaps

/-- The frame that begins: receive flows, serial units and inputs present their samples (R168, R298, R327). -/
def State.frameBegins (s : State) : State :=
  let x := s.time.index
  let frame := s.audio.first / 8 % 512
  let old := s.audio.src
  let was := s.audio.len
  let s := { s with audio := { s.audio with first := x, len := 8 - x % 8, src := [] } }
  let s := (s.flowsPresent).portsPresent
  let s := forN 16 (fun i s => s.crossIn i frame was (((look [] old (1424 + i)).getLast?).getD 0)) s
  (s.crossDone frame).fastMutes

/-- The sample index reaches the start of an engine frame: everything that acts at a boundary acts, once. -/
def State.frame (s : State) : State :=
  if s.on .clk && s.atBoundary && !s.time.begun then
    let s := (s.realignTimed).realignApply.pulsesRise
    let s := s.frameEnds.frameUnits.frameTakes.frameBegins
    { s with time := { s.time with begun := true } }
  else s

/-- The media clock advances the count by one core sample (R99). It does not advance while CLK is off. The A-die, where it is out
of reset, sees the clock (R20). -/
def State.tick (s : State) : State :=
  if s.on .clk then
    let s := if s.link.mclk then s else s.setMclk true
    let s := { s with time := { s.time with index := (s.time.index + 1) % 2 ^ 64, shortFrame := false, begun := false } }
    ((((s.synTick).fwTick).slewTick).pulsesTick.wclkTick).portsTick s.time.index
  else s

/-- What acts at a boundary acts with everything else there: where the frame has not begun, it begins. -/
def State.withFrame (s : State) (f : State → State) : State := if s.atBoundary && !s.time.begun then s.frame else f s

/-- The commit acts, with the lanes that COMMIT.SWAP names (R188, R197). -/
def State.commitNow (s : State) : State :=
  s.withFrame (fun s =>
    let (swap, s) := s.commitApply
    forN 16 (fun n s => if swap.testBit n && s.domOn (laneDom n) then s.laneSwapRun n true else s) s)

/-- Committed direct path settings reach the A-die (R206). -/
def State.directNow (s : State) : State := s.withFrame (fun s => s.dpApply)

def execSampleTick (s : State) : Result := finish s.tick
def execDirectPathApply (s : State) : Result := finish s.directNow
def execRouteCommitApply (s : State) : Result := finish s.commitNow

end Sys2Proof.Machine
end

