-- ==== Sys2Proof/Machine/Access.lean ====
section
/-!
DEFINITION. Accesses of the host ports (chapter 2): which register an address names, what a read returns and does, and what a
write does: shapes, guarded pairs, bit aliases, A-die registers, interrupts and aborts.
-/
namespace Sys2Proof.Machine

/-! Addresses and shapes (R54 to R57, R64) -/

/-- An access that no address allows: unaligned, or with byte enables that are not contiguous (Table 2.7). Three contiguous
byte enables lie within one word. -/
def badShape (a : Nat) (size : AccessSize) (split : Bool) : Bool :=
  split || (match size with
    | .three => decide (1 < a % 4)
    | _ => a % accBytes size != 0)

/-- The guard twins, and the bit aliases (Table 2.6). -/
def inTwin (a : Nat) : Bool := decide (0x800000 ≤ a) && decide (a < 0x880000)

def inAlias (a : Nat) : Bool := decide (0xC00000 ≤ a) && decide (a < 0xE00000)

/-- The word and the bit that an alias word stands for (R64). -/
def aliasWord (a : Nat) : Nat := (a - 0xC00000) / 128 * 4

def aliasBit (a : Nat) : Nat := (a - 0xC00000) / 4 % 32

/-- The address an access acts on: the twinned register of a guard twin, the word of a bit alias. -/
def target (a : Nat) : Nat := if inAlias a then aliasWord a else if inTwin a then a - 0x800000 else a

/-- The guarded registers (Table 2.9). -/
def guardedRegs : List Nat :=
  [ R.SYS_CORE_RATE, R.SYS_RESET_CTRL, R.PWR_DOMAIN_REQ, R.PWR_DOMAIN_RST, R.PWR_STALK_CTRL, R.VET_LOOP_CTRL, R.VET_REALIGN
  , R.TWIN_CTRL, R.MP_CTRL, R.FUSE_PROG, R.FUSE_LOCK, R.MEM_CTRL, R.ANA_PHANTOM, R.PS_CTRL, R.PS_CLEAR ]

/-- Whether an address names a guarded register, an alias of one included (R63). -/
def isGuarded (a : Nat) : Bool := guardedRegs.contains (canon a)

/-- Whether the region an address names is accessible (R481). -/
def State.reachable (s : State) (a : Nat) : Bool := s.accessible (canon (target a))

/-- Whether an address names a region whose domain is off (R481): a guard twin or a bit alias follows the region it names. -/
def State.dark (s : State) (p a : Nat) : Bool := assigned p a && assigned p (target a) && !s.reachable a

/-- Whether a host port reaches the map: its strap, MP boot, the JTAG fuse (Table 2.1, R434). -/
def State.portOpen (s : State) (p : Nat) : Bool :=
  !s.pins.inReset &&
  (match p with
  | 0 => !s.flag R.SYS_STRAPS_HOST_SEL
  | 1 => s.flag R.SYS_STRAPS_HOST_SEL
  | 2 => s.mpRuns
  | _ => !s.closed 0)

/-! Errors (Table 2.15) -/

/-- A failed access. -/
def State.accessErr (s : State) (p a : Nat) (write : Bool) (cause : Nat) : State :=
  let s := if s.flag R.SYS_EVENT_ACCESS_ERR then s else
    (((s.put R.SYS_ERR_ADDR_ADDR a).put R.SYS_ERR_ADDR_PORT p).put R.SYS_ERR_ADDR_WRITE (toBit write)).put R.SYS_ERR_ADDR_CAUSE cause
  (s.raise R.SYS_EVENT_ACCESS_ERR).countSat R.SYS_ERR_CNT_ACCESS_CNT

/-- A failed pair (R62). -/
def State.guardErr (s : State) (p a cause : Nat) : State :=
  let s := if s.flag R.SYS_EVENT_GUARD_ERR then s else
    ((s.put R.SYS_GUARD_ADDR_ADDR a).put R.SYS_GUARD_ADDR_PORT p).put R.SYS_GUARD_ADDR_CAUSE cause
  (s.raise R.SYS_EVENT_GUARD_ERR).countSat R.SYS_ERR_CNT_GUARD_CNT

/-! What a word holds: without side effects (R403) -/

/-- The events of a block with their enables. -/
def State.evented (s : State) (ev en : Nat) : Bool := s.rd ev &&& s.rd en != 0

/-- One bit for each index below `n`. -/
def bitSet (n : Nat) (p : Nat → Bool) : Word := BitVec.ofNat 32 ((List.range n).foldl (fun a k => if p k then a + 2 ^ k else a) 0)

/-- The age of the oldest STAMP in milliseconds, STAMPs counting engine frames modulo 2^32 (R406). -/
def State.imageAge (s : State) : Nat :=
  let now := s.time.index / 8
  let age (st : Nat) : Nat := (now + 2 ^ 32 - st % 2 ^ 32) % 2 ^ 32 * 8000 / s.rate
  let l : List Nat := if s.twinState = 3 ∨ s.twinState = 6 then s.twin.store.map (fun (p : List Word) => ((p[2]?).getD 0).toNat)
    else s.twin.unacked.map (·.2)
  min 0xFFFF (l.foldl (fun m st => max m (age st)) 0)

/-- Registers of SYS, TWIN, MP and FUSE that show what lies elsewhere. -/
def State.shownAon (s : State) (a : Nat) : Option Word :=
  if a = R.SYS_IRQ_RAW_LO then some (BitVec.ofNat 32 s.raw)
  else if a = R.SYS_IRQ_RAW_HI then some (BitVec.ofNat 32 (s.raw / 2 ^ 32))
  else if a = R.TWIN_HEALTH then some (R.TWIN_HEALTH_OWN.inWord (s.rd a) s.health)
  else if a = R.TWIN_IMG_STATUS then some (R.TWIN_IMG_STATUS_AGE.inWord (s.rd a) s.imageAge)
  else if R.MP_TEMP 0 ≤ a ∧ a ≤ R.MP_TEMP 7 then some (s.sensorRead false ((a - R.MP_TEMP 0) / 4))
  else if R.MP_SUPPLY 0 ≤ a ∧ a ≤ R.MP_SUPPLY 7 then some (s.sensorRead true ((a - R.MP_SUPPLY 0) / 4))
  else if a = R.MP_FW_SVN then some (R.MP_FW_SVN_FUSE.inWord (s.rd a) s.fuseSvn)
  else if R.MP_LOG_DATA 0 ≤ a ∧ a ≤ R.MP_LOG_DATA 7 then some (s.logData ((a - R.MP_LOG_DATA 0) / 4))
  else if a = R.MP_GPIO_IN then some s.gpioIn
  else if a = R.MP_EVT_NS then some s.gpioHead.1
  else if a = R.MP_EVT_INFO then some s.gpioHead.2
  else if 0x1284 ≤ a ∧ a < 0x12C0 ∧ a % 16 = 4 then
    let i := (a - 0x1104) / 16
    some ((R.ISL_STATUS_CUR_FREQ i).inWord (s.rd a) (s.aIslandFreq i))
  else if a = R.FUSE_LOCK then some ((s.rd (R.FUSE_WORD 24) &&& 7) ||| (s.rd (R.FUSE_WORD 25) &&& 0x78))
  else if a = R.FUSE_STATUS then some (R.FUSE_STATUS_OPEN.inWord (s.rd a) (toBit (!s.keySet 0 && !s.keySet 1)))
  else none

/-- Registers of the other D-die blocks that show what lies elsewhere. -/
def State.shownD (s : State) (a : Nat) : Option Word :=
  if a = R.NET_TXTS_NS 0 ∨ a = R.NET_TXTS_NS 1 then some (s.txtsRead ((a - R.NET_TXTS_NS 0) / 0x4000)).1
  else if a = R.NET_TXTS_INFO 0 ∨ a = R.NET_TXTS_INFO 1 then some (s.txtsRead ((a - R.NET_TXTS_INFO 0) / 0x4000)).2.1
  else if a = R.PORT_START_STATUS then some (R.PORT_START_STATUS_MEMBERS.inWord (s.rd a) s.members)
  else if 0x58000 ≤ a ∧ a < 0x58200 ∧ a % 64 = 0x18 then some (s.dmaStatus ((a - 0x58000) / 64))
  else if 0x58000 ≤ a ∧ a < 0x58200 ∧ a % 64 = 0x14 then some (s.dmaDoneRead ((a - 0x58000) / 64)).1
  else if a = R.SILO_EVT_SUM_LO then some (BitVec.ofNat 32 s.siloEventSum)
  else if a = R.SILO_EVT_SUM_HI then some (BitVec.ofNat 32 (s.siloEventSum / 2 ^ 32))
  else if a = R.MSIX_PBA 0 then some (BitVec.ofNat 32 s.host.pba)
  else if a = R.MSIX_PBA 1 then some (BitVec.ofNat 32 (s.host.pba / 2 ^ 32))
  else if a = R.SPELT_FUSE_VIEW then some ((s.rd (R.FUSE_WORD 24) >>> 1) &&& 3)
  else if 0x101000 ≤ a ∧ a < 0x102000 ∧ a % 256 = 0x44 ∧ s.dbgOff then some 0
  else if 0x108000 ≤ a ∧ a < 0x110000 then some (s.regsRead ((a - 0x108000) / 0x800) (a % 0x800))
  else none

/-- Summary registers of the A-die. -/
def State.shownA (s : State) (a : Nat) : Option Word :=
  if a = R.ANA_IN_SUM then some (bitSet 16 (fun i => s.evented (R.ANA_IN_EVENT i) (R.ANA_IN_EVENT_EN i)))
  else if a = R.ANA_OUT_SUM then some (bitSet 18 (fun n => s.evented (R.ANA_O_EVENT n) (R.ANA_O_EVENT_EN n)))
  else if a = R.PS_SUM then
    some (bitSet 5 (fun p => if p = 4 then s.evented R.PS_EVENT R.PS_EVENT_EN else s.evented (R.PSC_EVENT p) (R.PSC_EVENT_EN p)))
  else if a = R.MCV_SUM then
    some (bitSet 5 (fun c => if c = 4 then s.evented R.MCV_EVENT R.MCV_EVENT_EN else s.evented (R.MCVC_EVENT c) (R.MCVC_EVENT_EN c)))
  else none

/-- The word at a canonical address, its WO fields reading 0 (R57), without side effects. -/
def State.peek (s : State) (a : Nat) : Word :=
  match (if a < 0x10000 then s.shownAon a else if isAna a then s.shownA a else s.shownD a) with
  | some w => w
  | none =>
    match rowOf a with
    | some d => s.rd a &&& ~~~(BitVec.ofNat 32 d.wo)
    | none => s.rd a

/-! What a write does -/

/-- A write that does nothing but store: RW fields take the value, a 1 clears a W1C bit, the rest is ignored (Table 0.4, R57). Reserved bits keep
their reset value (log entry 267). -/
def State.plainWrite (s : State) (a : Nat) (w : Word) : State :=
  match rowOf a with
  | some d =>
    let rw := BitVec.ofNat 32 (d.rw ||| d.rwg)
    s.wr a (((s.rd a &&& ~~~rw) ||| (w &&& rw)) &&& ~~~(w &&& BitVec.ofNat 32 d.w1c))
  | none => s

/-- A write of SYS.IRQ_ACK: the vector's message is sent again while it is still active (R70). -/
def State.irqAck (s : State) (w : Word) : State :=
  let v := R.SYS_IRQ_ACK_VECTOR.ofWord w
  if s.activeVectors.testBit v then s.sendVector v else s

/-- Pending bits of vectors that are not masked are sent (R70). -/
def State.msixRelease (s : State) : State :=
  forN 64 (fun v s =>
    if s.host.pba.testBit v && !s.vectorMasked v then
      { s.sendVector v with host := { s.host with pba := s.host.pba &&& (2 ^ 64 - 1 - 2 ^ v) } }
    else s) s

/-- The RW mask of a register. -/
def rwMask (a : Nat) : Word := ((rowOf a).map (fun d => BitVec.ofNat 32 d.rw)).getD 0

def State.writeSys (s : State) (a : Nat) (w : Word) : State :=
  if a = R.SYS_CORE_RATE then s.coreRateWrite w
  else if a = R.SYS_RESET_CTRL then s.resetCtrlWrite w
  else if a = R.SYS_ABORT then
    s.abortWrite (R.SYS_ABORT_CLASS.ofWord w) (R.SYS_ABORT_ALL.ofWord w == 1) (R.SYS_ABORT_INDEX.ofWord w)
  else if a = R.SYS_IRQ_ACK then s.irqAck w
  else s.plainWrite a w

def State.writePwr (s : State) (a : Nat) (w : Word) : State :=
  if a = R.PWR_DOMAIN_REQ then s.twinLinks (s.domainReqWrite w)
  else if a = R.PWR_DOMAIN_RST then s.twinLinks (s.domainsReset w.toNat)
  else if a = R.PWR_STALK_CTRL then s.stalkCtrlWrite w
  else if 0x1180 ≤ a ∧ a < 0x1280 ∧ a % 8 = 0 then s.islWrite ((a - 0x1180) / 16) (a % 16 == 8) w
  else s.plainWrite a w

def State.writeVet (s : State) (a : Nat) (w : Word) : State :=
  if a = R.VET_CTRL then s.vetCtrlWrite w
  else if a = R.VET_LOOP_CTRL then s.loopCtrlWrite w
  else if a = R.VET_REALIGN then s.realignWrite w
  else if a = R.VET_FREE_WORD then s.freeWordWrite w
  else if a = R.VET_HOST_WORD then s.hostWordWrite w
  else if a = R.VET_PULSE_CFG then s.pulseCfgWrite w
  else if a = R.VET_SNAP then (if w.toNat.testBit 0 then s.snap else s)
  else if 0x2100 ≤ a ∧ a < 0x2200 ∧ a % 32 < 12 then s.refWrite ((a - 0x2100) / 32) (a % 32 / 4) w
  else s.plainWrite a w

def State.writeSyn (s : State) (a : Nat) (w : Word) : State :=
  if a = R.SYN_OSC_CFG then s.oscCfgWrite w
  else if a = R.SYN_ADPLL1_CTRL then s.adpll1Write w
  else if a = R.SYN_SYNC_CTRL then s.syncCtrlWrite w
  else if 0x3100 ≤ a ∧ a < 0x31C0 then
    let n := (a - 0x3100) / 16
    match a % 16 with
    | 0 => s.ckCfgWrite n w
    | 4 => s.ckDivWrite n w
    | 8 => s.ckDelayWrite n w
    | _ => s
  else s.plainWrite a w

/-- REGION writes are ignored and set CFG_REFUSED unless MODE is SOLO (R402). -/
def State.writeTwin (s : State) (a : Nat) (w : Word) : State :=
  if a = R.TWIN_CTRL then s.twinCtrlWrite w
  else if 0x4100 ≤ a ∧ a < 0x4200 then
    if s.get R.TWIN_CTRL_MODE = 1 then s.twinEvent 9
    else s.plainWrite a (if a % 8 = 0 then w &&& 0x03FFFFFC else w)
  else (s.plainWrite a w).twinCheck

/-- MB_ARG and XFER are locked while a command runs (R416). -/
def State.writeMp (s : State) (p a : Nat) (w : Word) : State :=
  if a = R.MP_CTRL then s.mpCtrlWrite w
  else if a = R.MP_MB_CMD then s.mbCmdWrite p w
  else if (R.MP_MB_ARG 0 ≤ a ∧ a ≤ R.MP_MB_ARG 15) ∨ (R.MP_XFER 0 ≤ a ∧ a ≤ R.MP_XFER 511) then
    (if s.flag R.MP_MB_STATUS_BUSY then s.mbRefuse else s.plainWrite a w)
  else if a = R.MP_EVENT then (s.plainWrite a w).gpioEvtShow
  else s.plainWrite a w

def State.writeFuse (s : State) (p a : Nat) (w : Word) : State :=
  if a = R.FUSE_PROG then s.fuseProgWrite p w
  else if a = R.FUSE_LOCK then s.fuseLockWrite w
  else s.plainWrite a w

def State.writeNet (s : State) (a : Nat) (w : Word) : State :=
  if a < 0x18000 then
    let x := (a - 0x10000) / 0x4000
    if a = R.NET_CTRL x then (s.netCtrlWrite x w).twinCheck
    else if a = R.NET_PTP_CFG x then s.ptpCfgWrite x w
    else if a = R.NET_PTP_RATES x then s.ptpRatesWrite x w
    else s.plainWrite a w
  else if a = R.NETC_HFP_CFG then s.hfpCfgWrite w
  else if a = R.NETC_IGMP_CMD then s.igmpCmd w
  else if a = R.NETC_MDIO_CMD then s.mdioWrite w
  else if 0x1A000 ≤ a ∧ a < 0x1C000 ∧ a % 16 < 12 then s.membWrite ((a - 0x1A000) / 16) a w
  else s.plainWrite a w

def State.writeFlow (s : State) (a : Nat) (w : Word) : State :=
  if a < 0x28000 then
    let tx := decide (0x24000 ≤ a)
    let n := a % 0x4000 / 64
    if a % 64 = 0x2C then s.flowCtrlWrite tx n w
    else if a % 64 < 0x2C then s.flowCfgWrite tx n a w (rwMask a)
    else s.plainWrite a w
  else if a = R.FLOW_RXDRAM_BASE ∨ a = R.FLOW_RXDRAM_SIZE then s.rxdramWrite a w (rwMask a)
  else if a = R.FLOW_CS_CAP then s.csCapWrite w
  else s.plainWrite a w

def State.writeRoute (s : State) (a : Nat) (w : Word) : State :=
  if a = R.ROUTE_COMMIT then s.commitWrite w
  else if a = R.ROUTE_MUTE_SET then s.muteWrite (w.toNat % 4096) true
  else if a = R.ROUTE_MUTE_CLR then s.muteWrite (w.toNat % 4096) false
  else if a = R.ROUTE_TONE then s.toneWrite w
  else s.plainWrite a w

/-- The serial unit whose registers hold address `a`, by its abort INDEX. -/
def unitOf (a : Nat) : Option Nat := (List.range 26).find? (fun n => R.portBase n ≤ a && a < R.portBase n + 0x200)

def State.writePort (s : State) (a : Nat) (w : Word) : State :=
  if a = R.PORT_START then s.startWrite w
  else
    match unitOf a with
    | some n =>
      if a = R.PORT_U_CTRL n then s.unitCtrlWrite n w
      else if a = cfgAddr n then s.unitCfgWrite n w (rwMask a)
      else if isMadi n && a == R.PORT_MADI_CS_CAP (n - 24) then s.madiCapWrite (n - 24) w
      else s.plainWrite a w
    | none => s.plainWrite a w

def State.writeSilo (s : State) (a : Nat) (w : Word) : State :=
  if a < 0x51000 then
    let n := (a - 0x50000) / 64
    if a % 64 < 0xC then s.siloCfgWrite n a w (rwMask a)
    else if a % 64 = 0xC then s.siloCtrlWrite n w
    else (s.plainWrite a w).siloShow n
  else if 0x58000 ≤ a ∧ a < 0x58200 ∧ a % 64 = 0x10 then s.dmaSubmit ((a - 0x58000) / 64) w
  else s.plainWrite a w

def State.writeMem (s : State) (a : Nat) (w : Word) : State :=
  if a = R.MEM_CTRL then s.memCtrlWrite w
  else if a = R.MEM_CFG then s.memCfgWrite w
  else s.plainWrite a w

/-- The line output (0 to 15) or headphone (16, 17) whose registers hold address `a`. -/
def outOf (a : Nat) : Option Nat :=
  if 0x72400 ≤ a ∧ a < 0x72600 then some ((a - 0x72400) / 32)
  else if 0x72800 ≤ a ∧ a < 0x72840 then some (16 + (a - 0x72800) / 32)
  else none

/-- A write that takes effect at the A-die. -/
def State.writeAna (s : State) (a : Nat) (w : Word) : State :=
  if a = R.ANA_PHANTOM then s.phantomWrite w
  else if 0x70400 ≤ a ∧ a < 0x70600 ∧ a % 32 = 0 then s.ainCfgWrite ((a - 0x70400) / 32) w
  else if R.ANA_MUTE 0 ≤ a ∧ a ≤ R.ANA_MUTE 3 then s.muteRegWrite ((a - R.ANA_MUTE 0) / 4) w
  else if a < 0x74000 then
    match outOf a with
    | some n =>
      if a = R.ANA_O_CTRL n then s.outCtrlWrite n w
      else if a = R.ANA_O_CFG n then s.outCfgWrite n w
      else s.plainWrite a w
    | none => s.plainWrite a w
  else if a = R.PS_CTRL then s.psEnWrite w
  else if a = R.PS_CLEAR then s.psClearWrite w
  else if a = R.PS_CFG then s.psCfgWrite w
  else if R.PS_AM 0 ≤ a ∧ a ≤ R.PS_AM 7 then s.amWrite ((a - R.PS_AM 0) / 4) w
  else if 0x74400 ≤ a ∧ a < 0x74800 ∧ a % 256 = 0 then s.psCtrlWrite ((a - 0x74400) / 256) w
  else if a = R.MCV_REF_CTRL then s.refCtrlWrite w
  else if a = R.MCV_OW_CTRL then s.owCtrlWrite w
  else if 0x76100 ≤ a ∧ a < 0x76300 ∧ a % 128 = 0 then s.mcvCtrlWrite ((a - 0x76100) / 128) w
  else if 0x76100 ≤ a ∧ a < 0x76300 ∧ a % 128 = 4 then s.mcvCfgWrite ((a - 0x76100) / 128) w
  else s.plainWrite a w

def State.writeMsix (s : State) (a : Nat) (w : Word) : State :=
  let s := s.plainWrite a w
  if a < 0x80400 ∧ a % 16 = 12 then s.msixRelease else s

/-- The debug registers of a lane are dead once SPELT_DBG_OFF is blown (R241). -/
def State.writeSpelt (s : State) (a : Nat) (w : Word) : State :=
  if 0x101000 ≤ a ∧ a < 0x102000 then
    let n := (a - 0x101000) / 256
    if a = R.LANE_CTRL n then s.laneCtrlWrite n w
    else if a = R.LANE_XP n then s.laneXpWrite n w
    else if a = R.LANE_DBG_CTRL n then s.dbgCtrlWrite n w
    else if R.LANE_BP n 0 ≤ a ∧ a ≤ R.LANE_BP n 3 then (if s.dbgOff then s else s.plainWrite a w)
    else s.plainWrite a w
  else if 0x103000 ≤ a ∧ a < 0x103400 then
    let q := (a - 0x103000) / 32
    match a % 32 with
    | 0 => s.dqCfgWrite q w
    | 4 => s.dqParamWrite q a w 0x7FFFFF
    | 8 => s.dqParamWrite q a w 0xFFFFF8
    | _ => s
  else if 0x104000 ≤ a ∧ a < 0x106000 then s.tapWrite ((a - 0x104000) / 256) (a % 256 / 4) w
  else if 0x108000 ≤ a ∧ a < 0x110000 then s.regsWrite ((a - 0x108000) / 0x800) (a % 0x800) w
  else if 0x110000 ≤ a ∧ a < 0x120000 then s.xpWrite ((a - 0x110000) / 4) w
  else s.plainWrite a w

/-- A write of word `w` from port `p` to the register, memory or window at canonical address `a` takes effect. -/
def State.regWrite (s : State) (p a : Nat) (w : Word) : State :=
  if a < 0x1000 then s.writeSys a w
  else if a < 0x2000 then s.writePwr a w
  else if a < 0x3000 then s.writeVet a w
  else if a < 0x4000 then s.writeSyn a w
  else if a < 0x5000 then s.writeTwin a w
  else if a < 0x6000 then s.writeMp p a w
  else if a < 0x7000 then s.writeFuse p a w
  else if a < 0x20000 then s.writeNet a w
  else if a < 0x30000 then s.writeFlow a w
  else if a < 0x40000 then s.writeRoute a w
  else if a < 0x50000 then s.writePort a w
  else if a < 0x60000 then s.writeSilo a w
  else if a < 0x70000 then s.writeMem a w
  else if a < 0x80000 then s.writeAna a w
  else if a < 0x90000 then s.writeMsix a w
  else if a < 0x200000 then s.writeSpelt a w
  else if a < 0x300000 then s.progWrite ((a - 0x200000) / 0x10000) (a % 0x10000) w
  else if a < 0x800000 then s.wr a w
  else if 0x900000 ≤ a ∧ a < 0x940000 then s.siloWindowWrite ((a - 0x900000) / 0x1000) (a % 0x1000) w
  else s

/-- A D-die write takes effect where its region is accessible (R481). -/
def State.dWrite (s : State) (p a : Nat) (w : Word) : State :=
  if s.accessible a then s.hostPut a w (fun s => s.regWrite p a w) else s

/-! A-die accesses (R23, R67) -/

/-- The register flit of an access: TYPE 2 for a write, 3 for a read request (Table 1.1). A D-die read has none. -/
def State.accFlit (s : State) (x : AnaAcc) : State :=
  if isAna x.addr then
    s.sendFlit true (if x.write then 2 else 3) (regTag x.port x.tag) 0 (regPayload x.addr x.data (accBytes x.size))
  else s

/-- The response flit of a read, with the same tag (Table 1.1). -/
def State.respFlit (s : State) (x : AnaAcc) (w : Word) : State :=
  s.sendFlit false 4 (regTag x.port x.tag) 0 (regPayload x.addr w (accBytes x.size))

/-- Whether an access of port `p` may be given to the link now: none of the port waits before it, and fewer than 32 writes of
the port are in flight where it is a write (R67). -/
def mayGo (l : List AnaAcc) (p : Nat) (write : Bool) : Bool :=
  !l.any (fun y => y.port == p && !y.sent)
    && (!write || decide ((l.filter (fun y => y.port == p && y.write && !y.behind)).length < 32))

/-- An access joins its port's queue; its transaction tag is free (log entry 107). -/
def State.anaQueue (s : State) (x : AnaAcc) : State :=
  let (k, s) := s.draw
  let x := { x with tag := Config.freeNat k % 2 ^ 10, sent := mayGo s.host.ana x.port x.write }
  let s := { s with host := { s.host with ana := s.host.ana ++ [x] } }
  if x.sent then s.accFlit x else s

/-- The accesses of port `p` that waited are given to the link as room comes (R67): `done` are those before them. -/
def State.anaGo (p : Nat) (done : List AnaAcc) : List AnaAcc → State → State
  | [], s => { s with host := { s.host with ana := done } }
  | x :: t, s =>
    if x.port == p && !x.sent && mayGo done p x.write then State.anaGo p (done ++ [{ x with sent := true }]) t (s.accFlit x)
    else State.anaGo p (done ++ [x]) t s

/-- A write to ANA is posted; while the link is neither UP nor in RETRAIN it is dropped (R23). -/
def State.anaPost (s : State) (p a : Nat) (w : Word) : State :=
  let st := s.linkState
  if st = 2 ∨ st = 3 then s.anaQueue { port := p, write := true, addr := a, data := w }
  else s.raise R.PWR_STALK_ERR_WR_DROP

/-! What a read does -/

/-- The separate fields of an RC register (R57). -/
def rcParts (a mask : Nat) : List Nat :=
  if a = R.SYN_COAST_CNT then [0xFF, 0xFF00, 0xFF0000]
  else if mask = 0xFFFFFF00 then [0xFF00, 0xFFFF0000]
  else if mask = 0xFFFFFFFF then
    (if (isAna a && (decide (a % 32 = 0x1C ∧ a < 0x70600) || decide (0x74400 ≤ a ∧ a < 0x74800 ∧ a % 256 = 0x88)))
      || decide (R.MP_OVF 0 ≤ a ∧ a ≤ R.MP_OVF 7) then [mask] else [0xFFFF, 0xFFFF0000])
  else [mask]

/-- The bits a read returns, as a mask of the word. -/
def readMask (a : Nat) (size : AccessSize) : Nat := (2 ^ (8 * accBytes size) - 1) * 2 ^ (8 * (a % 4))

/-- RC fields that lie wholly in the bytes returned are cleared (R57). -/
def State.rcClear (s : State) (a size : Nat) (d : RegDesc) : State :=
  let clear := (rcParts a d.rc).foldl (fun m f => if f &&& d.rc &&& size == f &&& d.rc then m ||| (f &&& d.rc) else m) 0
  if clear = 0 then s else s.wr a (s.rd a &&& ~~~(BitVec.ofNat 32 clear))

/-- A pop behind an ROL word: EVT_NS and TXTS_NS (R144, R423). -/
def State.rolPop (s : State) (a : Nat) : State :=
  if a = R.MP_EVT_NS then s.gpioPop
  else if a = R.NET_TXTS_NS 0 then (s.txtsRead 0).2.2
  else if a = R.NET_TXTS_NS 1 then (s.txtsRead 1).2.2
  else s

/-- A read of the register or memory at address `a` from port `p`: the word, and the state after it (R57, R59, R60). -/
def State.regRead (s : State) (p a : Nat) (size : AccessSize) : Word × State :=
  let ca := canon a
  if 0x900000 ≤ a then
    let n := (a - 0x900000) / 0x1000
    let (w, s) := if size = .word then s.siloWindowRead n (a % 0x1000) else s.siloWindowPeek n
    (lanesOf w a size, s)
  else if 0x200000 ≤ a ∧ a < 0x300000 then
    (if s.closed 2 then 0 else lanesOf (s.rd ca) a size, s)
  else
    match rowOf ca with
    | some d =>
      if d.roh ≠ 0 then (lanesOf (look 0 s.host.shadow ((ca - 4) * 4 + p)) a size, s)
      else
        let w := s.peek ca
        let s := if d.rol ≠ 0 ∧ a % 4 = 0 then
            let s := { s with host := { s.host with shadow := upd s.host.shadow (ca * 4 + p) (s.peek (ca + 4)) } }
            s.rolPop ca
          else s
        let s := if d.rc ≠ 0 then
            (if 0x58000 ≤ ca ∧ ca < 0x58200 then (if size = .word then (s.dmaDoneRead ((ca - 0x58000) / 64)).2 else s)
              else s.rcClear ca (readMask a size) d)
          else s
        (lanesOf w a size, s)
    | none => (lanesOf (s.peek ca) a size, s)

/-- What a read of a bit alias returns: the bit in bit 0, with no side effect (R64, R65). -/
def State.aliasRead (s : State) (p a : Nat) : Word :=
  let ca := canon (aliasWord a)
  let w := match rowOf ca with
    | some d => if d.roh ≠ 0 then look 0 s.host.shadow ((ca - 4) * 4 + p) else s.peek ca
    | none => s.peek ca
  if w.toNat.testBit (aliasBit a) then 1 else 0

/-- A read, carried out: the word it returns, and the state after it (Table 2.7, R56, R57, R62, R64, R65, R481). Of an ANA
register it is carried out while the link is UP; while the link is down it fails (R23). -/
def State.readNow (s : State) (p a : Nat) (size : AccessSize) (split : Bool) : Word × State :=
  if inTwin a then (0, s)
  else if isAna a && !badShape a size split && !s.linkUp then (lanesOf 0xFFFFFFFF 0 size, s.raise R.PWR_STALK_ERR_RD_FAIL)
  else if s.dark p a then (0, s)
  else if badShape a size split then (0xFFFFFFFF, s.accessErr p a false 2)
  else if !assigned p a || !assigned p (target a) then (0, s.accessErr p a false 0)
  else if inAlias a then (lanesOf (s.aliasRead p a) a size, s)
  else if canon a = R.SYN_ADPLL0_ERR then s.errShow.regRead p a size
  else if R.ROUTE_SRC_RATIO 0 ≤ canon a ∧ canon a < R.ROUTE_SRC_RATIO 128 ∧ (canon a - R.ROUTE_SRC_RATIO 0) % 8 = 0 then
    (s.ratioShow ((canon a - R.ROUTE_SRC_RATIO 0) / 8)).regRead p a size
  else s.regRead p a size

/-- Whether a read crosses the Stalk link. -/
def State.crossesLink (s : State) (a : Nat) (size : AccessSize) (split : Bool) : Bool :=
  isAna a && !badShape a size split && (s.linkState == 2 || s.linkState == 3)

/-- A pair is complete: V is written in one cycle; one to ANA is posted (R61, R481). -/
def State.guardPass (s : State) (p a : Nat) (v : Word) : State :=
  if isAna a then s.anaPost p a v else s.dWrite p (canon a) v

/-- A write that no register takes, by Table 2.15's CAUSE (R56, R57, R62): none in a region whose domain is off (R481). -/
def State.writeFault (s : State) (p a : Nat) (size : AccessSize) (split : Bool) : State :=
  let t := target a
  if s.dark p a then s
  else if badShape a size split then s.accessErr p a true 2
  else if size ≠ .word then s.accessErr p a true 1
  else if inTwin a then (if isGuarded t then s else s.accessErr p a true 3)
  else if !assigned p a || !assigned p t then s.accessErr p a true 0
  else s

/-- Whether an address names a guarded register, by itself or by a bit alias. -/
def namesGuarded (a : Nat) : Bool := !inTwin a && isGuarded (target a) && decide (target a < 0x80000)

/-- A narrow or misshapen write with no pair pending: a narrow one to a guarded register also fails under R62 with CAUSE 4. -/
def State.oddWrite (s : State) (p a : Nat) (size : AccessSize) (split : Bool) : State :=
  let s := if namesGuarded a && !badShape a size split && !s.dark p a then s.guardErr p a 4 else s
  s.writeFault p a size split

/-- A write of a bit alias (R65): one bit, in one indivisible step; ignored where the region is off (R481). -/
def State.aliasWrite (s : State) (p a : Nat) (w : Word) : State :=
  let o := aliasWord a
  let b := aliasBit a
  if !assigned p o || s.dark p a then s.writeFault p a .word false
  else if isGuarded o then s.guardErr p a 4
  else
    match rowOf (canon o) with
    | some d =>
      if d.w1c.testBit b then (if w.toNat.testBit 0 then s.dWrite p (canon o) ((s.rd (canon o) &&& BitVec.ofNat 32 d.rw) ||| BitVec.ofNat 32 (2 ^ b)) else s)
      else if d.rw.testBit b then
        let old := s.rd (canon o) &&& BitVec.ofNat 32 d.rw &&& ~~~(BitVec.ofNat 32 (2 ^ b))
        s.dWrite p (canon o) (if w.toNat.testBit 0 then old ||| BitVec.ofNat 32 (2 ^ b) else old)
      else s
    | none => s

/-- A 32-bit aligned write with no pair pending. A write to a guard twin that no first write precedes captures its own address
(log entry 266). -/
def State.wordWrite (s : State) (p a : Nat) (w : Word) : State :=
  if inTwin a then (if isGuarded (a - 0x800000) then s.guardErr p a 0 else s.writeFault p a .word false)
  else if inAlias a then s.aliasWrite p a w
  else if !assigned p a then s.writeFault p a .word false
  else if isGuarded a then { s with host := { s.host with guard := upd s.host.guard p (a, w) } }
  else if isAna a then s.anaPost p a w
  else s.dWrite p (canon a) w

/-- A host port's write is judged and carried out (R56, R57, R61, R62, R65, R67): a pair that is pending for the port is judged first,
and a write that fails it is discarded, with whatever error it meets by itself. -/
def State.writeNow (s : State) (p a : Nat) (size : AccessSize) (split : Bool) (w : Word) : State :=
  match s.host.guard.find? (fun e => e.1 == p) with
  | some (_, g, v) =>
    let s := { s with host := { s.host with guard := del s.host.guard p } }
    if size == .word && !split && a == g + 0x800000 then
      (if w = ~~~v then s.guardPass p g v else s.guardErr p g 1)
    else (s.guardErr p g (if size != .word || inAlias a then 4 else 2)).writeFault p a size split
  | none =>
    if badShape a size split || size != .word then s.oddWrite p a size split
    else s.wordWrite p a w

/-- A read of an ANA register at its turn: the A-die answers with a response flit (R66, R67). -/
def State.anaAnswer (s : State) (x : AnaAcc) : State :=
  let (w, s) := s.readNow x.port x.addr x.size x.split
  (s.respFlit x w).answerAcc x w

/-- The accesses at the head of port `p`'s queue are carried out: reads of the A-die once every earlier write has taken effect and the
link is UP, and behind them reads of the D-die and the writes that wait for those (R23, R41, R67). -/
def State.anaDrain (p : Nat) : List AnaAcc → State → State
  | [], s => s
  | x :: t, s =>
    if x.port ≠ p then State.anaDrain p t { s with host := { s.host with ana := s.host.ana ++ [x] } }
    else if x.behind then State.anaDrain p t (s.writeNow p x.addr x.size x.split x.data)
    else if x.write || !x.sent || (isAna x.addr && !s.linkUp) then { s with host := { s.host with ana := s.host.ana ++ x :: t } }
    else if isAna x.addr then State.anaDrain p t (s.anaAnswer x)
    else
      let (w, s) := s.readNow p x.addr x.size x.split
      State.anaDrain p t (s.answerAcc x w)

def State.anaReads (s : State) (p : Nat) : State :=
  State.anaDrain p s.host.ana { s with host := { s.host with ana := [] } }

/-- Every port's reads go on where nothing holds them. -/
def State.readsGo (s : State) : State := forN 4 (fun p s => s.anaReads p) s

/-- The oldest posted write of port `p` takes effect at the A-die (R67); writes and reads that waited for it go on. -/
def State.anaEffect (s : State) (p : Nat) : State :=
  if s.linkUp then
    match s.host.ana.find? (fun x => x.port == p) with
    | some x =>
      if x.write && x.sent && !x.behind then
        let s := { s with host := { s.host with ana := s.host.ana.erase x } }
        let s := State.anaGo p [] s.host.ana s
        let s := if s.accessible (canon x.addr) then
            s.hostPut (canon x.addr) x.data (fun s => s.regWrite p (canon x.addr) x.data) else s
        s.anaReads p
      else s
    | none => s
  else s

/-- A retrain ends and the link is UP again: flits that waited go, and held accesses complete in issue order, beginning with the
reads (R17, R19, R23). -/
def State.retrainDone (s : State) : State :=
  if s.linkState = 3 then
    let s := s.setLinkState 2
    let s := (s.setLinkEnd true { s.link.d with attempts := 0, silent := false }).setLinkEnd false
      { s.link.a with attempts := 0, silent := false }
    ((s.pump true 32).pump false 32).readsGo
  else s

/-! The access itself -/

/-- A host port reads (R41, R67): at once, or, behind an earlier read of its port that waits and, where it crosses the link, behind
its port's writes and a retrain, in its turn. -/
def State.hostRead (s : State) (p a : Nat) (size : AccessSize) (split : Bool) : State :=
  if !s.portOpen p then s
  else
    let cross := s.crossesLink a size split
    let x : AnaAcc := { port := p, write := false, addr := a, size, split }
    if s.host.ana.any (fun y => y.port == p && (cross || !y.write || y.behind)) || (cross && s.linkState == 3) then s.anaQueue x
    else if cross then
      let (k, s) := s.draw
      let x := { x with tag := Config.freeNat k % 2 ^ 10 }
      (s.accFlit x).anaAnswer x
    else
      let (w, s) := s.readNow p a size split
      s.answer p a w

/-- A host port writes: at once, or, behind an earlier read of the D-die by its port that waits, in its turn (R41, R67). -/
def State.hostWrite (s : State) (p a : Nat) (size : AccessSize) (split : Bool) (w : Word) : State :=
  if !s.portOpen p then s
  else if s.host.ana.any (fun y => y.port == p && (y.behind || !isAna y.addr)) then
    { s with host := { s.host with ana := s.host.ana ++ [{ port := p, write := true, addr := a, data := w, size, split, behind := true }] } }
  else s.writeNow p a size split w

/-- No second write has come within t_GUARD (R62). -/
def State.guardExpires (s : State) (p : Nat) : State :=
  match s.host.guard.find? (fun e => e.1 == p) with
  | some (_, g, _) => { s with host := { s.host with guard := del s.host.guard p } }.guardErr p g 3
  | none => s

/-! Quad-SPI (R48 to R52) -/

/-- What the data lines carry at each clock of an item of `bits` bits: most significant first, and on four lines, of which IO3 is the
highest, a nibble at a time (R48). -/
def qspiLines (quad : Bool) (bits v : Nat) : List Nat :=
  let w := if quad then 4 else 1
  (List.range (bits / w)).map (fun k => v / 2 ^ (bits - w * (k + 1)) % 2 ^ w)

/-- A read command's address has been received: the word is read (R49). -/
def State.qspiBeginRead (s : State) (a : Nat) (quad : Bool) : State :=
  { s with host := { s.host with qspi := .read, qspiAddr := a, qspiQuad := quad, qspiWord := none } }.hostRead 1 a .word false

def State.qspiBeginWrite (s : State) (a : Nat) (quad : Bool) : State :=
  { s with host := { s.host with qspi := .write, qspiAddr := a, qspiQuad := quad } }

/-- The target status byte (R52). -/
def State.qspiStatus (s : State) : State :=
  let b := toBit (s.host.ana.any (fun x => x.port == 1 && x.write && isAna x.addr))
    + 2 * toBit (s.flag R.SYS_EVENT_ACCESS_ERR || s.flag R.SYS_EVENT_GUARD_ERR) + 4 * toBit s.pins.irqLow
  { s with host := { s.host with qspi := .status } }.emit (.qspiLines false (qspiLines false 8 b))

/-- An opcode byte has arrived at the idle target, with the address that follows it (Table 2.3); any other opcode is ignored until
CS_N rises (R48). An address must be a multiple of 4: one that is not is an unaligned access (log entry 116). -/
def State.qspiOpcode (s : State) (op a : Nat) : State :=
  if s.portOpen 1 && s.host.qspi == .idle then
    if op = 0x0B then s.qspiBeginRead a false
    else if op = 0x02 then s.qspiBeginWrite a false
    else if op = 0xEB then s.qspiBeginRead a true
    else if op = 0x38 then s.qspiBeginWrite a true
    else if op = 0x05 then s.qspiStatus
    else { s with host := { s.host with qspi := .ignored } }
  else s

/-- Wait bytes 0xFF are driven, of a number that the latency of the word decides (R49). -/
def State.qspiWaits (s : State) : State :=
  let (k, s) := s.draw
  s.emit (.qspiWait s.host.qspiQuad (Config.freeNat k))

/-- The word that was ready is driven: wait bytes, the start token 0xFE, and the word (R49). -/
def State.qspiDeliver (s : State) : State :=
  match s.host.qspiWord with
  | some w =>
    let quad := s.host.qspiQuad
    let s := { s with host := { s.host with qspiWord := none } }.qspiWaits
    ((s.emit (.qspiLines quad (qspiLines quad 8 0xFE))).emit (.qspiLines quad (qspiLines quad 32 w.toNat))).emit
      (.hostData 1 s.host.qspiAddr w)
  | none => s

/-- The previous word has been delivered: the next one is read, the address wrapping at 24 bits (R49). -/
def State.qspiNextWord (s : State) : State :=
  if s.portOpen 1 && s.host.qspi == .read && s.host.qspiWord.isSome then
    let s := s.qspiDeliver
    let a := (s.host.qspiAddr + 4) % 2 ^ 24
    { s with host := { s.host with qspiAddr := a } }.hostRead 1 a .word false
  else s

/-- The 32nd data bit of a word has arrived (R50). -/
def State.qspiWrite (s : State) (w : Word) : State :=
  if s.portOpen 1 && s.host.qspi == .write then
    let a := s.host.qspiAddr
    { s with host := { s.host with qspiAddr := (a + 4) % 2 ^ 24 } }.hostWrite 1 a .word false w
  else s

/-- CS_N rises: idle, whatever the phase (R51). Whether the last word of a read was clocked out before is a matter of time, and
free; where it was, the next word has been read. A read that the host abandons loses its value and keeps its side effects (R49). -/
def State.qspiRise (s : State) : State :=
  let s := if s.host.qspi == .read && s.host.qspiWord.isSome then
      let (k, s) := s.draw
      if Config.freeNat k % 2 = 1 then s.qspiNextWord else s
    else s
  let s := if s.host.qspi == .read then s.qspiWaits else s
  { s with host := { s.host with qspi := .idle, qspiWord := none, ana := s.host.ana.map (fun x =>
    if x.port = 1 ∧ ¬ x.write then { x with dropped := true } else x) } }

/-! Aborts, domains and resets: writes held behind an abort follow its end (R75) -/

/-- Once no abort runs, the writes held are applied in issue order. -/
def State.drainHeld (s : State) : State :=
  match s.host.abort with
  | some _ => s
  | none =>
    let l := s.host.held
    let s := { s with host := { s.host with held := [] } }
    l.foldl (fun s (e : Nat × Word) => if s.accessible e.1 then s.hostPut e.1 e.2 (fun s => s.regWrite 0 e.1 e.2) else s) s

/-! PCIe (R44, R46, R76) -/

def State.pcieUp (s : State) (speed width : Nat) : State :=
  if s.flag R.SYS_STRAPS_HOST_SEL || s.pins.inReset then s
  else ((s.raise R.SYS_PCIE_STATUS_LINK_UP).put R.SYS_PCIE_STATUS_SPEED speed).put R.SYS_PCIE_STATUS_WIDTH width

/-- The host writes the command register, with the payload and read request sizes programmed by then as codes 0 to 5 for 128 to
4,096 bytes (R46; log entry 262). -/
def State.setBme (s : State) (on : Bool) (mps mrrs : Nat) : State :=
  if s.flag R.SYS_STRAPS_HOST_SEL || s.pins.inReset then s
  else { s with host := { s.host with mps := min s.host.pcie.maxPayload (128 * 2 ^ mps), mrrs := 128 * 2 ^ mrrs } }.put
    R.SYS_PCIE_STATUS_BME (toBit on)

def State.dstate (s : State) (d3 : Bool) : State :=
  if s.flag R.SYS_STRAPS_HOST_SEL || s.pins.inReset then s else s.put R.SYS_PCIE_STATUS_DSTATE (if d3 then 3 else 0)

/-- The host unmasks a vector, or the function (R70). -/
def State.unmask (s : State) (v : Option Nat) : State :=
  if s.portOpen 0 then
    match v with
    | some v => (s.clr (R.MSIX_VCTRL_MASK v)).msixRelease
    | none => { s with host := { s.host with msixMasked := false } }.msixRelease
  else s

/-- An AES3 or MADI receiver locks to its stream (R305, R309): `rate` is in Hz, `ch` and `f96` what a MADI stream carries. -/
def State.receiverLock (s : State) (n rate ch : Nat) (f96 : Bool) : State :=
  let runs := if isAesRx n then (s.unitState n != 0 || s.vetNames n) && decide (28000 ≤ rate) && decide (rate ≤ 216000)
    else isMadi n && s.unitState n != 0
  if s.on .ports && runs then
    let s := (s.unitLock n true).unitMeasure n (rate * 16)
    if isMadi n then
      let m := n - 24
      (s.put (R.PORT_MADI_RXSTAT_CH_DET m) ch).put (R.PORT_MADI_RXSTAT_FRAME96_DET m) (toBit f96)
    else s
  else s

/-- An attempt fails; once the link is LOST, reads of the D-die that waited behind ANA reads are carried out (R20, R41). -/
def execStalkTrainAttemptFail (die : Die) (s : State) : Result := finish (s.attemptFail (isD die)).readsGo
def execStalkRetrainDone (s : State) : Result := finish s.retrainDone
def execDomainReqWrite (w : BitVec 32) (s : State) : Result :=
  finish ((s.hostPut R.PWR_DOMAIN_REQ w (fun s => s.twinLinks (s.domainReqWrite w))).drainHeld)
def execDomainWakeDone (d : Fin 16) (s : State) : Result := finish ((s.twinLinks (s.domMoved d true).warmCheck).drainHeld)
def execDomainSleepDone (d : Fin 16) (s : State) : Result := finish ((s.twinLinks (s.domMoved d false).warmCheck).drainHeld)
def execDomainReset (w : BitVec 32) (s : State) : Result :=
  finish ((s.hostPut R.PWR_DOMAIN_RST w (fun s => s.twinLinks (s.domainsReset w.toNat))).drainHeld)
def execDomainResetDone (d : Fin 16) (s : State) : Result := finish ((s.twinLinks (s.domainRstDone d).warmCheck).drainHeld)
def execD3hotEnter (s : State) : Result := finish (s.dstate true)
def execD0Return (s : State) : Result := finish (s.dstate false)
def execQspiReadSingle (addr : BitVec 24) (s : State) : Result := finish (s.qspiOpcode 0x0B addr.toNat)
def execQspiReadQuad (addr : BitVec 24) (s : State) : Result := finish (s.qspiOpcode 0xEB addr.toNat)
def execQspiWriteSingle (addr : BitVec 24) (s : State) : Result := finish (s.qspiOpcode 0x02 addr.toNat)
def execQspiWriteQuad (addr : BitVec 24) (s : State) : Result := finish (s.qspiOpcode 0x38 addr.toNat)
def execQspiReadStatus (s : State) : Result := finish (s.qspiOpcode 0x05 0)
def execQspiUnknownOpcode (op : BitVec 8) (s : State) : Result := 
  finish (if ([0x0B, 0x02, 0xEB, 0x38, 0x05] : List Nat).contains op.toNat then s else s.qspiOpcode op.toNat 0)
def execQspiReadNextWord (s : State) : Result := finish s.qspiNextWord
def execQspiWriteWord (w : BitVec 32) (s : State) : Result := finish ((s.qspiWrite w).drainHeld)
def execQspiCsRise (s : State) : Result := finish s.qspiRise
def execRegisterWrite (p : Fin 4) (addr : BitVec 24) (size : AccessSize) (split : Bool) (w : BitVec 32) (s : State) : Result :=
  finish ((s.hostWrite p addr.toNat size split w).drainHeld)
def execUnassignedRead (p : Fin 4) (addr : BitVec 24) (s : State) : Result := finish (s.hostRead p addr.toNat .word false)
def execRolRead (p : Fin 4) (addr : BitVec 24) (s : State) : Result := finish (s.hostRead p addr.toNat .word false)
def execRcFieldRead (p : Fin 4) (addr : BitVec 24) (size : AccessSize) (s : State) : Result :=
  finish (s.hostRead p addr.toNat size false)
def execAnaRead (p : Fin 4) (addr : BitVec 24) (size : AccessSize) (s : State) : Result :=
  finish (s.hostRead p addr.toNat size false)
def execMisalignedRead (p : Fin 4) (addr : BitVec 24) (size : AccessSize) (split : Bool) (s : State) : Result :=
  finish (s.hostRead p addr.toNat size split)
def execGuardedFirstWrite (p : Fin 4) (addr : BitVec 24) (w : BitVec 32) (s : State) : Result :=
  finish ((s.hostWrite p addr.toNat .word false w).drainHeld)
def execGuardTwinWrite (p : Fin 4) (addr : BitVec 24) (w : BitVec 32) (s : State) : Result :=
  finish ((s.hostWrite p addr.toNat .word false w).drainHeld)
def execGuardTimeout (p : Fin 4) (s : State) : Result := finish (s.guardExpires p)
def execBitAliasWrite (p : Fin 4) (addr : BitVec 24) (w : BitVec 32) (s : State) : Result :=
  finish ((s.hostWrite p addr.toNat .word false w).drainHeld)
def execAnaPostedWriteEffect (p : Fin 4) (s : State) : Result := finish (s.anaEffect p)
def execIrqAck (w : BitVec 32) (s : State) : Result := finish (s.irqAck w)
def execMsixUnmask (v : Option (Fin 64)) (s : State) : Result := finish (s.unmask (v.map (·.val)))
def execAbortComplete (us : Nat) (s : State) : Result := finish ((s.abortComplete us).drainHeld)
def execWarmReset (s : State) : Result := finish (s.warm.drainHeld)
def execHostReset (linkDown : Bool) (s : State) : Result := finish ((s.hostRst linkDown).drainHeld)
def execTxtsRead (p : Fin 4) (x : Fin 2) (s : State) : Result := finish (s.hostRead p (R.NET_TXTS_NS x) .word false)
def execGpioEvtRead (p : Fin 4) (s : State) : Result := finish (s.hostRead p R.MP_EVT_NS .word false)
def execSiloWindowPop (p : Fin 4) (n : Fin 64) (off : BitVec 12) (s : State) : Result :=
  finish (s.hostRead p (0x900000 + 0x1000 * n + off.toNat / 4 * 4) .word false)
def execDmaDoneRead (p : Fin 4) (c : Fin 8) (s : State) : Result := finish (s.hostRead p (R.DMA_DONE c) .word false)
def execReceiverLockAcquired (n : Fin 26) (rate ch : Nat) (f96 : Bool) (s : State) : Result :=
  finish (s.receiverLock n rate ch f96)
def execPcieLinkUp (speed width : BitVec 2) (s : State) : Result := finish (s.pcieUp speed.toNat width.toNat)
def execBusMasterEnableChange (c : BusMaster) (s : State) : Result := finish (s.setBme c.bme c.mps c.mrrs)

end Sys2Proof.Machine
end

