-- ==== Sys2Proof/Machine/MgmtAct.lean ====
section
/-!
DEFINITION. What the management processor does as host port 2: GPIO edges and their actions (R422 to R425), and its start.
-/
namespace Sys2Proof.Machine

/-- The sinks of pin `n`'s span (R424). -/
def State.muteSpan (s : State) (n : Nat) : List Nat :=
  if s.pinIn n && s.get (R.MP_GPIO_CFG_ACTION n) == 1 then
    ((List.range (s.get (R.MP_GPIO_ARG_COUNT n) + 1)).map (s.get (R.MP_GPIO_ARG_SINK n) + ·)).filter (· < 4096)
  else []

/-- The sinks that active MUTE pins cover. -/
def State.covered (s : State) : List Nat := (sel 16 s.pinActive).flatMap s.muteSpan

/-- The management processor writes a register as host port 2 (R414). -/
def State.mpWrites (s : State) (a : Nat) (w : Word) : State := s.hostWrite 2 a .word false w

/-- It makes a guarded write: the value, and then its complement to the guard twin (R61). -/
def State.mpPair (s : State) (a : Nat) (w : Word) : State := (s.mpWrites a w).mpWrites (a + 0x800000) (~~~w)

def State.mpMute (s : State) (l : List Nat) (mute : Bool) : State :=
  l.foldl (fun s n => s.mpWrites (if mute then R.ROUTE_MUTE_SET else R.ROUTE_MUTE_CLR) (BitVec.ofNat 32 n)) s

/-- A MARK pin's entry: HOST_MARK, with argument words that the spec leaves open (log entry 62). -/
def State.gpioMark (s : State) : State :=
  let (j, s) := s.draw
  let (k, s) := s.draw
  s.log3 0xFF 0 (Config.freeWord j) (Config.freeWord k) 0

/-- What the accepted edge of pin `n` makes the management processor do (Table 16.6, R425). -/
def State.gpioAct (s : State) (n : Nat) (active : Bool) : State :=
  match s.get (R.MP_GPIO_CFG_ACTION n) with
  | 1 => if active then s.mpMute (s.muteSpan n) true
    else s.mpMute ((s.muteSpan n).filter (fun k => !s.covered.contains k)) false
  | 2 => if active then s.mpWrites R.ROUTE_COMMIT 1 else s
  | 3 => if active then s.mpWrites R.VET_SNAP 1 else s
  | 4 => if active then s.mpPair R.TWIN_CTRL (R.TWIN_CTRL_SWAP.inWord (s.rd R.TWIN_CTRL) 1) else s
  | 5 => if active then s.gpioMark else s
  | _ => s

/-- An edge is accepted (R422, R423); `t` is media time when the handler is entered. -/
def State.gpioAccept (s : State) (n t : Nat) : State :=
  let p := s.pin n
  if p.level = p.settled then s
  else
    let s := s.setPin n { p with settled := p.level }
    if s.mpRuns then
      let active := s.pinActive n
      let rec_ := s.get (R.MP_GPIO_CFG_REC n)
      let s := if rec_.testBit (if active then 0 else 1) then s.gpioStamp n active t else s
      s.gpioAct n active
    else s

/-- A further change within the debounce interval (R422). -/
def State.gpioCoalesce (s : State) (n : Nat) : State :=
  let first := s.get (gpioOvf n) == 0
  let s := s.countSat (gpioOvf n)
  if first then (s.mpEvent 18).log 0x50 1 n (s.get (gpioOvf n)) else s

/-- A pin changes level, after the 1 µs filter (R422). -/
def State.gpioEdge (s : State) (n : Nat) (level : Bool) (t : Nat) : State :=
  let p := s.pin n
  if p.level = level then s
  else
    let s := s.setPin n { p with level, running := p.running && s.pinIn n }
    if !s.pinIn n || s.pins.inReset then s
    else if s.get (R.MP_GPIO_CFG_DEB n) = 0 then (s.setPin n { s.pin n with running := false }).gpioAccept n t
    else if p.running then s.gpioCoalesce n
    else s.setPin n { s.pin n with running := true }

/-- The level has held for DEB × 0.1 ms. -/
def State.gpioDebounced (s : State) (n t : Nat) : State :=
  if (s.pin n).running then (s.setPin n { s.pin n with running := false }).gpioAccept n t else s

/-! Commands that burn fuses, and the end of the ROM (R416, R428, R431) -/

/-- The management processor blows bits of word 23 as host port 2, by FUSE.DATA and a guarded pair of FUSE.PROG, and waits for the outcome;
`bad` are the bits that fail. What does not hold afterwards is retried at the next start (R431). -/
def State.svnBurn (s : State) (bits bad : Word) : State :=
  let due := s.mgmt.svnDue ||| bits
  if bits = 0 then s
  else
    let busy := s.flag R.FUSE_STATUS_BUSY
    let s := (s.mpWrites R.FUSE_DATA bits).mpPair R.FUSE_PROG 23
    let s := if !busy && s.mgmt.fusing.any (fun e => e.1 == 23) then s.fuseDone bad else s
    { s with mgmt := { s.mgmt with svnDue := due &&& ~~~ s.rd (R.FUSE_WORD 23) } }

/-- FW_CONFIRM (R430, R431); `ok` says whether the boot record was programmed, and `bad` are the SVN fuses that fail. -/
def State.fwConfirm (s : State) (ok : Bool) (bad : Word) : Nat × List Word × State :=
  if s.flag R.MP_STATUS_TRIAL then
    let k := s.get R.MP_STATUS_SLOT
    if !ok then (7, [], s.recWrite false 0 0)
    else
    let s := (if k = 0 then s.recWrite true 4 1 else s.recWrite true 1 4).clr R.MP_STATUS_TRIAL
    let s := s.log 0x61 0 k (s.get R.MP_FW_VER_VER)
    let bits := sel 32 (fun b => decide (s.fuseSvn ≤ b) && decide (b < s.get R.MP_FW_SVN_IMG))
    let bits := BitVec.ofNat 32 (bits.foldl (fun a b => a + 2 ^ b) 0)
    let s := s.svnBurn bits bad
    (if bits &&& ~~~ s.rd (R.FUSE_WORD 23) = 0 then 0 else 8, [], s)
  else (3, [], s)

/-- What a command does: its status, its response and the state after it (Table 16.1). The ROM serves GET_INFO and the
FW commands only (R428, R444). -/
def State.mbRun (s : State) (op len : Nat) (ok : Bool) (bad : Word) : Nat × List Word × State :=
  if !mbOps.contains op || (!s.mpRuns && (op == 2 || op == 3)) then (1, [], s)
  else if 16 < len then (2, [], s)
  else if op = 1 then (0, s.mbInfo, s)
  else if op = 2 then s.mbLogRead
  else if op = 3 then s.mbLogMark
  else if op = 0x10 then s.fwBegin ok
  else if op = 0x11 then s.fwWrite ok
  else if op = 0x12 then s.fwVerify ok
  else if op = 0x13 then s.fwActivate ok
  else s.fwConfirm ok bad

/-- The management processor finishes the command in progress (R416). -/
def State.mbDone (s : State) (ok : Bool) (bad : Word) : State :=
  match s.mgmt.cmd with
  | some (op, len, tag) =>
    if s.mbServed then
      match s.mbRun op len ok bad with
      | (r, rsp, s) => (s.mbStatus r tag rsp).mpEvent 0
    else s
  | none => s

/-- The ROM ends: RECOVERY, FAILED, or a slot's firmware (R428, R431, R444); `bad` are SVN fuses that fail again. -/
def State.mpBoot (s : State) (bad : Word) : State :=
  if s.mgmt.booting && s.get R.MP_STATUS_STATE == 0 && !s.pins.inReset then
    let s := { s with mgmt := { s.mgmt with booting := false } }
    if s.mgmt.recovery then { s with mgmt := { s.mgmt with recovery := false, serving := true } }
    else
      match s.bootChoice with
      | (first, s, fallback) =>
        match first.bind s.bootSlot with
        | none => s.put R.MP_STATUS_STATE 3
        | some k => (s.bootRun k (s.fwState k == 3) fallback).svnBurn s.mgmt.svnDue bad
  else s

/-- A start of the management processor's firmware writes the mutes of every span (R425, R428). -/
def State.mpStarted (s : State) (bad : Word) : State :=
  let was := s.mpRuns
  let s := s.mpBoot bad
  if !was && s.mpRuns then
    let on := s.covered
    let spans := (List.range 16).flatMap s.muteSpan
    (s.mpMute on true).mpMute (spans.filter (fun k => !on.contains k)) false
  else s

def execMbCommandDone (ok : Bool) (bad : BitVec 32) (s : State) : Result := finish (s.mbDone ok bad)
def execMpBootDone (bad : BitVec 32) (s : State) : Result := finish (s.mpStarted bad)
def execGpioEdge (n : Fin 16) (level : Bool) (t : Nat) (s : State) : Result := finish (s.gpioEdge n level t)
def execGpioDebounceAccept (n : Fin 16) (t : Nat) (s : State) : Result := finish (s.gpioDebounced n t)

end Sys2Proof.Machine
end

