-- ==== Sys2Proof/Machine/SpeltInsn.lean ====
section
/-!
DEFINITION. The commands that have a lane issue one Spelt instruction (chapter 9). The lane is in a run that does not wait for
a pop; otherwise nothing happens (log entry 40).
-/
namespace Sys2Proof.Machine

def insnOf (op : Nat) (f : InsnFields) : Insn :=
  { op, d := f.d.toNat, a := f.a.toNat, b := f.b.toNat, m := f.m.toNat, z := f.z.toNat, imm := f.imm }

/-- Lane `n` issues an instruction. -/
def State.issueRow (s : State) (n op : Nat) (o : Op) (f : InsnFields) : State :=
  if s.inCode n (s.lane n).pc then s.laneAt n (fun s => (s.laneIssue n o (insnOf op f)).laneAfter n) else s

def execINop (n : Fin 16) (f : InsnFields) (s : State) : Result := finish (s.issueRow n 0x00 opNop f)
def execILdv (n : Fin 16) (f : InsnFields) (s : State) : Result := finish (s.issueRow n 0x01 opLdv f)
def execIStv (n : Fin 16) (f : InsnFields) (s : State) : Result := finish (s.issueRow n 0x02 opStv f)
def execILds (n : Fin 16) (f : InsnFields) (s : State) : Result := finish (s.issueRow n 0x03 opLds f)
def execISts (n : Fin 16) (f : InsnFields) (s : State) : Result := finish (s.issueRow n 0x04 opSts f)
def execILdvx (n : Fin 16) (f : InsnFields) (s : State) : Result := finish (s.issueRow n 0x05 opLdvx f)
def execIIns (n : Fin 16) (f : InsnFields) (s : State) : Result := finish (s.issueRow n 0x06 opIns f)
def execIOuts (n : Fin 16) (f : InsnFields) (s : State) : Result := finish (s.issueRow n 0x07 opOuts f)
def execIMova (n : Fin 16) (f : InsnFields) (s : State) : Result := finish (s.issueRow n 0x08 opMova f)
def execIAdda (n : Fin 16) (f : InsnFields) (s : State) : Result := finish (s.issueRow n 0x09 opAdda f)
def execIMovas (n : Fin 16) (f : InsnFields) (s : State) : Result := finish (s.issueRow n 0x0A opMovas f)
def execIMovsa (n : Fin 16) (f : InsnFields) (s : State) : Result := finish (s.issueRow n 0x0B opMovsa f)
def execIMovs (n : Fin 16) (f : InsnFields) (s : State) : Result := finish (s.issueRow n 0x0C opMovs f)
def execIMovfs (n : Fin 16) (f : InsnFields) (s : State) : Result := finish (s.issueRow n 0x0D opMovfs f)
def execIClrf (n : Fin 16) (f : InsnFields) (s : State) : Result := finish (s.issueRow n 0x0E opClrf f)
def execIMovls (n : Fin 16) (f : InsnFields) (s : State) : Result := finish (s.issueRow n 0x0F opMovls f)
def execIVadd (n : Fin 16) (f : InsnFields) (s : State) : Result := finish (s.issueRow n 0x10 opVadd f)
def execIVsub (n : Fin 16) (f : InsnFields) (s : State) : Result := finish (s.issueRow n 0x11 opVsub f)
def execIVmul (n : Fin 16) (f : InsnFields) (s : State) : Result := finish (s.issueRow n 0x12 opVmul f)
def execIVmac (n : Fin 16) (f : InsnFields) (s : State) : Result := finish (s.issueRow n 0x13 opVmac f)
def execIVmuls (n : Fin 16) (f : InsnFields) (s : State) : Result := finish (s.issueRow n 0x14 opVmuls f)
def execIVmacs (n : Fin 16) (f : InsnFields) (s : State) : Result := finish (s.issueRow n 0x15 opVmacs f)
def execIVabs (n : Fin 16) (f : InsnFields) (s : State) : Result := finish (s.issueRow n 0x16 opVabs f)
def execIVmax (n : Fin 16) (f : InsnFields) (s : State) : Result := finish (s.issueRow n 0x17 opVmax f)
def execIVmin (n : Fin 16) (f : InsnFields) (s : State) : Result := finish (s.issueRow n 0x18 opVmin f)
def execIVclip (n : Fin 16) (f : InsnFields) (s : State) : Result := finish (s.issueRow n 0x19 opVclip f)
def execIVmov (n : Fin 16) (f : InsnFields) (s : State) : Result := finish (s.issueRow n 0x1A opVmov f)
def execIVbcst (n : Fin 16) (f : InsnFields) (s : State) : Result := finish (s.issueRow n 0x1B opVbcst f)
def execIVext (n : Fin 16) (f : InsnFields) (s : State) : Result := finish (s.issueRow n 0x1C opVext f)
def execIVins (n : Fin 16) (f : InsnFields) (s : State) : Result := finish (s.issueRow n 0x1D opVins f)
def execIVsum (n : Fin 16) (f : InsnFields) (s : State) : Result := finish (s.issueRow n 0x1E opVsum f)
def execIVpeak (n : Fin 16) (f : InsnFields) (s : State) : Result := finish (s.issueRow n 0x1F opVpeak f)
def execISadd (n : Fin 16) (f : InsnFields) (s : State) : Result := finish (s.issueRow n 0x20 opSadd f)
def execISsub (n : Fin 16) (f : InsnFields) (s : State) : Result := finish (s.issueRow n 0x21 opSsub f)
def execISmul (n : Fin 16) (f : InsnFields) (s : State) : Result := finish (s.issueRow n 0x22 opSmul f)
def execISmac (n : Fin 16) (f : InsnFields) (s : State) : Result := finish (s.issueRow n 0x23 opSmac f)
def execISmax (n : Fin 16) (f : InsnFields) (s : State) : Result := finish (s.issueRow n 0x24 opSmax f)
def execISmin (n : Fin 16) (f : InsnFields) (s : State) : Result := finish (s.issueRow n 0x25 opSmin f)
def execIScmp (n : Fin 16) (f : InsnFields) (s : State) : Result := finish (s.issueRow n 0x26 opScmp f)
def execISiadd (n : Fin 16) (f : InsnFields) (s : State) : Result := finish (s.issueRow n 0x27 opSiadd f)
def execISand (n : Fin 16) (f : InsnFields) (s : State) : Result := finish (s.issueRow n 0x28 opSand f)
def execISor (n : Fin 16) (f : InsnFields) (s : State) : Result := finish (s.issueRow n 0x29 opSor f)
def execISxor (n : Fin 16) (f : InsnFields) (s : State) : Result := finish (s.issueRow n 0x2A opSxor f)
def execISshf (n : Fin 16) (f : InsnFields) (s : State) : Result := finish (s.issueRow n 0x2B opSshf f)
def execISicmp (n : Fin 16) (f : InsnFields) (s : State) : Result := finish (s.issueRow n 0x2C opSicmp f)
def execIScvtf (n : Fin 16) (f : InsnFields) (s : State) : Result := finish (s.issueRow n 0x2D opScvtf f)
def execIScvti (n : Fin 16) (f : InsnFields) (s : State) : Result := finish (s.issueRow n 0x2E opScvti f)
def execIGwamp (n : Fin 16) (f : InsnFields) (s : State) : Result := finish (s.issueRow n 0x2F opGwamp f)
def execIMix (n : Fin 16) (f : InsnFields) (s : State) : Result := finish (s.issueRow n 0x30 opMix f)
def execIMixv (n : Fin 16) (f : InsnFields) (s : State) : Result := finish (s.issueRow n 0x31 opMixv f)
def execIBiq (n : Fin 16) (f : InsnFields) (s : State) : Result := finish (s.issueRow n 0x40 opBiq f)
def execIEnv (n : Fin 16) (f : InsnFields) (s : State) : Result := finish (s.issueRow n 0x41 opEnv f)
def execIVlog2 (n : Fin 16) (f : InsnFields) (s : State) : Result := finish (s.issueRow n 0x42 opVlog2 f)
def execIVexp2 (n : Fin 16) (f : InsnFields) (s : State) : Result := finish (s.issueRow n 0x43 opVexp2 f)
def execIGainc (n : Fin 16) (f : InsnFields) (s : State) : Result := finish (s.issueRow n 0x44 opGainc f)
def execIRamp (n : Fin 16) (f : InsnFields) (s : State) : Result := finish (s.issueRow n 0x45 opRamp f)
def execIDqpush (n : Fin 16) (f : InsnFields) (s : State) : Result := finish (s.issueRow n 0x50 opDqpush f)
def execIDqpop (n : Fin 16) (f : InsnFields) (s : State) : Result := finish (s.issueRow n 0x51 opDqpop f)
def execISpush (n : Fin 16) (f : InsnFields) (s : State) : Result := finish (s.issueRow n 0x58 opSpush f)
def execISpushs (n : Fin 16) (f : InsnFields) (s : State) : Result := finish (s.issueRow n 0x59 opSpushs f)
/-- SPKT with M[0] clear. -/
def execISpktOpen (n : Fin 16) (f : InsnFields) (s : State) : Result :=
  finish (s.issueRow n 0x5A opSpkt { f with m := f.m &&& 14 })
/-- SPKT with M[0] set. -/
def execISpktClose (n : Fin 16) (f : InsnFields) (s : State) : Result :=
  finish (s.issueRow n 0x5A opSpkt { f with m := f.m ||| 1 })
def execIBr (n : Fin 16) (f : InsnFields) (s : State) : Result := finish (s.issueRow n 0x70 opBr f)
def execILoop (n : Fin 16) (f : InsnFields) (s : State) : Result := finish (s.issueRow n 0x71 opLoop f)
def execIFend (n : Fin 16) (f : InsnFields) (s : State) : Result := finish (s.issueRow n 0x7E opFend f)
def execITrap (n : Fin 16) (f : InsnFields) (s : State) : Result := finish (s.issueRow n 0x7F opTrap f)

/-- An OP that is not in Table 9.3 (R246). -/
def execIllegalInstruction (n : Fin 16) (op : BitVec 8) (_f : InsnFields) (s : State) : Result :=
  finish (if (opOf op.toNat).isNone then s.laneAt n (fun s => s.laneTrap n (s.lane n).pc 1) else s)

end Sys2Proof.Machine
end

