-- ==== Sys2Proof/Machine/TwinImage.lean ====
section
/-!
DEFINITION. The state image (R402 to R406): what a region captures and restores, its pages, the pushes of the active unit,
and the store of the standby.
-/
namespace Sys2Proof.Machine

/-! Capture and restore of words (R403) -/

/-- What the image captures at byte address `a`: no side effects, and program memory whatever PROG_RD_OFF says. -/
def State.capture (s : State) (a : Nat) : Word :=
  let ca := canon a
  if !s.accessible ca then 0
  else if 0x200000 ≤ ca ∧ ca < 0x300000 then s.rd ca
  else s.peek ca

/-- Words that are never restored. -/
def neverRestored (a : Nat) : Bool :=
  decide (a < 0x3000) || a == R.SYN_OSC_CFG || (decide (0x4000 ≤ a) && decide (a < 0x7000)) || a == R.MEM_CTRL
    || (List.range 2).any (fun x => [R.NET_MAC_LO x, R.NET_MAC_HI x, R.NET_IP_ADDR x, R.NET_CLOCK_ID_LO x, R.NET_CLOCK_ID_HI x].contains a)
    || (decide (0x1A000 ≤ a) && decide (a < 0x1C000))

def isSink (a : Nat) : Bool := decide (R.ROUTE_SINK 0 ≤ a) && decide (a < R.ROUTE_SINK 4096)

def isShadow (a : Nat) : Bool := decide (R.ROUTE_SHADOW 0 ≤ a) && decide (a < R.ROUTE_SHADOW 4096)

/-- The register that a captured word is restored into: SINK into SHADOW, DP.ACT into DP.CFG. -/
def restoreTo (a : Nat) : Nat :=
  if isSink a then a + 0x4000
  else if (List.range 8).any (fun n => R.ROUTE_DP_ACT n == a) then a - 4
  else a

/-- Whether an enabled region carries the word at `a`. -/
def State.carries (s : State) (a : Nat) : Bool :=
  s.regions.any (fun k => decide ((s.region k).1 ≤ a) && decide (a < (s.region k).1 + 4 * (s.region k).2))

/-- Restore the word captured at byte address `a`: guards are bypassed, W1C fields are written as 0, and a register with no
field but WO ones is not written. A captured SHADOW word gives way to the SINK word that the image carries. -/
def State.restoreWord (s : State) (a : Nat) (v : Word) : State :=
  let ca := canon a
  let t := restoreTo ca
  if neverRestored ca || !s.accessible t || (isShadow ca && s.carries (a - 0x4000)) then s
  else
    match rowOf t with
    | some d => if d.rw ||| d.rwg = 0 then s else s.regWrite 2 t (v &&& ~~~(BitVec.ofNat 32 d.w1c))
    | none => s.regWrite 2 t v

/-! Pages (Tables 15.5 and 15.6) -/

/-- The identity of a page: its TYPE, REGION and PAGE. -/
def pageKey (p : List Word) : Nat × Nat × Nat :=
  let h := ((p[0]?).getD 0).toNat
  (bitsOf h 1 0, bitsOf h 6 2, bitsOf h 26 16)

/-- The CRC of a page: over header bytes 0 to 13 and the valid payload words. -/
def pageCrc (p : List Word) : Nat :=
  let count := bitsOf ((p[0]?).getD 0).toNat 15 8
  let head := (p.take 4).flatMap (fun w => leBytes w.toNat)
  crc16Bytes (head.take 14 ++ ((p.drop 4).take (count + 1)).flatMap (fun w => leBytes w.toNat))

/-- A page from its header fields and its payload, filled up with zero. -/
def mkPage (type region index addr stamp push : Nat) (payload : List Word) : List Word :=
  let h0 := type + region * 4 + (payload.length - 1) * 256 + index * 65536
  let body := payload ++ List.replicate (252 - payload.length) 0
  let head (crc : Nat) : List Word := [BitVec.ofNat 32 h0, BitVec.ofNat 32 addr, BitVec.ofNat 32 stamp, BitVec.ofNat 32 (push + crc * 65536)]
  head (pageCrc (head 0 ++ body)) ++ body

/-- The words of page `i` of region `k` (R404). -/
def State.pageWords (s : State) (k i : Nat) : List Word :=
  let r := s.region k
  (List.range (min 252 (r.2 - 252 * i))).map (fun j => s.capture (r.1 + 1008 * i + 4 * j))

/-- A word with one bit for each index below 32 for which `p` holds at `o` + index. -/
def bitWord (o : Nat) (p : Nat → Bool) : Word := bitSet 32 (fun b => p (o + b))

/-- The run record (Table 15.6). -/
def State.recordNow (s : State) : List Word :=
  let w0 := s.get R.SYS_CORE_RATE_RATE + s.get R.PWR_DOMAIN_STATE_ON * 2 + s.get R.MEM_CTRL_EN * 65536
  let lanes := bitSet 16 s.laneRuns ||| (bitSet 16 (fun n => s.activeBank n == 1) <<< 16)
  let outs := bitSet 22 (fun i => if i < 18 then s.outState i != 0 else s.psState (i - 18) != 0)
  BitVec.ofNat 32 w0
    :: ((List.range 8).map (fun k => bitWord (32 * k) (fun n => s.flowState false n != 0))
      ++ (List.range 8).map (fun k => bitWord (32 * k) (fun n => s.flowState true n != 0))
      ++ [lanes, bitSet 26 (fun n => s.unitState n != 0), bitWord 0 s.siloOpen, bitWord 32 s.siloOpen, outs]
      ++ (List.range 128).map (fun m =>
        BitVec.ofNat 32 (s.get (R.FLOW_TX_SEQ_NOW_NEXT (2 * m)) + s.get (R.FLOW_TX_SEQ_NOW_NEXT (2 * m + 1)) * 65536))
      ++ List.replicate 102 0)

/-! Pushes of the active unit (R406) -/

/-- The units that push: ACTIVE, CHECKING and YIELDING. -/
def State.pushes (s : State) : Bool := [2, 5, 7].contains s.twinState

/-- Every configured data page, in order of region and index. -/
def State.allPages (s : State) : List (Nat × Nat) := s.regions.flatMap (fun k => (List.range (s.regionPages k)).map (fun i => (k, i)))

/-- PUSH_MS, at least 10. -/
def State.pushMs (s : State) : Nat := max 10 (s.get R.TWIN_IMG_CFG_PUSH_MS)

/-- The pages of the rotation's turn: enough that every page travels once a second. -/
def State.rotated (s : State) (all : List (Nat × Nat)) : List (Nat × Nat) :=
  let n := min all.length ((all.length * s.pushMs + 999) / 1000)
  (List.range n).map (fun j => (all[(s.twin.rotation + j) % all.length]?).getD (0, 0))

/-- Add to a list what it does not yet hold. -/
def merge (l m : List (Nat × Nat)) : List (Nat × Nat) := m.foldl (fun l e => if l.contains e then l else l ++ [e]) l

/-- Pages captured now, in the place of older captures of the same pages. -/
def capturedAt (l : List ((Nat × Nat) × Nat)) (pages : List (Nat × Nat)) (stamp : Nat) : List ((Nat × Nat) × Nat) :=
  l.filter (fun e => !pages.contains e.1) ++ pages.map (fun p => (p, stamp))

/-- A push that was never acknowledged gives its dirty pages back. -/
def State.remark (s : State) : State :=
  match s.twin.sent with
  | some (_, pages, _) => { s with twin := { s.twin with sent := none, dirty := merge pages s.twin.dirty } }
  | none => s

/-- The pages of the next push: up to 127 dirty ones, then the rotation's, 127 in all; and the rotation's next place. -/
def State.pushPages (s : State) : List (Nat × Nat) × List (Nat × Nat) × Nat :=
  let all := s.allPages
  let dirty := s.twin.dirty.take 127
  let turn := (s.rotated all).take (127 - dirty.length)
  (dirty, merge dirty turn, if all.isEmpty then 0 else (s.twin.rotation + turn.length) % all.length)

/-- A push: the run record, dirty pages and the rotation's, captured at the boundary at which this stands; then COMMIT. -/
def State.pushNow (s : State) : State :=
  let s := { s with twin := { s.twin with pushDue := false } }
  if s.pushes && s.tlink then
    let s := s.remark
    let (dirty, pages, rotation) := s.pushPages
    let seq := (s.get R.TWIN_IMG_SEQ_PUSH + 1) % 65536
    let stamp := s.time.index / 8 % 2 ^ 32
    let frames := mkPage 2 0 0 0 stamp seq s.recordNow
      :: pages.map (fun e => mkPage 1 e.1 e.2 ((s.region e.1).1 + 1008 * e.2) stamp seq (s.pageWords e.1 e.2))
    let left := s.twin.dirty.drop 127
    let s := if left.isEmpty then s else s.twinEvent 10
    let unacked := capturedAt s.twin.unacked ((32, 0) :: pages) stamp
    let s := { s with twin := { s.twin with dirty := left, rotation, sent := some (seq, dirty, stamp), unacked } }
    let s := frames.foldl (fun s p => s.twinSend 2 (p.flatMap (fun w => leBytes w.toNat))) (s.put R.TWIN_IMG_SEQ_PUSH seq)
    s.twinSend 3 ((leBytes (seq + frames.length * 65536)) ++ leBytes (s.get R.TWIN_IMG_STATUS_PAGES))
  else s

/-- PUSH_MS have passed: the push captures its pages at an engine frame boundary, this one or the next (R406). -/
def State.push (s : State) : State :=
  if s.pushes && s.tlink then
    if s.atBoundary && s.time.begun then s.pushNow else { s with twin := { s.twin with pushDue := true } }
  else s

/-- ACK (R406): the pages of that push, captured at its STAMP, are acknowledged. -/
def State.ackRx (s : State) (push : Nat) : State :=
  match s.twin.sent with
  | some (seq, _, stamp) =>
    if s.pushes && s.tlink && seq == push then
      { s with twin := { s.twin with sent := none, unacked := s.twin.unacked.filter (fun e => e.2 != stamp) } }.put R.TWIN_IMG_SEQ_ACKED push
    else s
  | none => s

/-! The store of the standby (R406) -/

/-- A store with page `p` in the place of the one it replaces. -/
def putPage (l : List (List Word)) (p : List Word) : List (List Word) := l.filter (fun q => pageKey q != pageKey p) ++ [p]

/-- Restore the valid words of a data page. -/
def State.restorePage (s : State) (p : List Word) : State :=
  let (_, k, i) := pageKey p
  let r := s.region k
  let words := ((p.drop 4).take (bitsOf ((p[0]?).getD 0).toNat 15 8 + 1)).take (r.2 - 252 * i)
  (words.foldl (fun (a : Nat × State) w => (a.1 + 4, a.2.restoreWord a.1 w)) (r.1 + 1008 * i, s)).2

/-- A newer run record in PREPARE: domains, MEM_EN and the core rate that it records are asked for as steps 2, 3 and 5 of R407 do. -/
def State.recordAgain (s : State) : State :=
  let l := s.runRecord
  let want := domSet ((s.rd R.PWR_DOMAIN_REQ).toNat ||| recWord l 0 % 65536)
  let s := { s with twin := { s.twin with memRecorded := (recWord l 0).testBit 16 } }
  let s := if want = domSet (s.rd R.PWR_DOMAIN_REQ).toNat then s else (s.wr R.PWR_DOMAIN_REQ (BitVec.ofNat 32 want)).domainsApply
  let s := if l.isEmpty ∨ recWord l 0 % 2 = s.get R.SYS_CORE_RATE_RATE then s else s.coreRateWrite (BitVec.ofNat 32 (recWord l 0 % 2))
  if s.twin.memRecorded && (s.twin.take.map (fun t => t.restored)).getD false && !s.flag R.MEM_CTRL_EN then
    s.memCtrlWrite (R.MEM_CTRL_EN.inWord 0 1)
  else s

/-- In PREPARE a committed push is restored as it arrives: its pages of regions that have been restored (R409). -/
def State.prepareRestore (s : State) (l : List (List Word)) : State :=
  match s.twin.take with
  | some t =>
    if s.twinState = 6 then
      let s := { s with twin := { s.twin with take := some { t with record := if t.ran then t.record else s.runRecord } } }
      let s := s.recordAgain
      s.regions.foldl (fun s k =>
        if k < t.next then (List.range (s.regionPages k)).foldl (fun s i =>
          match l.find? (fun p => pageKey p == (1, k, i)) with
          | some p => s.restorePage p
          | none => s) s
        else s) s
    else s
  | none => s

/-- A staged push is whole: it is committed in one step, and acknowledged. -/
def State.commitPush (s : State) : State :=
  match s.twin.commit with
  | some (push, pages, total) =>
    if push = s.twin.stagedPush ∧ s.twin.staged.length = pages then
      let l := s.twin.staged
      let store := l.foldl putPage s.twin.store
      let s := { s with twin := { s.twin with store, staged := [], commit := none, total } }
      let data := (store.filter (fun p => (pageKey p).1 == 1)).length
      let s := s.put R.TWIN_IMG_SEQ_PUSH push
      let s := if total ≤ data ∧ ¬ s.runRecord.isEmpty then s.raise R.TWIN_STATUS_IMG_VALID else s
      (s.prepareRestore l).twinSend 4 (leBytes (push % 65536))
    else s
  | none => s

/-- Whether this unit takes an image: STANDBY and PREPARE, over a link that is UP. -/
def State.takesImage (s : State) : Bool := (s.twinState == 3 || s.twinState == 6) && s.tlink

/-- A page arrives. A frame of any type whose CRC has failed, and one of a reserved type, is discarded here, with `crcOk` false (R392;
log entry 328). A page of another push discards what the last one left incomplete. -/
def State.pageRx (s : State) (crcOk : Bool) (p : List Word) : State :=
  let crc := bitsOf ((p[3]?).getD 0).toNat 31 16
  let push := bitsOf ((p[3]?).getD 0).toNat 15 0
  let type := (pageKey p).1
  if s.takesImage && crcOk && p.length == 256 && (type == 1 || type == 2) && crc == pageCrc p then
    let s := if push = s.twin.stagedPush then s
      else { s with twin := { s.twin with staged := [], commit := none, stagedPush := push } }
    let staged := putPage s.twin.staged p
    if staged.length ≤ 128 then { s with twin := { s.twin with staged } }.commitPush else s
  else s

/-- A COMMIT frame arrives. -/
def State.commitRx (s : State) (push pages total : Nat) : State :=
  if s.takesImage then
    let s := if push = s.twin.stagedPush then s
      else { s with twin := { s.twin with staged := [], stagedPush := push } }
    { s with twin := { s.twin with commit := some (push, pages, total) } }.commitPush
  else s

def execTwinPageRx (crcOk : Bool) (words : List (BitVec 32)) (s : State) : Result := finish (s.pageRx crcOk words)
def execTwinCommitRx (push pages total : BitVec 16) (s : State) : Result :=
  finish (s.commitRx push.toNat pages.toNat total.toNat)
def execTwinAckRx (push : BitVec 16) (s : State) : Result := finish (s.ackRx push.toNat)
def execImagePush (s : State) : Result := finish s.push

end Sys2Proof.Machine
end

