-- ==== Sys2Proof/Machine/TwinRestore.lean ====
section
/-!
DEFINITION. What a TAKEOVER or a PREPARE carries out after its domains (R407, R409): the regions, the run record, the common
start; and the engine frame boundary with the twin controller's part in it (R8, R409).
-/
namespace Sys2Proof.Machine

/-- Bit `b` of the run record from word `k` on. -/
def recBit (l : List Word) (k b : Nat) : Bool := (recWord l (k + b / 32)).testBit (b % 32)

/-- A recorded unit was refused (R407). -/
def State.unitsRefused (s : State) : State := { s with twin := { s.twin with units := false } }

def State.setTake (s : State) (t : TwinTake) : State := { s with twin := { s.twin with take := some t } }

/-! Starting what the record names (R407 step 5) -/

def State.takeSilos (s : State) (l : List Word) : State :=
  forN 64 (fun n s =>
    if recBit l 19 n then
      let s := s.siloCtrlWrite n 1
      if s.siloOpen n then s else s.unitsRefused
    else s) s

/-- SEQ_INIT of each recorded transmit flow goes on SEQ_SKIP past NEXT. -/
def State.takeSeqs (s : State) (l : List Word) : State :=
  forN 256 (fun f s =>
    if recBit l 9 f then
      let next := recWord l (22 + f / 2) / 2 ^ (16 * (f % 2)) % 65536
      s.put (R.FLOW_TX_SEQ_SEQ_INIT f) ((next + s.get R.TWIN_IMG_CFG_SEQ_SKIP) % 65536)
    else s) s

def State.takeLanes (s : State) (l : List Word) : State :=
  forN 16 (fun n s =>
    if recBit l 17 n then
      let w := (R.LANE_CTRL_START_BANK n).inWord (s.rd (R.LANE_CTRL n) &&& 0xF38) (toBit (recBit l 17 (16 + n)))
      s.laneCtrlWrite n ((R.LANE_CTRL_CMD n).inWord w 1)
    else s) s

def State.takeFlows (s : State) (l : List Word) : State :=
  let s := forN 256 (fun f s => if recBit l 1 f then s.flowCtrlWrite false f 9 else s) s
  forN 256 (fun f s => if recBit l 9 f then s.flowCtrlWrite true f 9 else s) s

def State.takeUnits (s : State) (l : List Word) : State :=
  forN 26 (fun n s => if recBit l 18 n then s.unitCtrlWrite n ((s.rd (R.PORT_U_CTRL n) &&& 0x20) ||| 9) else s) s

def State.takeOutputs (s : State) (l : List Word) : State :=
  forN 18 (fun n s => if recBit l 21 n then s.outCtrlWrite n 1 else s) s

/-- The recorded power stage channels START. -/
def State.takePs (s : State) (t : TwinTake) : State :=
  let s := forN 4 (fun p s =>
    if recBit t.record 21 (18 + p) then
      let s := s.psCtrlWrite p ((R.PSC_CTRL_CMD p).inWord 0 1)
      if s.on .pstage && s.get (R.PSC_STATUS_RESULT p) == 0 then s else s.unitsRefused
    else s) s
  s.setTake { t with psDue := false }

/-- The run record is carried out, once MEM is READY where it is recorded. -/
def State.takeRun (s : State) (t : TwinTake) : State :=
  let l := t.record
  let s := ((((((s.commitWrite 1).takeSilos l).takeSeqs l).takeLanes l).takeFlows l).takeUnits l).takeOutputs l
  let t := { t with restored := true, ran := true }
  if s.twinState = 4 ∧ s.owns ∧ t.psDue then s.takePs t else s.setTake t

/-- The recorded domains are on. -/
def State.recordedOn (s : State) (l : List Word) : Bool :=
  (List.range 16).all (fun d => d == 0 || !(recWord l 0).testBit d || s.domOn d)

/-- Every region is restored: MEM.CTRL.EN is set where it is recorded, and the rest waits for READY. -/
def State.takeMem (s : State) (t : TwinTake) : State :=
  if !s.recordedOn t.record then s
  else if !s.twin.memRecorded || s.get R.MEM_STATUS_STATE == 2 then s.takeRun t
  else
    let s := if s.flag R.MEM_CTRL_EN then s else s.memCtrlWrite (R.MEM_CTRL_EN.inWord 0 1)
    s.setTake { t with restored := true }

/-- The words of region `k`, from the pages held, in ascending order. -/
def State.restoreRegion (s : State) (k : Nat) : State :=
  (List.range (s.regionPages k)).foldl (fun s i =>
    match s.twin.store.find? (fun p => pageKey p == (1, k, i)) with
    | some p => s.restorePage p
    | none => s) s

/-- Whether the domains of the blocks a region covers are on. -/
def State.regionOn (s : State) (k : Nat) : Bool :=
  (List.range (s.region k).2).all (fun j => s.accessible (canon ((s.region k).1 + 4 * j)))

/-- The next region, its domains being on, is restored; the run record follows the last (R407 steps 4 and 5). -/
def State.takeRegion (s : State) : State :=
  match s.twin.take with
  | some t =>
    if (s.twinState = 4 ∨ s.twinState = 6) ∧ ¬ t.restored ∧ ¬ t.ran then
      match s.regions.find? (fun k => t.next ≤ k) with
      | some k =>
        if s.regionOn k then
          let t := { t with next := k + 1 }
          let s := (s.restoreRegion k).setTake t
          if s.regions.any (fun j => k < j) then s else s.takeMem t
        else s
      | none => s.takeMem t
    else s
  | none => s

/-- The DRAM has trained, or has failed to: what waited for READY goes on. -/
def State.takeMemEnds (s : State) : State :=
  match s.twin.take with
  | some t =>
    if t.restored ∧ ¬ t.ran ∧ (s.twinState = 4 ∨ s.twinState = 6) then
      if s.get R.MEM_STATUS_STATE = 2 then s.takeRun t
      else if s.get R.MEM_STATUS_STATE = 4 then s.unitsRefused.takeRun t
      else s
    else s
  | none => s

/-- A recorded lane's image has been verified: where it was refused the unit is left out. -/
def State.takeLaneEnds (s : State) (n : Nat) : State :=
  match s.twin.take with
  | some t => if t.ran && recBit t.record 17 n && !s.laneRuns n && (s.lane n).verify.isEmpty then s.unitsRefused else s
  | none => s

/-! The common start (R407 step 6, R409) -/

/-- A member that is still to become ARMED. -/
def State.arming (s : State) : Bool :=
  s.flow.rx.any (fun e => e.2.common && e.2.allocating) || s.flow.tx.any (fun e => e.2.common && e.2.allocating)

/-- A recorded flow, serial unit or output that did not start. -/
def State.leftOut (s : State) (l : List Word) : Bool :=
  (List.range 256).any (fun f => recBit l 1 f && !has s.flow.rx f)
    || (List.range 256).any (fun f => recBit l 9 f && !has s.flow.tx f)
    || (List.range 26).any (fun n => recBit l 18 n && s.unitState n == 0)
    || (List.range 18).any (fun n => recBit l 21 n && s.outState n == 0)

/-- The trigger is armed with TRIG 1: it fires at S, the next engine frame boundary; `t` is the time from declaration to S. -/
def State.armStart (s : State) (t : Nat) : State :=
  match s.twin.take with
  | some x =>
    if s.twinState = 4 ∧ s.owns ∧ x.ran ∧ x.start.isNone ∧ ¬ s.arming then
      let s := if s.leftOut x.record then s.unitsRefused else s
      (s.startWrite 3).setTake { x with start := some s.nextBoundary, time := t }
    else s
  | none => s

/-- S of a takeover is reached: CHECKING (R393). -/
def State.takeS (s : State) : State :=
  match s.twin.take with
  | some t =>
    if s.twinState = 4 ∧ (t.start.map (fun v => decide (v ≤ s.time.index))).getD false then
      let s := ((s.setTwinState 5).countSat R.TWIN_CNT_TAKEOVERS).put R.TWIN_LAST_TAKE_TIME t.time
      s.log 0x41 1 t.time (s.rd R.TWIN_PEER_OFS).toNat
    else if s.twinState = 5 ∧ t.psDue ∧ (t.start.map (fun v => decide (v ≤ s.time.index))).getD false then s.takePs t
    else s
  | none => s

/-- Every enabled input is RUNNING. -/
def State.inputsRun (s : State) : Bool := (List.range 16).all (fun i => !s.flag (R.ANA_IN_CFG_EN i) || s.ainState i == 2)

/-- T is ready (R409 step 2): READY carries H, the first boundary at least 10 ms later. -/
def State.sendReady (s : State) : State :=
  match s.twin.take with
  | some t =>
    if s.twinState = 6 ∧ t.ran ∧ t.ready.isNone ∧ ¬ s.arming ∧ s.inputsRun
        ∧ (¬ s.twin.memRecorded ∨ s.get R.MEM_STATUS_STATE = 2) then
      let h := roundUp 8 (s.time.index + s.rate / 100)
      let s := if s.leftOut t.record then s.unitsRefused else s
      let s := (s.setTake { t with ready := some h }).handoverSend 2 h
      if s.ownIn then { s with twin := { s.twin with want := true } } else s.ownRaise
    else s
  | none => s

/-- A push that waited for the boundary captures its pages at it (R406). -/
def State.pushTurn (s : State) : State := if s.twin.pushDue then s.pushNow else s

/-- An engine frame boundary, with what the twin controller does there. -/
def State.boundary (s : State) : State :=
  if s.on .clk && s.atBoundary && !s.time.begun then s.frame.takeS.yieldFade.sendReady.standbyFrame.pushTurn else s

/-- The guard passes; power stage channels that waited for ownership in a TAKEOVER start (R407). -/
def State.guardPassed (s : State) : State :=
  let s := s.guardExpire
  match s.twin.take with
  | some t => if s.twinState = 4 ∧ s.owns ∧ t.ran ∧ t.psDue then s.takePs t else s
  | none => s

def execEngineFrameBoundary (s : State) : Result := finish s.boundary
def execTakeoverRegionRestore (s : State) : Result := finish s.takeRegion
def execTakeoverArmStart (t : BitVec 16) (s : State) : Result := finish (s.armStart t.toNat)
def execOwnGuardExpire (s : State) : Result := finish s.guardPassed
def execMemTrainDone (s : State) : Result := finish s.memTrained.takeMemEnds
def execMemTrainFail (s : State) : Result := finish s.memFailed.takeMemEnds
def execLaneVerifyDone (n : Fin 16) (s : State) : Result := finish ((s.laneVerified n).takeLaneEnds n)

end Sys2Proof.Machine
end

