-- ==== Sys2Proof/Machine/Dispatch.lean ====
section
/-!
DEFINITION. What each command does: one arm for each row of spec/opcode_table.json, each one call of its meaning.
-/
namespace Sys2Proof.Machine

def exec (i : Instr) (s : State) : Host.Outcome State Fault Refusal :=
  match i with
  -- media time and the engine frame (chapters 0 and 3)
  | .sampleTick => Sys2Proof.Machine.execSampleTick s
  | .engineFrameBoundary => Sys2Proof.Machine.execEngineFrameBoundary s
  -- the Stalk link (chapter 1)
  | .stalkFlitRx die flit => Sys2Proof.Machine.execStalkFlitRx die flit s
  | .stalkHeartbeatSend die => Sys2Proof.Machine.execStalkHeartbeatSend die s
  | .stalkHeartbeatRx die => Sys2Proof.Machine.execStalkHeartbeatRx die s
  | .stalkMarginRetrain eye => Sys2Proof.Machine.execStalkMarginRetrain eye s
  | .stalkCrcBurstRetrain => Sys2Proof.Machine.execStalkCrcBurstRetrain s
  | .stalkRetrainDone => Sys2Proof.Machine.execStalkRetrainDone s
  | .stalkSilenceTimeout die => Sys2Proof.Machine.execStalkSilenceTimeout die s
  | .stalkTrainAttemptFail die => Sys2Proof.Machine.execStalkTrainAttemptFail die s
  | .stalkMclkAbsent => Sys2Proof.Machine.execStalkMclkAbsent s
  | .stalkRetrain w => Sys2Proof.Machine.execStalkRetrain w s
  | .stalkResume w => Sys2Proof.Machine.execStalkResume w s
  | .stalkTrainDone => Sys2Proof.Machine.execStalkTrainDone s
  -- islands and domains (chapter 1)
  | .tdiffCompare dHigh aHigh => Sys2Proof.Machine.execTdiffCompare dHigh aHigh s
  | .islandEdgeStretch n => Sys2Proof.Machine.execIslandEdgeStretch n s
  | .islTargetChange lane dl w => Sys2Proof.Machine.execIslTargetChange lane dl w s
  | .islandSettleDone n => Sys2Proof.Machine.execIslandSettleDone n s
  | .domainReqWrite w => Sys2Proof.Machine.execDomainReqWrite w s
  | .domainWakeDone d => Sys2Proof.Machine.execDomainWakeDone d s
  | .domainSleepDone d => Sys2Proof.Machine.execDomainSleepDone d s
  | .domainReset w => Sys2Proof.Machine.execDomainReset w s
  | .domainResetDone d => Sys2Proof.Machine.execDomainResetDone d s
  -- host ports (chapter 2)
  | .d3hotEnter => Sys2Proof.Machine.execD3hotEnter s
  | .d0Return => Sys2Proof.Machine.execD0Return s
  | .dmaCompletionError ch => Sys2Proof.Machine.execDmaCompletionError ch s
  | .qspiReadSingle addr => Sys2Proof.Machine.execQspiReadSingle addr s
  | .qspiWriteSingle addr => Sys2Proof.Machine.execQspiWriteSingle addr s
  | .qspiReadQuad addr => Sys2Proof.Machine.execQspiReadQuad addr s
  | .qspiWriteQuad addr => Sys2Proof.Machine.execQspiWriteQuad addr s
  | .qspiReadStatus => Sys2Proof.Machine.execQspiReadStatus s
  | .qspiUnknownOpcode op => Sys2Proof.Machine.execQspiUnknownOpcode op s
  | .qspiReadNextWord => Sys2Proof.Machine.execQspiReadNextWord s
  | .qspiWriteWord w => Sys2Proof.Machine.execQspiWriteWord w s
  | .qspiCsRise => Sys2Proof.Machine.execQspiCsRise s
  | .registerWrite p addr size split w => Sys2Proof.Machine.execRegisterWrite p addr size split w s
  | .unassignedRead p addr => Sys2Proof.Machine.execUnassignedRead p addr s
  | .rolRead p addr => Sys2Proof.Machine.execRolRead p addr s
  | .rcFieldRead p addr size => Sys2Proof.Machine.execRcFieldRead p addr size s
  | .guardedFirstWrite p addr w => Sys2Proof.Machine.execGuardedFirstWrite p addr w s
  | .guardTwinWrite p addr w => Sys2Proof.Machine.execGuardTwinWrite p addr w s
  | .guardTimeout p => Sys2Proof.Machine.execGuardTimeout p s
  | .bitAliasWrite p addr w => Sys2Proof.Machine.execBitAliasWrite p addr w s
  | .anaPostedWriteEffect p => Sys2Proof.Machine.execAnaPostedWriteEffect p s
  | .irqAck w => Sys2Proof.Machine.execIrqAck w s
  | .msixUnmask v => Sys2Proof.Machine.execMsixUnmask v s
  | .abortLane all idx => Sys2Proof.Machine.execAbortLane all idx s
  | .abortRxFlow all idx => Sys2Proof.Machine.execAbortRxFlow all idx s
  | .abortTxFlow all idx => Sys2Proof.Machine.execAbortTxFlow all idx s
  | .abortSilo all idx => Sys2Proof.Machine.execAbortSilo all idx s
  | .abortSerialPort all idx => Sys2Proof.Machine.execAbortSerialPort all idx s
  | .abortMcv all idx => Sys2Proof.Machine.execAbortMcv all idx s
  | .abortDmaChannel all idx => Sys2Proof.Machine.execAbortDmaChannel all idx s
  | .abortDramQueue all idx => Sys2Proof.Machine.execAbortDramQueue all idx s
  | .abortPsChannel all idx => Sys2Proof.Machine.execAbortPsChannel all idx s
  | .abortBadClass cls all idx => Sys2Proof.Machine.execAbortBadClass cls all idx s
  | .abortComplete us => Sys2Proof.Machine.execAbortComplete us s
  | .coreRateWrite w => Sys2Proof.Machine.execCoreRateWrite w s
  | .coreRateEffect => Sys2Proof.Machine.execCoreRateEffect s
  -- resets (chapter 17)
  | .powerOnReset => Sys2Proof.Machine.execPowerOnReset s
  | .rstNReset hostSel twinPref bootSrc => Sys2Proof.Machine.execRstNReset hostSel twinPref bootSrc s
  | .deviceReset => Sys2Proof.Machine.execDeviceReset s
  | .warmReset => Sys2Proof.Machine.execWarmReset s
  | .hostReset linkDown => Sys2Proof.Machine.execHostReset linkDown s
  | .aDieResetRelease => Sys2Proof.Machine.execADieResetRelease s
  -- Vetiver (chapter 3)
  | .refSlotConfigWrite slot word w => Sys2Proof.Machine.execRefSlotConfigWrite slot word w s
  | .refEdgeEvent slot edge => Sys2Proof.Machine.execRefEdgeEvent slot edge s
  | .refLoss slot => Sys2Proof.Machine.execRefLoss slot s
  | .refRateError slot => Sys2Proof.Machine.execRefRateError slot s
  | .refRateRecover slot rate => Sys2Proof.Machine.execRefRateRecover slot rate s
  | .refGlitchRecover slot => Sys2Proof.Machine.execRefGlitchRecover slot s
  | .refQualify slot freq => Sys2Proof.Machine.execRefQualify slot freq s
  | .formerWindowExpire => Sys2Proof.Machine.execFormerWindowExpire s
  | .voteTick freqs => Sys2Proof.Machine.execVoteTick freqs s
  | .voteRequalify slot freqs => Sys2Proof.Machine.execVoteRequalify slot freqs s
  | .switchStart slot => Sys2Proof.Machine.execSwitchStart slot s
  | .switchMeasureEnd => Sys2Proof.Machine.execSwitchMeasureEnd s
  | .switchCommit => Sys2Proof.Machine.execSwitchCommit s
  | .wtrExpire slot => Sys2Proof.Machine.execWtrExpire slot s
  | .vetLock => Sys2Proof.Machine.execVetLock s
  | .gearStep => Sys2Proof.Machine.execGearStep s
  | .holdoverExpire => Sys2Proof.Machine.execHoldoverExpire s
  | .freeWordWrite w => Sys2Proof.Machine.execFreeWordWrite w s
  | .vetCtrlWrite w => Sys2Proof.Machine.execVetCtrlWrite w s
  | .loopModeAuto w => Sys2Proof.Machine.execLoopModeAuto w s
  | .loopModeForced w => Sys2Proof.Machine.execLoopModeForced w s
  | .loopModeOpen w => Sys2Proof.Machine.execLoopModeOpen w s
  | .hostWordWrite w => Sys2Proof.Machine.execHostWordWrite w s
  | .realignStepRef w => Sys2Proof.Machine.execRealignStepRef w s
  | .realignSlewRef w => Sys2Proof.Machine.execRealignSlewRef w s
  | .realignStepValue w => Sys2Proof.Machine.execRealignStepValue w s
  | .realignTimedDue => Sys2Proof.Machine.execRealignTimedDue s
  | .realignStepApply => Sys2Proof.Machine.execRealignStepApply s
  | .realignComplete => Sys2Proof.Machine.execRealignComplete s
  | .snap => Sys2Proof.Machine.execSnap s
  -- clock synthesis (chapter 4)
  | .adpllLock n => Sys2Proof.Machine.execAdpllLock n s
  | .adpllPhaseErrorCoast n errPs => Sys2Proof.Machine.execAdpllPhaseErrorCoast n errPs s
  | .oscLoss xo => Sys2Proof.Machine.execOscLoss xo s
  | .oscRestored xo => Sys2Proof.Machine.execOscRestored xo s
  | .oscFreqCompare ppb => Sys2Proof.Machine.execOscFreqCompare ppb s
  | .fwApply => Sys2Proof.Machine.execFwApply s
  | .adpll1Enable w => Sys2Proof.Machine.execAdpll1Enable w s
  | .adpll1Disable w => Sys2Proof.Machine.execAdpll1Disable w s
  | .adpll1Apply w => Sys2Proof.Machine.execAdpll1Apply w s
  | .oscCfgWrite w => Sys2Proof.Machine.execOscCfgWrite w s
  | .ckoutEnable n w => Sys2Proof.Machine.execCkoutEnable n w s
  | .ckoutDisable n w => Sys2Proof.Machine.execCkoutDisable n w s
  | .ckoutDivWrite n w => Sys2Proof.Machine.execCkoutDivWrite n w s
  | .ckoutDelayWrite n w => Sys2Proof.Machine.execCkoutDelayWrite n w s
  | .ckoutStart n => Sys2Proof.Machine.execCkoutStart n s
  | .syncArm w => Sys2Proof.Machine.execSyncArm w s
  | .syncDisarm w => Sys2Proof.Machine.execSyncDisarm w s
  | .syncInEdge highCycles misaligned => Sys2Proof.Machine.execSyncInEdge highCycles misaligned s
  -- network ports (chapter 5)
  | .netCtrlWrite x w => Sys2Proof.Machine.execNetCtrlWrite x w s
  | .anComplete x mbps => Sys2Proof.Machine.execAnComplete x mbps s
  | .linkUp x los => Sys2Proof.Machine.execLinkUp x los s
  | .linkDown x cause => Sys2Proof.Machine.execLinkDown x cause s
  | .mdioCommand w => Sys2Proof.Machine.execMdioCommand w s
  | .mdioDone rdata => Sys2Proof.Machine.execMdioDone rdata s
  | .frameReceive x fcsOk bytes t => Sys2Proof.Machine.execFrameReceive x fcsOk bytes t s
  | .ptpSyncRx x m t => Sys2Proof.Machine.execPtpSyncRx x m t s
  | .ptpFollowUpRx x m => Sys2Proof.Machine.execPtpFollowUpRx x m s
  | .ptpDelayReqRx x m t => Sys2Proof.Machine.execPtpDelayReqRx x m t s
  | .ptpDelayRespRx x m => Sys2Proof.Machine.execPtpDelayRespRx x m s
  | .ptpAnnounceRx x m t => Sys2Proof.Machine.execPtpAnnounceRx x m t s
  | .followUpTimeout x => Sys2Proof.Machine.execFollowUpTimeout x s
  | .announceReceiptTimeout x source => Sys2Proof.Machine.execAnnounceReceiptTimeout x source s
  | .delayReqSend x => Sys2Proof.Machine.execDelayReqSend x s
  | .announceSend x => Sys2Proof.Machine.execAnnounceSend x s
  | .syncSend x => Sys2Proof.Machine.execSyncSend x s
  | .ptpRoleWrite x w => Sys2Proof.Machine.execPtpRoleWrite x w s
  | .ptpRatesWrite x w => Sys2Proof.Machine.execPtpRatesWrite x w s
  | .hostFrameTx => Sys2Proof.Machine.execHostFrameTx s
  | .hostFrameLaunch => Sys2Proof.Machine.execHostFrameLaunch s
  | .txTimestampCapture x => Sys2Proof.Machine.execTxTimestampCapture x s
  | .txtsRead p x => Sys2Proof.Machine.execTxtsRead p x s
  | .portTxFrameEnd x => Sys2Proof.Machine.execPortTxFrameEnd x s
  | .igmpJoin w => Sys2Proof.Machine.execIgmpJoin w s
  | .igmpLeave w => Sys2Proof.Machine.execIgmpLeave w s
  | .igmpReportAll w => Sys2Proof.Machine.execIgmpReportAll w s
  | .igmpRepeat job => Sys2Proof.Machine.execIgmpRepeat job s
  | .igmpQueryRx x q => Sys2Proof.Machine.execIgmpQueryRx x q s
  | .igmpQueryResponse x => Sys2Proof.Machine.execIgmpQueryResponse x s
  | .igmpV2Timeout x => Sys2Proof.Machine.execIgmpV2Timeout x s
  -- audio flows (chapter 6)
  | .flowRxStart n w => Sys2Proof.Machine.execFlowRxStart n w s
  | .flowRxStop n w => Sys2Proof.Machine.execFlowRxStop n w s
  | .flowTxStart n w => Sys2Proof.Machine.execFlowTxStart n w s
  | .flowTxStop n w => Sys2Proof.Machine.execFlowTxStop n w s
  | .flowClearCounters rx n w => Sys2Proof.Machine.execFlowClearCounters rx n w s
  | .flowArmed rx n => Sys2Proof.Machine.execFlowArmed rx n s
  | .flowStartIndex rx n => Sys2Proof.Machine.execFlowStartIndex rx n s
  | .flowStopIndex rx n => Sys2Proof.Machine.execFlowStopIndex rx n s
  | .flowIdle rx n => Sys2Proof.Machine.execFlowIdle rx n s
  | .flowPacketRx x p t => Sys2Proof.Machine.execFlowPacketRx x p t s
  | .flowRxPortSilent n x => Sys2Proof.Machine.execFlowRxPortSilent n x s
  | .flowMonitorTick n => Sys2Proof.Machine.execFlowMonitorTick n s
  | .flowTxLaunch n => Sys2Proof.Machine.execFlowTxLaunch n s
  | .flowCsCaptureArm w => Sys2Proof.Machine.execFlowCsCaptureArm w s
  -- route fabric (chapter 7)
  | .routeCommitGo w => Sys2Proof.Machine.execRouteCommitGo w s
  | .routeRevert w => Sys2Proof.Machine.execRouteRevert w s
  | .routeCancel w => Sys2Proof.Machine.execRouteCancel w s
  | .routeCommitApply => Sys2Proof.Machine.execRouteCommitApply s
  | .xfadeEnd n => Sys2Proof.Machine.execXfadeEnd n s
  | .muteSet n => Sys2Proof.Machine.execMuteSet n s
  | .muteClr n => Sys2Proof.Machine.execMuteClr n s
  | .toneWrite w => Sys2Proof.Machine.execToneWrite w s
  | .srcLock n ratio => Sys2Proof.Machine.execSrcLock n ratio s
  | .srcRateChange n ratio => Sys2Proof.Machine.execSrcRateChange n ratio s
  | .directPathApply => Sys2Proof.Machine.execDirectPathApply s
  -- Spelt engine and DRAM (chapter 8)
  | .laneStart n w => Sys2Proof.Machine.execLaneStart n w s
  | .laneStop n w => Sys2Proof.Machine.execLaneStop n w s
  | .laneSwap n w => Sys2Proof.Machine.execLaneSwap n w s
  | .laneCancelSwap n w => Sys2Proof.Machine.execLaneCancelSwap n w s
  | .laneVerifyDone n => Sys2Proof.Machine.execLaneVerifyDone n s
  | .crosspointWrite e w => Sys2Proof.Machine.execCrosspointWrite e w s
  | .dqStart q w => Sys2Proof.Machine.execDqStart q w s
  | .dqStop q w => Sys2Proof.Machine.execDqStop q w s
  | .dqTapWrite q l w => Sys2Proof.Machine.execDqTapWrite q l w s
  | .dqPopDataArrive n cycles => Sys2Proof.Machine.execDqPopDataArrive n cycles s
  | .memEnable w => Sys2Proof.Machine.execMemEnable w s
  | .memDisable w => Sys2Proof.Machine.execMemDisable w s
  | .memRetrain w => Sys2Proof.Machine.execMemRetrain w s
  | .memTrainDone => Sys2Proof.Machine.execMemTrainDone s
  | .memTrainFail => Sys2Proof.Machine.execMemTrainFail s
  | .memRetrainDone => Sys2Proof.Machine.execMemRetrainDone s
  | .dramBurstComplete cls late => Sys2Proof.Machine.execDramBurstComplete cls late s
  | .laneHalt n w => Sys2Proof.Machine.execLaneHalt n w s
  | .laneResume n w => Sys2Proof.Machine.execLaneResume n w s
  | .laneStep n w => Sys2Proof.Machine.execLaneStep n w s
  | .laneRegsWrite n off w => Sys2Proof.Machine.execLaneRegsWrite n off w s
  -- Spelt instructions (chapter 9)
  | .iNop n f => Sys2Proof.Machine.execINop n f s
  | .iLdv n f => Sys2Proof.Machine.execILdv n f s
  | .iStv n f => Sys2Proof.Machine.execIStv n f s
  | .iLds n f => Sys2Proof.Machine.execILds n f s
  | .iSts n f => Sys2Proof.Machine.execISts n f s
  | .iLdvx n f => Sys2Proof.Machine.execILdvx n f s
  | .iIns n f => Sys2Proof.Machine.execIIns n f s
  | .iOuts n f => Sys2Proof.Machine.execIOuts n f s
  | .iMova n f => Sys2Proof.Machine.execIMova n f s
  | .iAdda n f => Sys2Proof.Machine.execIAdda n f s
  | .iMovas n f => Sys2Proof.Machine.execIMovas n f s
  | .iMovsa n f => Sys2Proof.Machine.execIMovsa n f s
  | .iMovs n f => Sys2Proof.Machine.execIMovs n f s
  | .iMovfs n f => Sys2Proof.Machine.execIMovfs n f s
  | .iClrf n f => Sys2Proof.Machine.execIClrf n f s
  | .iMovls n f => Sys2Proof.Machine.execIMovls n f s
  | .iVadd n f => Sys2Proof.Machine.execIVadd n f s
  | .iVsub n f => Sys2Proof.Machine.execIVsub n f s
  | .iVmul n f => Sys2Proof.Machine.execIVmul n f s
  | .iVmac n f => Sys2Proof.Machine.execIVmac n f s
  | .iVmuls n f => Sys2Proof.Machine.execIVmuls n f s
  | .iVmacs n f => Sys2Proof.Machine.execIVmacs n f s
  | .iVabs n f => Sys2Proof.Machine.execIVabs n f s
  | .iVmax n f => Sys2Proof.Machine.execIVmax n f s
  | .iVmin n f => Sys2Proof.Machine.execIVmin n f s
  | .iVclip n f => Sys2Proof.Machine.execIVclip n f s
  | .iVmov n f => Sys2Proof.Machine.execIVmov n f s
  | .iVbcst n f => Sys2Proof.Machine.execIVbcst n f s
  | .iVext n f => Sys2Proof.Machine.execIVext n f s
  | .iVins n f => Sys2Proof.Machine.execIVins n f s
  | .iVsum n f => Sys2Proof.Machine.execIVsum n f s
  | .iVpeak n f => Sys2Proof.Machine.execIVpeak n f s
  | .iSadd n f => Sys2Proof.Machine.execISadd n f s
  | .iSsub n f => Sys2Proof.Machine.execISsub n f s
  | .iSmul n f => Sys2Proof.Machine.execISmul n f s
  | .iSmac n f => Sys2Proof.Machine.execISmac n f s
  | .iSmax n f => Sys2Proof.Machine.execISmax n f s
  | .iSmin n f => Sys2Proof.Machine.execISmin n f s
  | .iScmp n f => Sys2Proof.Machine.execIScmp n f s
  | .iSiadd n f => Sys2Proof.Machine.execISiadd n f s
  | .iSand n f => Sys2Proof.Machine.execISand n f s
  | .iSor n f => Sys2Proof.Machine.execISor n f s
  | .iSxor n f => Sys2Proof.Machine.execISxor n f s
  | .iSshf n f => Sys2Proof.Machine.execISshf n f s
  | .iSicmp n f => Sys2Proof.Machine.execISicmp n f s
  | .iScvtf n f => Sys2Proof.Machine.execIScvtf n f s
  | .iScvti n f => Sys2Proof.Machine.execIScvti n f s
  | .iGwamp n f => Sys2Proof.Machine.execIGwamp n f s
  | .iMix n f => Sys2Proof.Machine.execIMix n f s
  | .iMixv n f => Sys2Proof.Machine.execIMixv n f s
  | .iBiq n f => Sys2Proof.Machine.execIBiq n f s
  | .iEnv n f => Sys2Proof.Machine.execIEnv n f s
  | .iVlog2 n f => Sys2Proof.Machine.execIVlog2 n f s
  | .iVexp2 n f => Sys2Proof.Machine.execIVexp2 n f s
  | .iGainc n f => Sys2Proof.Machine.execIGainc n f s
  | .iRamp n f => Sys2Proof.Machine.execIRamp n f s
  | .iDqpush n f => Sys2Proof.Machine.execIDqpush n f s
  | .iDqpop n f => Sys2Proof.Machine.execIDqpop n f s
  | .iSpush n f => Sys2Proof.Machine.execISpush n f s
  | .iSpushs n f => Sys2Proof.Machine.execISpushs n f s
  | .iSpktOpen n f => Sys2Proof.Machine.execISpktOpen n f s
  | .iSpktClose n f => Sys2Proof.Machine.execISpktClose n f s
  | .iBr n f => Sys2Proof.Machine.execIBr n f s
  | .iLoop n f => Sys2Proof.Machine.execILoop n f s
  | .iFend n f => Sys2Proof.Machine.execIFend n f s
  | .iTrap n f => Sys2Proof.Machine.execITrap n f s
  | .illegalInstruction n op f => Sys2Proof.Machine.execIllegalInstruction n op f s
  -- silos and DMA (chapter 10)
  | .siloOpen n w => Sys2Proof.Machine.execSiloOpen n w s
  | .siloClose n w => Sys2Proof.Machine.execSiloClose n w s
  | .siloFlush n w => Sys2Proof.Machine.execSiloFlush n w s
  | .siloPktOpen n w => Sys2Proof.Machine.execSiloPktOpen n w s
  | .siloPktClose n w => Sys2Proof.Machine.execSiloPktClose n w s
  | .siloWindowWrite n off w => Sys2Proof.Machine.execSiloWindowWrite n off w s
  | .siloWindowPop p n off => Sys2Proof.Machine.execSiloWindowPop p n off s
  | .siloMiddleTransfer n inB outB => Sys2Proof.Machine.execSiloMiddleTransfer n inB outB s
  | .dmaDescSubmit c w => Sys2Proof.Machine.execDmaDescSubmit c w s
  | .dmaDoneRead p c => Sys2Proof.Machine.execDmaDoneRead p c s
  | .dmaDrainBurst c words => Sys2Proof.Machine.execDmaDrainBurst c words s
  | .dmaDrainTimeout c => Sys2Proof.Machine.execDmaDrainTimeout c s
  | .dmaFillBurst c bytes => Sys2Proof.Machine.execDmaFillBurst c bytes s
  -- serial ports (chapter 11)
  | .portStart n w => Sys2Proof.Machine.execPortStart n w s
  | .portStop n w => Sys2Proof.Machine.execPortStop n w s
  | .portClearCounters n w => Sys2Proof.Machine.execPortClearCounters n w s
  | .portStartIndex n => Sys2Proof.Machine.execPortStartIndex n s
  | .portStopIndex n => Sys2Proof.Machine.execPortStopIndex n s
  | .portFrameRx n u slots glitch f96 => Sys2Proof.Machine.execPortFrameRx n u slots glitch f96 s
  | .portFrameTx n u => Sys2Proof.Machine.execPortFrameTx n u s
  | .portWindowEmpty n rx => Sys2Proof.Machine.execPortWindowEmpty n rx s
  | .madiCsCaptureArm m w => Sys2Proof.Machine.execMadiCsCaptureArm m w s
  | .monAcquireOk n rate => Sys2Proof.Machine.execMonAcquireOk n rate s
  | .monLoss n => Sys2Proof.Machine.execMonLoss n s
  | .monRate n rate => Sys2Proof.Machine.execMonRate n rate s
  | .monClockReturn n rate => Sys2Proof.Machine.execMonClockReturn n rate s
  | .commonStartGo w => Sys2Proof.Machine.execCommonStartGo w s
  | .commonStartCancel w => Sys2Proof.Machine.execCommonStartCancel w s
  | .commonStartFire => Sys2Proof.Machine.execCommonStartFire s
  -- analogue inputs and outputs (chapter 12)
  | .ainCfgWrite j w => Sys2Proof.Machine.execAinCfgWrite j w s
  | .ainSettleDone j => Sys2Proof.Machine.execAinSettleDone j s
  | .combinerSample j h l ovl => Sys2Proof.Machine.execCombinerSample j h l ovl s
  | .combinerSwitchDown j h l => Sys2Proof.Machine.execCombinerSwitchDown j h l s
  | .matchOk j gain => Sys2Proof.Machine.execMatchOk j gain s
  | .phantomWrite w => Sys2Proof.Machine.execPhantomWrite w s
  | .phantomRefresh => Sys2Proof.Machine.execPhantomRefresh s
  | .phantomSettleDone j => Sys2Proof.Machine.execPhantomSettleDone j s
  | .phantomMonitorSample j mv => Sys2Proof.Machine.execPhantomMonitorSample j mv s
  | .outputStart n w => Sys2Proof.Machine.execOutputStart n w s
  | .outputStop n w => Sys2Proof.Machine.execOutputStop n w s
  | .outputOff n w => Sys2Proof.Machine.execOutputOff n w s
  | .outputCmRampDone n => Sys2Proof.Machine.execOutputCmRampDone n s
  | .outputFadeDone n => Sys2Proof.Machine.execOutputFadeDone n s
  | .relayTExpire k => Sys2Proof.Machine.execRelayTExpire k s
  | .relayDriverWrite k w => Sys2Proof.Machine.execRelayDriverWrite k w s
  | .hpShortShutdown h => Sys2Proof.Machine.execHpShortShutdown h s
  | .hpdetEdge h level => Sys2Proof.Machine.execHpdetEdge h level s
  | .hpdetDebounceDone h => Sys2Proof.Machine.execHpdetDebounceDone h s
  -- the loudspeaker power stage (chapter 13)
  | .psEnableWrite w => Sys2Proof.Machine.execPsEnableWrite w s
  | .psClear w => Sys2Proof.Machine.execPsClear w s
  | .psStart p w => Sys2Proof.Machine.execPsStart p w s
  | .psStop p w => Sys2Proof.Machine.execPsStop p w s
  | .psOff p w => Sys2Proof.Machine.execPsOff p w s
  | .psCmRampDone p va vb => Sys2Proof.Machine.execPsCmRampDone p va vb s
  | .psFadeDone p => Sys2Proof.Machine.execPsFadeDone p s
  | .psSwitchingPeriod p ma => Sys2Proof.Machine.execPsSwitchingPeriod p ma s
  | .psClassifyDone p => Sys2Proof.Machine.execPsClassifyDone p s
  | .psRetryDue p => Sys2Proof.Machine.execPsRetryDue p s
  | .psLoopFault p => Sys2Proof.Machine.execPsLoopFault p s
  | .psKConfigWrite j w => Sys2Proof.Machine.execPsKConfigWrite j w s
  | .psKRelockDone => Sys2Proof.Machine.execPsKRelockDone s
  | .psKPendingApply => Sys2Proof.Machine.execPsKPendingApply s
  | .pvddFault v => Sys2Proof.Machine.execPvddFault v s
  | .pvddOkChange v => Sys2Proof.Machine.execPvddOkChange v s
  | .pilotCycleStart p => Sys2Proof.Machine.execPilotCycleStart p s
  | .pilotSettleDone p => Sys2Proof.Machine.execPilotSettleDone p s
  | .pilotMeasureDone p => Sys2Proof.Machine.execPilotMeasureDone p s
  | .dieTempSample ta td => Sys2Proof.Machine.execDieTempSample ta td s
  -- the measurement converters (chapter 14)
  | .mcvGo c w => Sys2Proof.Machine.execMcvGo c w s
  | .mcvRunWrite c w => Sys2Proof.Machine.execMcvRunWrite c w s
  | .mcvCal c w => Sys2Proof.Machine.execMcvCal c w s
  | .mcvTimerTrigger c => Sys2Proof.Machine.execMcvTimerTrigger c s
  | .mcvPwmTrigger c => Sys2Proof.Machine.execMcvPwmTrigger c s
  | .mtrigEdge m level => Sys2Proof.Machine.execMtrigEdge m level s
  | .mtrigAccept m => Sys2Proof.Machine.execMtrigAccept m s
  | .mcvDelayDone c => Sys2Proof.Machine.execMcvDelayDone c s
  | .mcvSettleDone c => Sys2Proof.Machine.execMcvSettleDone c s
  | .mcvIntegrateDone c => Sys2Proof.Machine.execMcvIntegrateDone c s
  | .mcvRundownDone c code => Sys2Proof.Machine.execMcvRundownDone c code s
  | .mcvScanStart => Sys2Proof.Machine.execMcvScanStart s
  | .plausTick k => Sys2Proof.Machine.execPlausTick k s
  | .plausReserveTimeout k => Sys2Proof.Machine.execPlausReserveTimeout k s
  | .refBufEnable w => Sys2Proof.Machine.execRefBufEnable w s
  | .refBufReady => Sys2Proof.Machine.execRefBufReady s
  | .fallbackSettled c => Sys2Proof.Machine.execFallbackSettled c s
  | .owRampDone j => Sys2Proof.Machine.execOwRampDone j s
  -- twin operation (chapter 15)
  | .twinModeTwin w => Sys2Proof.Machine.execTwinModeTwin w s
  | .twinModeSolo w => Sys2Proof.Machine.execTwinModeSolo w s
  | .twinSwap w => Sys2Proof.Machine.execTwinSwap w s
  | .twinCancel w => Sys2Proof.Machine.execTwinCancel w s
  | .twinLinkTrained => Sys2Proof.Machine.execTwinLinkTrained s
  | .twinLinkDown => Sys2Proof.Machine.execTwinLinkDown s
  | .twinHeartbeatRx c hb ofs => Sys2Proof.Machine.execTwinHeartbeatRx c hb ofs s
  | .twinPageRx crcOk words => Sys2Proof.Machine.execTwinPageRx crcOk words s
  | .twinCommitRx push pages total => Sys2Proof.Machine.execTwinCommitRx push pages total s
  | .twinAckRx push => Sys2Proof.Machine.execTwinAckRx push s
  | .handoverRequestRx => Sys2Proof.Machine.execHandoverRequestRx s
  | .handoverReadyRx h => Sys2Proof.Machine.execHandoverReadyRx h s
  | .handoverCancelRx => Sys2Proof.Machine.execHandoverCancelRx s
  | .handoverSwapReqRx => Sys2Proof.Machine.execHandoverSwapReqRx s
  | .heartbeatSend => Sys2Proof.Machine.execHeartbeatSend s
  | .heartbeatMiss c => Sys2Proof.Machine.execHeartbeatMiss c s
  | .ownInRise => Sys2Proof.Machine.execOwnInRise s
  | .ownInFall => Sys2Proof.Machine.execOwnInFall s
  | .ownGuardExpire => Sys2Proof.Machine.execOwnGuardExpire s
  | .pairingTimeout => Sys2Proof.Machine.execPairingTimeout s
  | .takeoverYieldTimeout => Sys2Proof.Machine.execTakeoverYieldTimeout s
  | .takeoverRegionRestore => Sys2Proof.Machine.execTakeoverRegionRestore s
  | .takeoverArmStart t => Sys2Proof.Machine.execTakeoverArmStart t s
  | .checkingEnd => Sys2Proof.Machine.execCheckingEnd s
  | .prepareTimeout => Sys2Proof.Machine.execPrepareTimeout s
  | .handoverIndexH => Sys2Proof.Machine.execHandoverIndexH s
  | .revertHoldExpire => Sys2Proof.Machine.execRevertHoldExpire s
  | .netYieldExpire => Sys2Proof.Machine.execNetYieldExpire s
  | .imagePush => Sys2Proof.Machine.execImagePush s
  | .warmTwinSilenceEnd => Sys2Proof.Machine.execWarmTwinSilenceEnd s
  | .warmPairingResume => Sys2Proof.Machine.execWarmPairingResume s
  -- management (chapter 16)
  | .mpHalt w => Sys2Proof.Machine.execMpHalt w s
  | .mpRestart w => Sys2Proof.Machine.execMpRestart w s
  | .mpWatchdogExpire pc => Sys2Proof.Machine.execMpWatchdogExpire pc s
  | .mpBootDone bad => Sys2Proof.Machine.execMpBootDone bad s
  | .mbGetInfo p w => Sys2Proof.Machine.execMbGetInfo p w s
  | .mbLogRead p w => Sys2Proof.Machine.execMbLogRead p w s
  | .mbLogMark p w => Sys2Proof.Machine.execMbLogMark p w s
  | .mbFwBegin p w => Sys2Proof.Machine.execMbFwBegin p w s
  | .mbFwWrite p w => Sys2Proof.Machine.execMbFwWrite p w s
  | .mbFwVerify p w => Sys2Proof.Machine.execMbFwVerify p w s
  | .mbFwActivate p w => Sys2Proof.Machine.execMbFwActivate p w s
  | .mbFwConfirm p w => Sys2Proof.Machine.execMbFwConfirm p w s
  | .mbUnknownOp p w => Sys2Proof.Machine.execMbUnknownOp p w s
  | .mbCommandDone ok bad => Sys2Proof.Machine.execMbCommandDone ok bad s
  | .sensorPoll temps supplies => Sys2Proof.Machine.execSensorPoll temps supplies s
  | .logFlashCopy => Sys2Proof.Machine.execLogFlashCopy s
  | .gpioEdge n level t => Sys2Proof.Machine.execGpioEdge n level t s
  | .gpioDebounceAccept n t => Sys2Proof.Machine.execGpioDebounceAccept n t s
  | .gpioEvtRead p => Sys2Proof.Machine.execGpioEvtRead p s
  | .fuseProg p w => Sys2Proof.Machine.execFuseProg p w s
  | .fuseProgDone bad => Sys2Proof.Machine.execFuseProgDone bad s
  | .fuseLock w => Sys2Proof.Machine.execFuseLock w s
  | .receiverLockAcquired n rate ch f96 => Sys2Proof.Machine.execReceiverLockAcquired n rate ch f96 s
  | .pcieLinkUp speed width => Sys2Proof.Machine.execPcieLinkUp speed width s
  | .busMasterEnableChange cmd => Sys2Proof.Machine.execBusMasterEnableChange cmd s
  | .powerOnResetRelease hostSel twinPref bootSrc => Sys2Proof.Machine.execPowerOnResetRelease hostSel twinPref bootSrc s
  | .anaRead p addr size => Sys2Proof.Machine.execAnaRead p addr size s
  | .misalignedRead p addr size split => Sys2Proof.Machine.execMisalignedRead p addr size split s

end Sys2Proof.Machine
end

