-- ==== Sys2Proof/Machine/Pins.lean ====
section
/-!
DEFINITION. What the pins carry while nothing drives a signal on them (R442). CKOUT, the serial ports, GPIO and the power stage have their
own definitions (`State.ckShow`, `State.portDrive`, `State.pinDrive`, `PsCh.drive`).
-/
namespace Sys2Proof.Machine

/-- What stands at a pin. -/
inductive PinLevel where
  /-- A high-impedance input. -/
  | input
  | low
  /-- A SerDes transmitter in electrical idle. -/
  | electricalIdle
  /-- An analogue output held at 0 V. -/
  | zeroVolts
  /-- A signal of the unit behind the pin. -/
  | signal
  deriving DecidableEq, Repr

/-- MDC and MDIO: MDC is low and MDIO an input but for the frames of an MDIO command (R131, R442). -/
def State.mdcPin (s : State) : PinLevel := if s.on .flowptp && s.flag R.NETC_MDIO_STATUS_BUSY then .signal else .low
def State.mdioPin (s : State) : PinLevel := if s.on .flowptp && s.flag R.NETC_MDIO_STATUS_BUSY then .signal else .input

/-- PH_SCLK, PH_SDO and PH_LE are low between words; a word is sent whole within one command (R330, R442; log entry 7). -/
def State.phPins (_ : State) : PinLevel := .low

/-- TDM_BCLK and TDM_FS of unit `n`: inputs but for a master (R304, R442). -/
def State.tdmClkPin (s : State) (n : Nat) : PinLevel :=
  if !s.tdmMaster n then .input
  else match s.portDrive n with
    | .highZ => .input
    | .low => .low
    | _ => .signal

/-- The transmitter of network port `x`, and that of the twin link (R442). -/
def State.netTxPin (s : State) (x : Nat) : PinLevel := if s.netOn x && s.flag (R.NET_CTRL_EN x) then .signal else .electricalIdle
def State.twinTxPin (s : State) : PinLevel := if s.twinState = 0 then .electricalIdle else .signal

/-- Line output or headphone `n` (R336, R442): 0 V in OFF. -/
def State.outPin (s : State) (n : Nat) : PinLevel := if s.outState n = 0 then .zeroVolts else .signal

/-- GPIO `n` is a high-impedance input. -/
def State.gpioFloats (s : State) (n : Nat) : Bool := s.pinIn n && (s.pinDrive n).isNone

/-- Every pin is as R442 gives it from power-on until the host configures it. -/
def State.pinsQuiet (s : State) : Bool :=
  (List.range 4).all s.asserted && !s.twin.ownOut && (List.range 12).all (fun n => s.ckShow n == .low)
  && s.time.ppsLeft == 0 && s.time.frameLeft == 0 && !s.time.wclk
  && (List.range 26).all (fun n => s.portDrive n == .low) && (List.range 26).all (fun n => !isTdm n || s.tdmClkPin n == .input)
  && s.phPins == .low && s.mdcPin == .low && s.mdioPin == .input && !s.pins.irqLow && (List.range 4).all (fun p => (s.psCh p).drive == .highZ)
  && (List.range 18).all (fun n => s.outPin n == .zeroVolts) && (List.range 16).all s.gpioFloats
  && (List.range 2).all (fun x => s.netTxPin x == .electricalIdle) && s.twinTxPin == .electricalIdle

end Sys2Proof.Machine
end

