-- ==== Sys2Proof/WellFormed.lean ====
section
/-!
DEFINITION. Which operands a command can really have. Registers, words, units and ports are bounded by their types; what is
checked here are quantities that a frame, a link or a converter bounds. A meaning does not rest on it.
-/
namespace Sys2Proof

/-- A signed quantity within ±`lim`. -/
def fitsSigned (lim : Nat) (i : Int) : Bool := decide (i.natAbs ≤ lim)

/-- The fields of an RTP packet fit their headers (R163, R164). -/
def RtpPacket.wf (p : RtpPacket) : Bool :=
  decide (p.src < 2 ^ 32) && decide (p.dst < 2 ^ 32) && decide (p.sport < 2 ^ 16) && decide (p.dport < 2 ^ 16)
    && decide (p.version < 4) && decide (p.pt < 128) && decide (p.seq < 2 ^ 16) && decide (p.ts < 2 ^ 32) && decide (p.ssrc < 2 ^ 32)

/-- The data set of an Announce fits its fields (R147). -/
def PtpDs.wf (d : PtpDs) : Bool :=
  decide (d.priority1 < 256) && decide (d.cls < 256) && decide (d.accuracy < 256) && decide (d.variance < 65536)
    && decide (d.priority2 < 256) && decide (d.gm < 2 ^ 64) && decide (d.steps < 65536)

/-- The fields of a PTP message fit (Table 5.3). -/
def PtpMsg.wf (m : PtpMsg) : Bool :=
  decide (m.source < 2 ^ 80) && decide (m.seq < 65536) && fitsSigned (2 ^ 63) m.corr && fitsSigned 128 m.logInterval
    && decide (m.req < 2 ^ 80) && decide (m.ip < 2 ^ 32) && decide (m.mac < 2 ^ 48) && m.ds.wf

/-- A Membership Query of IGMPv2 or IGMPv3 (R155). -/
def IgmpQuery.wf (q : IgmpQuery) : Bool :=
  (q.version == 2 || q.version == 3) && decide (q.group < 2 ^ 32) && q.sources.all (fun a => decide (a < 2 ^ 32))

/-- The fields of a heartbeat fit (Table 15.3). -/
def TwinHb.wf (h : TwinHb) : Bool :=
  decide (h.magic < 2 ^ 32) && decide (h.pairId < 2 ^ 32) && decide (h.seq < 65536) && decide (h.state < 256) && decide (h.flags < 256)
    && decide (h.health < 65536) && decide (h.push < 65536) && decide (h.index < 2 ^ 64) && decide (h.uid < 2 ^ 64)

/-- The command's operands are ones that can occur. -/
def Instr.wf : Instr → Bool
  | .ptpSyncRx _ m _ => m.wf
  | .ptpFollowUpRx _ m => m.wf
  | .ptpDelayReqRx _ m _ => m.wf
  | .ptpDelayRespRx _ m => m.wf
  | .ptpAnnounceRx _ m _ => m.wf
  | .announceReceiptTimeout _ source => decide (source < 2 ^ 80)
  | .igmpQueryRx _ q => q.wf
  | .flowPacketRx _ p _ => p.wf
  | .twinHeartbeatRx _ hb _ => hb.wf
  -- a page is 1,024 bytes (R404), H is a sample index (R392)
  | .twinPageRx _ words => words.length == 256
  | .handoverReadyRx h => decide (h < 2 ^ 64)
  -- eight slots have a frequency (Table 3.1)
  | .voteTick freqs => freqs.length == 8
  | .voteRequalify _ freqs => freqs.length == 8
  -- a PHY reports 10, 100 or 1000 Mb/s (R130)
  | .anComplete _ mbps => [10, 100, 1000].contains mbps
  -- the dies are numbered from domain 1 on (Table 1.5)
  | .domainWakeDone d => d != 0
  | .domainSleepDone d => d != 0
  | .domainResetDone d => d != 0
  -- opcodes that the row does not cover have rows of their own (R48, Table 2.12)
  | .qspiUnknownOpcode op => !([0x0B, 0x02, 0xEB, 0x38, 0x05] : List (BitVec 8)).contains op
  | .abortBadClass cls _ _ => decide (cls.val = 0 ∨ 10 ≤ cls.val)
  -- converters' samples lie within their full scale (Tables 12.1 and 14.1)
  | .combinerSample _ h l _ => fitsSigned (2 ^ 23) h && fitsSigned (2 ^ 23) l
  | .combinerSwitchDown _ h l => fitsSigned (2 ^ 23) h && fitsSigned (2 ^ 23) l
  | .mcvRundownDone _ code => fitsSigned (2 ^ 23) code
  -- eight temperatures and eight supplies (Tables 16.3 and 16.4)
  | .sensorPoll temps supplies => temps.length == 8 && supplies.length == 8
  -- a MADI frame carries at most 64 channels (R309)
  | .receiverLockAcquired _ _ ch _ => decide (ch ≤ 64)
  | _ => true

end Sys2Proof
end

