-- ==== Sys2Proof/Safety.lean ====
section
/-!
DEFINITION. What counts as a sound state, in the terms claims use: the storage is in its canonical form, and the interrupt
outputs stand as the sources say (R69 to R71).
-/
namespace Sys2Proof.Machine

/-- The storage behind the register map is in canonical form. -/
def State.StoreOk (s : State) : Prop := s.regs.wf = true

/-- The vectors and HOST_IRQ_N stand at the sources' present levels: ACTIVE[v] is what Table 2.11's sources, enables and map say
(R70), and the pin is low exactly while PIN_EN is set and an enabled source is active (R71). -/
def State.IrqOk (s : State) : Prop := s.host.irqActive = s.activeVectors ∧ s.pins.irqLow = s.irqPinLow

/-- Command `c` at `s` ends in the next state `x`, with the interrupt outputs brought to the sources' levels. -/
abbrev Yields (c : Instr) (s x : State) : Prop := exec c s = .next x.settleIrq

/-- Command `c` at `s` ends in a next state of which `P` holds. -/
abbrev Gives (c : Instr) (s : State) (P : State → Prop) : Prop := ∃ t, exec c s = .next t ∧ P t

/-- No abort runs, so that no write of a host port is held back (R75), and the device is not held in reset (R441). -/
abbrev State.NoAbort (s : State) : Prop := s.host.abort = none ∧ s.pins.inReset = false

/-- Port `p`'s write waits behind no read of the D-die of its own (R41, R67). -/
abbrev State.InTurn (s : State) (p : Nat) : Prop := s.host.ana.any (fun y => y.port == p && (y.behind || !isAna y.addr)) = false

/-- A register whose value a read measures: the phase error of ADPLL_0, and the ratio of a converter (R116, R204). -/
def measured (a : Nat) : Bool :=
  a == R.SYN_ADPLL0_ERR || (decide (R.ROUTE_SRC_RATIO 0 ≤ a) && decide (a < R.ROUTE_SRC_RATIO 128) && (a - R.ROUTE_SRC_RATIO 0) % 8 == 0)

/-- An abort of class `cls` has begun: the units of it that ran are stopped (R72, R73). -/
def State.abortBegun (s : State) (cls : Nat) (all : Bool) (idx : Nat) (units : List Nat) : State :=
  let x := ((s.put R.SYS_ABORT_STATUS_CLASS cls).put R.SYS_ABORT_STATUS_INDEX idx).put R.SYS_ABORT_STATUS_ALL (toBit all)
  let y := units.foldl (fun s i => s.abortUnit cls i) x
  (({ y with host := { y.host with abort := some { cls, named := units, units } } }).put R.SYS_ABORT_STATUS_RESULT 0).raise
    R.SYS_ABORT_STATUS_BUSY

/-- The words that an entry of the event log writes (R420). -/
def logRegs : List Nat := [R.MP_EVENT, R.MP_LOG_HEAD, R.MP_LOG_OLDEST]

/-- Every word of the map outside `l`, its memories included, reads in `x` as in `s`; and `x` is the state that `part` builds from
`s` with the parts it takes from `x`, so that every other part of the state is unchanged. -/
def State.Keeps (s x : State) (l : List Nat) (part : State → State) : Prop :=
  (∀ a, a ∉ l → x.rd a = s.rd a) ∧ x = { part x with regs := x.regs }

/-- Command `c` at `s` ends in a next state that keeps all but the words of `l` and what `part` names; the interrupt outputs follow
the sources. -/
abbrev Framed (c : Instr) (s : State) (l : List Nat) (part : State → State) : Prop :=
  ∃ x, Yields c s x ∧ s.Keeps x l part

/-- The same of a host's write at `a`, which may also mark a page of the state image dirty (R406). -/
abbrev FramedWrite (c : Instr) (s : State) (a : Nat) (l : List Nat) (part : State → State) : Prop :=
  ∃ x, Yields c s (x.markDirty a) ∧ s.Keeps x l part

/-- Lane `n` can issue an instruction: it is in a run, waits for no pop, its PC is in the code, and no breakpoint halts it there (R212,
R227, R233, R239). -/
abbrev State.CanIssue (s : State) (n : Nat) : Prop :=
  s.inRun n = true ∧ (s.lane n).waiting = none ∧ s.inCode n (s.lane n).pc = true
    ∧ ((s.lane n).pastBp || s.dbgOff || (s.bpHit n).isNone) = true

/-- Lane `n` can issue an instruction outside loops, and the next index is in the code too. -/
abbrev State.CanGoOn (s : State) (n : Nat) : Prop :=
  s.CanIssue n ∧ (s.lane n).loops = [] ∧ s.inCode n ((s.lane n).pc + 1) = true

/-- Command `c` gives vector register `d` of lane `n` the elements `xs`, and leaves the lane's other vector, scalar and address
registers unchanged. -/
abbrev VecGives (c : Instr) (s : State) (n d : Nat) (xs : List F32) : Prop :=
  Gives c s (fun t => (t.lane n).vec d = xs ∧ (∀ r : Fin 32, r.val ≠ d → (t.lane n).vec r = (s.lane n).vec r)
    ∧ (t.lane n).s = (s.lane n).s ∧ (t.lane n).a = (s.lane n).a)

/-- Command `c` gives scalar register `d` of lane `n` the word `w`, and leaves the lane's other scalar, vector and address registers
unchanged. -/
abbrev ScGives (c : Instr) (s : State) (n d : Nat) (w : BitVec 32) : Prop :=
  Gives c s (fun t => (t.lane n).sc d = w ∧ (∀ r : Fin 32, r.val ≠ d → (t.lane n).sc r = (s.lane n).sc r)
    ∧ (t.lane n).v = (s.lane n).v ∧ (t.lane n).a = (s.lane n).a)

/-- Command `c` gives address register `d` of lane `n` the word `w`, and leaves the lane's other address, vector and scalar registers
unchanged. -/
abbrev AdGives (c : Instr) (s : State) (n d : Nat) (w : BitVec 32) : Prop :=
  Gives c s (fun t => (t.lane n).ad d = w ∧ (∀ r : Fin 16, r.val ≠ d → (t.lane n).ad r = (s.lane n).ad r)
    ∧ (t.lane n).v = (s.lane n).v ∧ (t.lane n).s = (s.lane n).s)

/-- Command `c` makes lane `n` trap, or else changes nothing outside lane `n` but the count of free values drawn: no register, no
memory, no other lane, no other part of the state. -/
abbrev LaneOnly (c : Instr) (s : State) (n : Nat) : Prop :=
  ∃ x, Yields c s x ∧ (x.laneState n = 4 ∨
    (x = { s with spelt := x.spelt, drawn := x.drawn } ∧ x.spelt.xps = s.spelt.xps ∧ x.spelt.dqs = s.spelt.dqs
      ∧ ∀ m, m ≠ n → x.lane m = s.lane m))

end Sys2Proof.Machine
end

