-- ==== Sys2Proof/Certificates/Slice0/Obligations.lean ====
section
/-!
DEFINITION. The statements for the provers.
-/
open Sys2Proof Sys2Proof.Machine

/-! ## Media time, Vetiver and clock synthesis -/

/-- The core sample tick (R99, R103), the engine frame boundary (R8) and the second's vote (R84, R87, R88, R100).
Where the spec leaves a detail open, its clauses rest on log entries 122, 123, 128, the model's reading. -/
def Obligations.TicksAct : Prop :=
  (∀ (s x : State), s.on .clk = true → s.link.mclk = true →
    x = { s with time := { s.time with index := (s.time.index + 1) % 2 ^ 64, shortFrame := false, begun := false } } →
    Yields .sampleTick s (((((x.synTick).fwTick).slewTick).pulsesTick.wclkTick).portsTick x.time.index))
  ∧ (∀ (s x : State), s.on .clk = true → s.atBoundary = true → s.time.begun = false →
    x = s.realignTimed.realignApply.pulsesRise.frameEnds.frameUnits.frameTakes.frameBegins →
    Yields .engineFrameBoundary s ({ x with time := { x.time with begun := true } }).takeS.yieldFade.sendReady)
  ∧ (∀ (freqs : List Int) (s x : State), s.on .clk = true → s.vet.suspended = false →
    x = forN 8 (fun n s => s.wr (R.REF_FREQ n) (BitVec.ofInt 32 (freqs.getD n 0))) s → s.vetState ≠ 3 →
    Yields (.voteTick freqs) s x.vote)
  ∧ (∀ (freqs : List Int) (s x : State), s.on .clk = true → s.vet.suspended = false →
    x = forN 8 (fun n s => s.wr (R.REF_FREQ n) (BitVec.ofInt 32 (freqs.getD n 0))) s →
    s.vetState = 3 → s.loopMode ≠ 2 → s.get R.VET_HOLD_HOLD_TIME ≠ 0xFFFF →
    Yields (.voteTick freqs) s (x.put R.VET_HOLD_REMAIN_REMAIN (s.get R.VET_HOLD_REMAIN_REMAIN - 1)).vote)

/-- References (R78 to R82, R84): each row, where its slot stands as the row presupposes, moves the slot's QSTATE.
Where the spec leaves a detail open, its clauses rest on log entries 120, 121, 127, the model's reading. -/
def Obligations.ReferenceRowsAct : Prop :=
  (∀ (n : Fin 8) (k : Fin 3) (w : BitVec 32) (s x : State), s.on .clk = true → s.NoAbort → x = s.wr (R.REF_CFG n) (w &&& 0x01FF1F1F) → k = 0 →
    (s.rd (R.REF_CFG n) ^^^ (w &&& 0x01FF1F1F)) &&& 0x0100001F = 0 →
    Yields (.refSlotConfigWrite n k w) s (((x.setQl n).reclass n).markDirty (R.REF_CFG n)))
  ∧ (∀ (n : Fin 8) (t : Nat) (s x : State), s.on .clk = true → s.slotUsed n = true → isPtpSrc (s.src n) = false →
      isVideoSrc (s.src n) = false → s.badRate n = false → s.vet.suspended = false → s.q n = 1 → (s.slot n).last = none →
      x = (s.setSlot n { s.slot n with
        last := some t, glitches := ((s.slot n).glitches.map (· + 1)).filter (· < 64), line := none, lineAt := t }).setQ n 2 →
      Yields (.refEdgeEvent n { t := t }) s (x.vetEdge n t (wrapOfs (x.wrapPeriod n) t)))
  ∧ (∀ (n : Fin 8) (t : Nat) (s x : State), s.on .clk = true → s.slotUsed n = true → isVideoSrc (s.src n) = true →
      s.badRate n = false → s.vet.suspended = false → s.q n = 2 → (s.slot n).last = none →
      x = s.setSlot n { s.slot n with
        last := some t, glitches := ((s.slot n).glitches.map (· + 1)).filter (· < 64), line := some 0, lineAt := t } →
      Yields (.refEdgeEvent n { t := t, vref := true }) s (x.vetEdge n t (wrapOfs (x.wrapPeriod n) t)))
  ∧ (∀ (n : Fin 8) (s : State), s.on .clk = true → s.slotUsed n = true → s.q n = 3 →
      Yields (.refLoss n) s ((s.setSlot n { s.slot n with
        last := none, line := none, group := [], phase := 0, gone := isPtpSrc (s.src n), syncBack := false, respBack := false }).disqualify n 1))
  ∧ (∀ (n : Fin 8) (s : State), s.on .clk = true → s.vet.suspended = false → s.q n = 3 → Yields (.refRateError n) s (s.disqualify n 5))
  ∧ (∀ (n : Fin 8) (r : Fin 4) (s : State), s.on .clk = true → s.slotUsed n = true → s.vet.suspended = false → s.q n = 5 →
      isVideoSrc (s.src n) = false → s.get (R.REF_RATE_RATE n) = r → s.badRate n = false →
      Gives (.refRateRecover n r) s (fun t => t.q n = 2))
  ∧ (∀ (n : Fin 8) (s : State), s.on .clk = true → s.vet.suspended = false → s.q n = 6 →
      Gives (.refGlitchRecover n) s (fun t => t.q n = 2 ∧ (t.slot n).glitches = []))
  ∧ (∀ (n : Fin 8) (freq : Int) (s : State), s.on .clk = true → s.q n = 2 → s.vet.suspended = false → s.flag (R.REF_STATUS_FORMER n) = false →
      within (ppm 100) freq 0 = true →
      Yields (.refQualify n freq) s ((s.wr (R.REF_FREQ n) (BitVec.ofInt 32 freq)).qualify n))
  ∧ (∀ (n : Fin 8) (l : List Nat) (s : State), s.on .clk = true → s.vet.suspended = false → s.vet.formers = n.val :: l →
      Gives .formerWindowExpire s (fun t => t.flag (R.REF_STATUS_FORMER n) = false ∧ t.vet = { s.vet with formers := l }))
  ∧ (∀ (n : Fin 8) (freqs : List Int) (s x : State), s.on .clk = true → s.q n = 4 → s.vet.suspended = false →
      2 ≤ (sel 8 (fun m => m != n.val && s.q m == 3)).length → x = s.wr (R.REF_FREQ n) (BitVec.ofInt 32 (freqs.getD n 0)) →
      within (x.voteTol / 2) (x.freqOf n) (median (x.freqOf n :: (sel 8 (fun m => m != n.val && s.q m == 3)).map x.freqOf)) = true →
      Yields (.voteRequalify n freqs) s (x.qualify n).disagree)

/-- Switching and the loop (R86, R89, R91, R95), the writes that steer it (R88, R95, R97, R98, R104), and realignment (R100 to
R102).
Where the spec leaves a detail open, its clauses rest on log entries 122, 125, 126, 134, the model's reading. -/
def Obligations.LoopRowsAct : Prop :=
  (∀ (n : Fin 8) (s : State), s.on .clk = true → s.vet.switch = none → s.selectable false = some n.val → s.vet.former = none →
    Gives (.switchStart n) s (fun t => t.flag R.VET_STATUS_SWITCHING = true ∧ t.get R.VET_STATUS_TARGET = n ∧ t.vet.switch = some { target := n }))
  ∧ (∀ (s : State) (sw : VetSwitch), s.on .clk = true → s.vet.suspended = false → s.vet.switch = some sw →
      Gives .switchMeasureEnd s (fun t => t.vet.switch = some { sw with measured := true }))
  ∧ (∀ (s : State) (a : Nat) (sw : VetSwitch) (x : State), s.on .clk = true → s.vet.suspended = false → s.atBoundary = true →
      s.vet.switch = some sw → sw.measured = true → s.vetState = 2 → s.activeSlot = some a →
      x = ((s.setSlot a { s.slot a with absorbed := s.vetOffset }).endSwitch.setVetOffset
        (s.wrapFor sw.target (fitAt sw.points (s.wrapFor sw.target) (s.time.index * ofsSecond / s.rate)))).activate sw.target →
      Yields .switchCommit s ((((x.keepBw sw.target).setVetState 2).clr R.VET_STATUS_FSLEWING).resumeRealign).wtrShow)
  ∧ (∀ (n : Fin 8) (s x : State), s.on .clk = true → s.q n = 3 → s.vet.suspended = false →
      x = s.setSlot n { s.slot n with wtrDone := true } →
      Yields (.wtrExpire n) s (({ x with vet := { x.vet with settled := true } }).review false))
  ∧ (∀ (s : State) (n : Nat), s.on .clk = true → s.vetState = 1 → s.activeSlot = some n → s.loopMode ≠ 2 → s.vet.suspended = false →
      (s.rd R.VET_PHASE_ERR).toInt.natAbs < (if isPtpSrc (s.src n) then 256000 else 12800) →
      Yields .vetLock s (((s.put R.VET_STATUS_STATE 2).raise R.VET_EVENT_STATE).log 0x23 0
        (((s.put R.VET_STATUS_STATE 2).raise R.VET_EVENT_STATE).rd R.VET_STATUS).toNat
        (((s.put R.VET_STATUS_STATE 2).raise R.VET_EVENT_STATE).get R.VET_STATUS_ACTIVE)))
  ∧ (∀ (s : State) (n : Nat), s.on .clk = true → s.activeSlot = some n → s.flag R.VET_STATUS_GEARING = true → s.loopMode ≠ 2 → s.vet.suspended = false →
      s.effCode n (s.get R.VET_CTRL_BW) < s.get R.VET_STATUS_EFF_BW - 1 →
      Gives .gearStep s (fun t => t.get R.VET_STATUS_EFF_BW = s.get R.VET_STATUS_EFF_BW - 1 ∧ t.flag R.VET_STATUS_GEARING = true))
  ∧ (∀ (s x : State), s.on .clk = true → s.vetState = 3 → s.loopMode ≠ 2 → s.vet.suspended = false → s.get R.VET_HOLD_HOLD_TIME ≠ 0xFFFF →
      x = ((s.clr R.VET_HOLD_REMAIN_REMAIN).setVetState 4).raise R.VET_EVENT_LOST →
      Yields .holdoverExpire s ({ x with vet := { x.vet with former := none } }).towardFree)
  ∧ (∀ (w : BitVec 32) (s : State), s.on .clk = true → s.NoAbort → s.vetState = 2 →
    Gives (.freeWordWrite w) s (fun t => t.rd R.VET_FREE_WORD = w ∧ t.vet = s.vet))
  ∧ (∀ (w : BitVec 32) (s x : State), s.on .clk = true → s.NoAbort → x = s.wr R.VET_CTRL (w &&& 0xFFFF1F1F) → x.get R.VET_CTRL_VOTE_TOL ≠ 0 → x.activeSlot = none →
      Yields (.vetCtrlWrite w) s ((({ x with vet := { x.vet with bwDue := true } }).review false).markDirty R.VET_CTRL))
  ∧ (∀ (w : BitVec 32) (s x : State), s.on .clk = true → s.NoAbort → s.loopMode = 0 →
      x = (((s.wr R.VET_LOOP_CTRL (withMode w 0 &&& 0x1F)).put R.VET_STATUS_OPEN 0).put R.VET_STATUS_FORCED 0) →
      Yields (.loopModeAuto w) s ((x.review false).markDirty R.VET_LOOP_CTRL))
  ∧ (∀ (w : BitVec 32) (s x : State), s.on .clk = true → s.NoAbort → s.loopMode = 0 →
      x = (((s.wr R.VET_LOOP_CTRL (withMode w 1 &&& 0x1F)).put R.VET_STATUS_OPEN 0).put R.VET_STATUS_FORCED 1) →
      Yields (.loopModeForced w) s ((x.exempt.review false).markDirty R.VET_LOOP_CTRL))
  ∧ (∀ (w : BitVec 32) (s : State), s.on .clk = true → s.NoAbort → s.loopMode ≠ 2 → s.vet.switch = none →
      Gives (.loopModeOpen w) s (fun t => t.get R.VET_LOOP_CTRL_MODE = 2 ∧ t.flag R.VET_STATUS_OPEN = true ∧ t.flag R.VET_STATUS_FORCED = false
        ∧ t.rd R.VET_HOST_WORD = s.rd R.VET_FREQ_WORD ∧ t.rd R.VET_FREQ_WORD = s.rd R.VET_FREQ_WORD
        ∧ t.vet.fw = (s.rd R.VET_FREQ_WORD).toInt ∧ t.flag R.VET_STATUS_FSLEWING = false))
  ∧ (∀ (w : BitVec 32) (s : State), s.on .clk = true → s.NoAbort → s.loopMode = 2 →
      Gives (.hostWordWrite w) s (fun t => t.rd R.VET_HOST_WORD = w ∧ t.rd R.VET_FREQ_WORD = w ∧ t.vet.fw = w.toInt))
  ∧ (∀ (s : State), s.on .clk = true →
      Gives .snap s (fun t => t.get64 R.VET_SNAP_IDX_LO R.VET_SNAP_IDX_HI = s.time.index % 2 ^ 64
        ∧ t.get64 R.VET_SNAP_SEC_LO R.VET_SNAP_SEC_HI = s.time.index / s.rate % 2 ^ 48
        ∧ t.get R.VET_SNAP_NS_NS = s.mediaNs % 1000000000))
  ∧ (∀ (w : BitVec 32) (s : State), s.on .clk = true → s.NoAbort → s.flag R.VET_REALIGN_STATUS_BUSY = false → s.anyRunning = false → s.vet.switch = none →
      s.activeSlot.isSome = true → w.toNat.testBit 2 = false →
      Gives (.realignStepRef w) s (fun t => t.flag R.VET_REALIGN_STATUS_BUSY = true
        ∧ t.vet.realign = some
          { op := 1, timed := false, at_ := s.realignAt, deferred := false, due := true, speed := max 1 (R.VET_REALIGN_SLEW_RATE.ofWord w) }))
  ∧ (∀ (w : BitVec 32) (s : State), s.on .clk = true → s.NoAbort → s.flag R.VET_REALIGN_STATUS_BUSY = false → s.vet.switch = none →
      s.activeSlot.isSome = true → w.toNat.testBit 2 = false →
      Gives (.realignSlewRef w) s (fun t => t.flag R.VET_REALIGN_STATUS_BUSY = true
        ∧ t.vet.realign = some
          { op := 2, timed := false, at_ := s.realignAt, deferred := false, due := true, speed := max 1 (R.VET_REALIGN_SLEW_RATE.ofWord w) }))
  ∧ (∀ (w : BitVec 32) (s : State), s.on .clk = true → s.NoAbort → s.flag R.VET_REALIGN_STATUS_BUSY = false → s.anyRunning = false →
      w.toNat.testBit 2 = true → s.time.index ≤ s.realignAt →
      Gives (.realignStepValue w) s (fun t => t.flag R.VET_REALIGN_STATUS_BUSY = true ∧ t.flag R.VET_REALIGN_STATUS_LATE = false
        ∧ t.vet.realign = some
          { op := 3, timed := true, at_ := s.realignAt, deferred := false, due := false, speed := max 1 (R.VET_REALIGN_SLEW_RATE.ofWord w) }))
  ∧ (∀ (s : State) (r : VetRealign), s.on .clk = true → s.atBoundary = true → s.vet.realign = some r → r.timed = true → r.deferred = false → r.at_ ≤ s.time.index →
      Gives .realignTimedDue s (fun t => t.vet.realign = some { r with timed := false, due := true }))
  ∧ (∀ (s : State) (r : VetRealign) (q : VetRealign) (k whole : Int) (x : State), s.on .clk = true → s.atBoundary = true →
      s.time.begun = false → s.vet.realign = some r → r.due = true → r.deferred = false → r.op = 1 →
      s.anyRunning = false → s.vet.switch = none → s.activeSlot.isSome = true →
      k = wholeSamples s.rate (-s.vetOffset) → whole = k * ofsSecond / s.rate →
      q = { r with due := false, slewing := true, remainder := -s.vetOffset - whole, ticks := 0 } →
      x = (s.stepIndex k).shiftMedia whole →
      Yields .realignStepApply s { x with vet := { x.vet with realign := some q } })
  ∧ (∀ (s : State) (r : VetRealign), s.on .clk = true → s.vet.realign = some r → r.slewing = true → (r.op ≠ 2 ∨ s.vet.suspended = false) →
      Gives .realignComplete s (fun t => t.vet.realign = none ∧ t.get R.VET_REALIGN_STATUS_RESULT = 0
        ∧ t.flag R.VET_REALIGN_STATUS_BUSY = false ∧ t.flag R.VET_EVENT_REALIGN_DONE = true))

/-- Clock synthesis (R108 to R119) and the clock outputs (R120 to R125).
Where the spec leaves a detail open, its clauses rest on log entries 129, 131, 132, the model's reading. -/
def Obligations.SynthesisRowsAct : Prop :=
  (∀ (s : State), s.on .clk = true → s.syn.xoOk = true → s.adpll 2 = 1 →
    Gives (.adpllLock 2) s (fun t => t.adpll 2 = 2 ∧ t.flag (R.SYN_EVENT_LOCK.bit 2) = true))
  ∧ (∀ (e : Int) (s : State), s.on .clk = true → 2000 < Int.natAbs e → s.adpll 2 = 2 →
      Gives (.adpllPhaseErrorCoast 2 e) s (fun t => t.adpll 2 = 3 ∧ t.flag (R.SYN_EVENT_COAST.bit 2) = true))
  ∧ (∀ (s x : State), s.pins.inReset = false → s.on .clk = true →
      x = ((({ s with syn := { s.syn with xoOk := false } }).clr R.SYN_STATUS_XO_OK).raise R.SYN_EVENT_XO_LOSS).coast 2 →
      Yields (.oscLoss true) s (x.log 0x21 2 (x.rd R.SYN_STATUS).toNat 0))
  ∧ (∀ (s : State), s.on .clk = true → s.adpll 2 = 3 →
      Gives (.oscRestored true) s (fun t => t.syn = { s.syn with xoOk := true } ∧ t.flag R.SYN_STATUS_XO_OK = true ∧ t.adpll 2 = 1))
  ∧ (∀ (ppb : Nat) (s : State), s.on .clk = true → 200000 < ppb → Gives (.oscFreqCompare ppb) s (fun t => t.flag R.SYN_EVENT_OSC_FREQ = true))
  ∧ (∀ (s : State), s.on .clk = true → s.syn.oscOk = true → Gives .fwApply s (fun t => t.syn = { s.syn with fwApplied := (s.rd R.VET_FREQ_WORD).toInt }))
  ∧ (∀ (w : BitVec 32) (s : State), s.on .clk = true → s.NoAbort → s.flag R.SYN_ADPLL1_CTRL_EN = false → w.toNat.testBit 2 = false →
      Yields (.adpll1Enable w) s (((s.wr R.SYN_ADPLL1_CTRL (R.SYN_ADPLL1_CTRL_EN.inWord w 1 &&& 3)).relock1).markDirty R.SYN_ADPLL1_CTRL))
  ∧ (∀ (w : BitVec 32) (s x : State), s.on .clk = true → s.NoAbort → s.flag R.SYN_ADPLL1_CTRL_EN = true → w.toNat.testBit 2 = false →
      x = ((s.wr R.SYN_ADPLL1_CTRL (R.SYN_ADPLL1_CTRL_EN.inWord w 0 &&& 3)).stopFrom1).put (adpllField 1) 0 →
      Yields (.adpll1Disable w) s (({ x with syn := { x.syn with run1 := false } }).markDirty R.SYN_ADPLL1_CTRL))
  ∧ (∀ (w : BitVec 32) (s : State), s.on .clk = true → s.NoAbort → s.flag R.SYN_ADPLL1_CTRL_EN = false → w.toNat.testBit 0 = false →
      ratio1Ok (s.get R.SYN_ADPLL1_INT_INT) (s.get R.SYN_ADPLL1_NUM_NUM) (s.get R.SYN_ADPLL1_DEN_DEN) = true →
      Gives (.adpll1Apply w) s (fun t => t.flag R.SYN_STATUS_ADPLL1_REFUSED = false
        ∧ t.syn = { s.syn with int1 := s.get R.SYN_ADPLL1_INT_INT, num1 := s.get R.SYN_ADPLL1_NUM_NUM, den1 := s.get R.SYN_ADPLL1_DEN_DEN }))
  ∧ (∀ (w : BitVec 32) (s : State), s.on .clk = false → s.NoAbort → R.SYN_OSC_CFG_OSC_SEL.ofWord w ≠ 3 →
      Gives (.oscCfgWrite w) s (fun t => t.rd R.SYN_OSC_CFG = w &&& 7))
  ∧ (∀ (n : Fin 12) (w : BitVec 32) (s : State), s.on .clk = true → s.NoAbort → s.flag (R.CKOUT_CFG_EN n) = false → (R.CKOUT_CFG_SRC n).ofWord w ≠ 3 →
    s.flag R.SYN_SYNC_CTRL_ARM = false →
    Gives (.ckoutEnable n w) s (fun t => t.flag (R.CKOUT_CFG_EN n) = true ∧ t.flag (R.CKOUT_STATUS_SRC_ERR n) = false
      ∧ (t.ck n).starting = true ∧ (t.ck n).src = (R.CKOUT_CFG_SRC n).ofWord w))
  ∧ (∀ (n : Fin 12) (w : BitVec 32) (s : State), s.on .clk = true → s.NoAbort → s.flag (R.CKOUT_CFG_EN n) = true →
      Gives (.ckoutDisable n w) s (fun t => t.flag (R.CKOUT_CFG_EN n) = false ∧ t.flag (R.CKOUT_STATUS_RUNNING n) = false
        ∧ (t.ck n).starting = false))
  ∧ (∀ (n : Fin 12) (w : BitVec 32) (s : State), s.on .clk = true → s.NoAbort →
      Gives (.ckoutDivWrite n w) s (fun t => t.rd (R.CKOUT_DIV n) = w &&& 0xFFFFFF
        ∧ (t.ck n).div = max ((R.CKOUT_DIV_DIV n).ofWord w) (ckMinDiv n)))
  ∧ (∀ (n : Fin 12) (w : BitVec 32) (s : State), s.on .clk = true → s.NoAbort →
      Gives (.ckoutDelayWrite n w) s (fun t => (t.ck n).coarse = (R.CKOUT_DELAY_COARSE n).ofWord w ∧ (t.ck n).fine = (R.CKOUT_DELAY_FINE n).ofWord w))
  ∧ (∀ (n : Fin 12) (s : State), s.on .clk = true → s.flag (R.CKOUT_CFG_EN n) = true → (s.ck n).starting = true → (s.ck n).aligned = false →
      s.flag (R.CKOUT_STATUS_SRC_ERR n) = false → s.ckSourceRuns (s.ck n).src = true →
      Gives (.ckoutStart n) s (fun t => t.flag (R.CKOUT_STATUS_RUNNING n) = true ∧ (t.ck n).starting = false))
  ∧ (∀ (w : BitVec 32) (s : State), s.on .clk = true → s.NoAbort → Gives (.syncArm w) s (fun t => t.flag R.SYN_SYNC_CTRL_ARM = true ∧ t.syn = s.syn))
  ∧ (∀ (w : BitVec 32) (s : State) (n : Fin 12), s.on .clk = true → s.NoAbort →
      Gives (.syncDisarm w) s (fun t => t.flag R.SYN_SYNC_CTRL_ARM = false ∧ (t.ck n).aligned = false))
  ∧ (∀ (high : Nat) (mis : List (Fin 12)) (s : State), s.on .clk = true → 8 ≤ high → s.flag R.SYN_SYNC_CTRL_ARM = false → s.ports.trig ≠ some none →
      Gives (.syncInEdge high mis) s (fun t => t.get R.SYN_SYNC_STATUS_EDGE_CNT = (s.get R.SYN_SYNC_STATUS_EDGE_CNT + 1) % 2 ^ 16))
  ∧ (∀ (s : State), s.on .clk = true → s.adpll 0 = 2 → s.adpll 1 = 1 →
      Gives (.adpllLock 1) s (fun t => t.adpll 1 = 2 ∧ t.flag (R.SYN_EVENT_LOCK.bit 1) = true ∧ t.syn.run1 = true))
  ∧ (∀ (s : State), s.on .clk = true → s.syn.oscOk = true → s.adpll 0 = 1 → s.adpll 1 ≠ 3 → s.vet.suspended = false →
      Gives (.adpllLock 0) s (fun t => t.adpll 0 = 2 ∧ t.flag (R.SYN_EVENT_LOCK.bit 0) = true ∧ t.vet = s.vet))
  ∧ (∀ (e : Int) (s : State), s.on .clk = true → 2000 < Int.natAbs e → s.adpll 1 = 2 →
      Gives (.adpllPhaseErrorCoast 1 e) s (fun t => t.adpll 1 = 3 ∧ t.flag (R.SYN_EVENT_COAST.bit 1) = true ∧ t.vet = s.vet))
  ∧ (∀ (e : Int) (s x : State), s.on .clk = true → 2000 < Int.natAbs e → x = s.put R.SYN_ADPLL0_ERR_ERR (errField e) →
      Yields (.adpllPhaseErrorCoast 0 e) s (x.coast 0))
  ∧ (∀ (s x : State), s.pins.inReset = false → s.on .clk = true →
      x = ((({ s with syn := { s.syn with oscOk := false } }).clr R.SYN_STATUS_OSC_OK).raise R.SYN_EVENT_OSC_LOSS).coast 0 →
      Yields (.oscLoss false) s (x.log 0x22 2 (x.rd R.SYN_STATUS).toNat 0))
  ∧ (∀ (s : State), s.on .clk = true → s.adpll 0 = 3 →
      Gives (.oscRestored false) s (fun t => t.syn.oscOk = true ∧ t.flag R.SYN_STATUS_OSC_OK = true ∧ t.adpll 0 = 1
        ∧ t.syn.lfsr0 = lfsrSeed (s.rd R.SYN_ADPLL0_SEED).toNat))

/-! ## The Stalk link, islands and domains (chapter 1) -/

/-- Flits and heartbeats (R16, R17, R20): a sequenced flit that carries the SEQ expected next is delivered; one whose CRC fails is
counted and asked for again; heartbeats go out while the die lives, and one that arrives ends the silence. Retraining (R19, R20,
R23): a low eye margin or a burst of errors takes the link from UP to RETRAIN, and it comes back UP with the accesses held in
order; RETRAIN does the same from UP, and trains a link that is LOST. Loss and recovery (R20 to R23): 2 µs of silence begins
attempts, the third failed attempt declares LOST, the loss of the media clock puts the A-die in its safe state, training brings
the link UP, and RESUME leaves the safe state.
Where the spec leaves a detail open, its clauses rest on log entries 10, 11, 12, 60, the model's reading. -/
def Obligations.LinkRowsAct : Prop :=
  (∀ (die : Die) (f : BitVec 256) (s x : State), s.linkState = 2 → (s.linkEnd (isD die)).lost = false →
      flitCrc f.toNat = bitsOf f.toNat 255 240 → bitsOf f.toNat 3 0 = 1 → bitsOf f.toNat 20 20 = 0 →
      x = (s.setLinkEnd (isD die) { s.linkEnd (isD die) with silent := false }).takeAck (isD die) (bitsOf f.toNat 19 12) false →
      flitSeq f = (x.linkEnd (isD die)).expected →
      Yields (.stalkFlitRx die f) s (x.deliver (isD die) f))
  ∧ (∀ (die : Die) (f : BitVec 256) (s : State), s.linkState = 2 → (s.linkEnd (isD die)).lost = false →
      flitCrc f.toNat ≠ bitsOf f.toNat 255 240 →
      Gives (.stalkFlitRx die f) s (fun t => t.flag R.PWR_STALK_ERR_CRC = true ∧ (t.linkEnd (isD die)).nak = true
        ∧ t.get R.PWR_STALK_CRC_CNT_CRC_CNT = (s.get R.PWR_STALK_CRC_CNT_CRC_CNT + 1) % 2 ^ 32))
  ∧ (∀ (die : Die) (s : State), s.pins.inReset = false → (s.linkEnd (isD die)).lost = false → s.pins.aReleased = true →
      Yields (.stalkHeartbeatSend die) s ((s.emit (.heartbeat (isD die))).sendIdle (isD die)))
  ∧ (∀ (die : Die) (s : State), (s.linkEnd (isD die)).lost = false →
      Yields (.stalkHeartbeatRx die) s (s.setLinkEnd (isD die) { s.linkEnd (isD die) with silent := false }))
  ∧ (∀ (eye : BitVec 8) (s : State), s.pins.inReset = false → eye.toNat < 16 → s.linkState = 2 →
      Gives (.stalkMarginRetrain eye) s (fun t => t.linkState = 3 ∧ t.flag R.PWR_STALK_ERR_RETRAIN = true
        ∧ t.get R.PWR_STALK_STATUS_EYE = eye.toNat))
  ∧ (∀ (s : State), s.linkState = 2 →
      Gives .stalkCrcBurstRetrain s (fun t => t.linkState = 3 ∧ t.flag R.PWR_STALK_ERR_RETRAIN = true
        ∧ t.link = { s.link with d := { s.link.d with attempts := 0 }, a := { s.link.a with attempts := 0 } }))
  ∧ (∀ (s x : State), s.linkState = 3 →
      x = ((s.setLinkState 2).setLinkEnd true { s.link.d with attempts := 0, silent := false }).setLinkEnd false
        { s.link.a with attempts := 0, silent := false } →
      Yields .stalkRetrainDone s ((x.pump true 32).pump false 32).readsGo)
  ∧ (∀ (w : BitVec 32) (s : State), s.NoAbort → s.linkState = 4 → w.toNat.testBit 1 = false →
      Gives (.stalkRetrain w) s (fun t => t.linkState = 1 ∧ t.link = { s.link with d := {}, a := {} }))
  ∧ (∀ (w : BitVec 32) (s : State), s.NoAbort → s.linkState = 2 → w.toNat.testBit 1 = false →
      Gives (.stalkRetrain w) s (fun t => t.linkState = 3 ∧ t.flag R.PWR_STALK_ERR_RETRAIN = true))
  ∧ (∀ (die : Die) (s : State), s.linkState = 2 → (s.linkEnd (isD die)).lost = false →
      Gives (.stalkSilenceTimeout die) s (fun t => t.linkState = 3 ∧ (t.linkEnd (isD die)).silent = true ∧ (t.linkEnd (isD die)).attempts = 0))
  ∧ (∀ (die : Die) (s : State), s.linkState = 3 → (s.linkEnd (isD die)).lost = false → (s.linkEnd (isD die)).attempts < 2 →
      Yields (.stalkTrainAttemptFail die) s
        (s.setLinkEnd (isD die) { s.linkEnd (isD die) with attempts := (s.linkEnd (isD die)).attempts + 1 }).readsGo)
  ∧ (∀ (die : Die) (s : State), s.linkState = 1 → (s.linkEnd (isD die)).lost = false → 2 ≤ (s.linkEnd (isD die)).attempts →
      Yields (.stalkTrainAttemptFail die) s
        ((s.setLinkEnd (isD die) { s.linkEnd (isD die) with attempts := (s.linkEnd (isD die)).attempts + 1 }).declareLost (isD die)).readsGo)
  ∧ (∀ (s : State), s.link.mclk = true → s.aDieOn = true → s.link.a.lost = false →
      Yields .stalkMclkAbsent s ((s.setMclk false).declareLost false))
  ∧ (∀ (s x y : State), s.linkState = 1 → s.pwr.moves = [] →
      x = { s with link := { s.link with d := {}, a := {}, everUp := true, compared := false } } →
      y = (x.setLinkState 2).put R.SYS_ID_A_STEP Config.aStep.toNat →
      Yields .stalkTrainDone s ((if s.on .clk then y.setMclk true else y).safeReport).domainsApply)
  ∧ (∀ (w : BitVec 32) (s x : State), s.NoAbort → s.linkState = 2 → s.link.a.lost = false → s.flag R.PWR_STALK_STATUS_SAFE = true →
      w.toNat.testBit 0 = false →
      x = s.wr R.PWR_STALK_CTRL (R.PWR_STALK_CTRL_RESUME.inWord w 1 &&& 4) →
      Yields (.stalkResume w) s ((x.clr R.PWR_STALK_STATUS_SAFE).psResume.outsResume.markDirty R.PWR_STALK_CTRL))

/-- Islands and temperatures (R28 to R31): a difference of 50 °C alarms at its onset; a stretched edge is counted and alarms; a
lane's island settles at a new target, at a supply within 0.55 V to 0.85 V. Power domains (R32 to R37, R75): an accepted request
is stored and the domains move towards it; a move completes; named domains are reset, and a reset completes. Writes held behind
an abort follow once none runs.
Where the spec leaves a detail open, its clauses rest on log entries 13, 14, 15, 16, 17, the model's reading. -/
def Obligations.DomainsAndIslandsAct : Prop :=
  (∀ (a b : Int) (s : State), s.linkState = 2 → 50000 ≤ (a - b).natAbs → s.link.cool = true →
      Gives (.tdiffCompare (some a) (some b)) s (fun t => t.flag R.PWR_ALARM_TDIFF = true
        ∧ t.link = { s.link with cool := false, compared := true }))
  ∧ (∀ (a b : Int) (s : State), s.linkState = 2 → (a - b).natAbs < 48000 →
      Yields (.tdiffCompare (some a) (some b)) s { s with link := { s.link with cool := true, compared := true } })
  ∧ (∀ (n : Fin 24) (s : State), s.pins.inReset = false → s.domOn (islandDom n) = true → s.get (R.ISL_EVT_STRETCH_CNT n) < 2 ^ 16 - 1 →
      Gives (.islandEdgeStretch n) s (fun t => t.get (R.ISL_EVT_STRETCH_CNT n) = s.get (R.ISL_EVT_STRETCH_CNT n) + 1
        ∧ t.flag R.PWR_ALARM_STRETCH = true))
  ∧ (∀ (lane : Fin 16) (w : BitVec 32) (s : State), s.NoAbort →
      Yields (.islTargetChange lane false w) s (((s.wr (R.ISL_CFG (8 + lane)) (w &&& 0x3FFF)).islRetarget lane).markDirty (R.ISL_CFG (8 + lane))))
  ∧ (∀ (lane : Fin 16) (w : BitVec 32) (s : State), s.NoAbort →
      Yields (.islTargetChange lane true w) s (((s.wr (R.ISL_DL (8 + lane)) (w &&& 0x3FFFFFF)).islRetarget lane).markDirty (R.ISL_DL (8 + lane))))
  ∧ (∀ (n : Fin 24) (s x : State), s.pins.inReset = false → s.domOn (islandDom n) = true →
      (n.val < 8 ∨ s.pwr.target.find? (fun e => e.1 == n.val - 8) = none) →
      x = ({ s with drawn := s.drawn + 1 }).put (R.ISL_STATUS_VOLT n) (110 + Config.freeNat s.drawn % 61) →
      Yields (.islandSettleDone n) s (x.clr (R.ISL_STATUS_SETTLING n)).speltShow)
  ∧ (∀ (n : Fin 24) (l goal : Nat) (s : State), s.pins.inReset = false → s.domOn (islandDom n) = true → 8 ≤ n.val →
      s.pwr.target.find? (fun e => e.1 == n.val - 8) = some (l, goal) → s.get (R.ISL_STATUS_CUR_FREQ n) < goal →
      Yields (.islandSettleDone n) s (({ s with drawn := s.drawn + 1, pwr := { s.pwr with volted := addTo s.pwr.volted l } }).put
        (R.ISL_STATUS_VOLT n) (110 + Config.freeNat s.drawn % 61)))
  ∧ (∀ (w : BitVec 32) (s x : State), s.NoAbort → s.domRefusal (domSet w.toNat) = 0 → domSet w.toNat &&& (s.rd R.PWR_TWIN_MASK).toNat = 0 →
      x = (s.wr R.PWR_DOMAIN_REQ (BitVec.ofNat 32 (domSet w.toNat))).put R.PWR_DOMAIN_STATUS_RESULT 0 →
      Yields (.domainReqWrite w) s ((s.twinLinks x.domainsApply).markDirty R.PWR_DOMAIN_REQ).drainHeld)
  ∧ (∀ (w : BitVec 32) (s : State), s.NoAbort → s.host.held = [] → s.pwr.moves ≠ [] →
      Gives (.domainReqWrite w) s (fun t => t.get R.PWR_DOMAIN_STATUS_RESULT = 4 ∧ t.pwr = s.pwr
        ∧ t.rd R.PWR_DOMAIN_REQ = s.rd R.PWR_DOMAIN_REQ))
  ∧ (∀ (d : Fin 16) (s x : State), s.pwr.moves.head? = some (d.val, true) →
      x = (((({ s with pwr := { s.pwr with moves := [] } }).put (R.PWR_DOMAIN_STATE_ON.bit (d - 1)) 1).clr (R.PWR_DOMAIN_STATUS_BUSY.bit (d - 1))).islWake d).domWake d →
      Yields (.domainWakeDone d) s ((s.twinLinks (x.startMoves (s.pwr.moves.drop 1)).warmCheck).drainHeld))
  ∧ (∀ (d : Fin 16) (s x : State), s.pwr.moves.head? = some (d.val, false) → d ≠ 10 → s.domFades d = false → s.pwr.fading = [] →
      x = ((({ s with pwr := { s.pwr with moves := [] } }).put (R.PWR_DOMAIN_STATE_ON.bit (d - 1)) 0).clr (R.PWR_DOMAIN_STATUS_BUSY.bit (d - 1))).islSleep d →
      Yields (.domainSleepDone d) s ((s.twinLinks (x.startMoves (s.pwr.moves.drop 1)).warmCheck).drainHeld))
  ∧ (∀ (w : BitVec 32) (s : State), s.NoAbort →
      Yields (.domainReset w) s (((s.twinLinks (s.domainsReset w.toNat)).markDirty R.PWR_DOMAIN_RST).drainHeld))
  ∧ (∀ (d : Fin 16) (s : State), 1 ≤ d.val → s.NoAbort → s.host.held = [] → s.host.warmPending = false → s.pwr.fading = [] →
      Gives (.domainResetDone d) s (fun t => t.flag (R.PWR_DOMAIN_RST_RST.bit (d - 1)) = false ∧ t.pwr = s.pwr))
  ∧ (∀ (d : Fin 16) (s : State), s.pwr.moves.head? = some (d.val, false) → s.domFades d = true → s.host.warmPending = false → s.NoAbort →
      s.host.held = [] → Yields (.domainSleepDone d) s s)

/-! ## Host ports, aborts, the core rate and resets (chapters 2 and 17) -/

/-- Reads that return what a register shows (R57, R59, R60, R144, R423): an open port's aligned read of an assigned word of the
D-die returns the word and has the side effects its fields give it, and nothing else; TXTS_NS and EVT_NS are read the same way.
Reads that fail or wait (R23, R56, R67, Table 2.7): unassigned addresses read 0 with CAUSE 0 and bad shapes all ones with CAUSE
2; an ANA read is answered at once only where the port has nothing in flight, and fails where the link is down.
Where the spec leaves a detail open, its clauses rest on log entries 102, 103, 104, 106, 108, the model's reading. -/
def Obligations.ReadsAct : Prop :=
  (∀ (p : Fin 4) (addr : BitVec 24) (s : State), s.portOpen p = true → s.host.ana = [] → badShape addr.toNat .word false = false →
      inTwin addr.toNat = false → inAlias addr.toNat = false → assigned p addr.toNat = true → isAna addr.toNat = false →
      s.accessible (canon addr.toNat) = true → measured (canon addr.toNat) = false →
      Yields (.rolRead p addr) s ((s.regRead p addr.toNat .word).2.answer p addr.toNat (s.regRead p addr.toNat .word).1))
  ∧ (∀ (p : Fin 4) (addr : BitVec 24) (size : AccessSize) (s : State), s.portOpen p = true → s.host.ana = [] → badShape addr.toNat size false = false →
      inTwin addr.toNat = false → inAlias addr.toNat = false → assigned p addr.toNat = true → isAna addr.toNat = false →
      s.accessible (canon addr.toNat) = true → measured (canon addr.toNat) = false →
      Yields (.rcFieldRead p addr size) s ((s.regRead p addr.toNat size).2.answer p addr.toNat (s.regRead p addr.toNat size).1))
  ∧ (∀ (p : Fin 4) (x : Fin 2) (s : State), s.portOpen p = true → s.host.ana = [] → s.accessible (R.NET_TXTS_NS x) = true →
      Yields (.txtsRead p x) s ((s.regRead p (R.NET_TXTS_NS x) .word).2.answer p (R.NET_TXTS_NS x) (s.regRead p (R.NET_TXTS_NS x) .word).1))
  ∧ (∀ (p : Fin 4) (s : State), s.portOpen p = true → s.host.ana = [] → s.accessible R.MP_EVT_NS = true →
      Yields (.gpioEvtRead p) s ((s.regRead p R.MP_EVT_NS .word).2.answer p R.MP_EVT_NS (s.regRead p R.MP_EVT_NS .word).1))
  ∧ (∀ (p : Fin 4) (addr : BitVec 24) (s : State), s.portOpen p = true → s.host.ana = [] → badShape addr.toNat .word false = false →
      inTwin addr.toNat = false → inAlias addr.toNat = false → isAna addr.toNat = false → assigned p addr.toNat = false →
      Yields (.unassignedRead p addr) s ((s.accessErr p addr.toNat false 0).answer p addr.toNat 0))
  ∧ (∀ (p : Fin 4) (addr : BitVec 24) (size : AccessSize) (split : Bool) (s : State), s.portOpen p = true → s.host.ana = [] →
      badShape addr.toNat size split = true → inTwin addr.toNat = false → s.dark p addr.toNat = false →
      Yields (.misalignedRead p addr size split) s ((s.accessErr p addr.toNat false 2).answer p addr.toNat 0xFFFFFFFF))
  ∧ (∀ (p : Fin 4) (addr : BitVec 24) (size : AccessSize) (y : AnaAcc) (s x : State), s.portOpen p = true →
      badShape addr.toNat size false = false → isAna addr.toNat = true → s.linkState = 2 → s.host.ana = [] →
      y = { port := p, write := false, addr := addr.toNat, size, tag := Config.freeNat s.drawn % 2 ^ 10 } →
      x = ({ s with drawn := s.drawn + 1 }).accFlit y →
      Yields (.anaRead p addr size) s (x.anaAnswer y))
  ∧ (∀ (p : Fin 4) (addr : BitVec 24) (size : AccessSize) (s : State), s.portOpen p = true → badShape addr.toNat size false = false →
      isAna addr.toNat = true → s.linkState = 3 →
      Yields (.anaRead p addr size) s (s.anaQueue { port := p, write := false, addr := addr.toNat, size }))
  ∧ (∀ (p : Fin 4) (addr : BitVec 24) (s : State), s.portOpen p = true → s.host.ana = [] → badShape addr.toNat .word false = false →
      isAna addr.toNat = true → s.linkState = 4 →
      Yields (.anaRead p addr .word) s ((s.raise R.PWR_STALK_ERR_RD_FAIL).answer p addr.toNat (lanesOf 0xFFFFFFFF 0 .word)))

/-- Writes (R56, R57, R65, R67): an aligned 32-bit write of a plain D-die register takes effect there; a narrow one and a misaligned one
are dropped with CAUSE 1 and 2; a bit alias writes one bit; a posted ANA write takes effect at the A-die.
Where the spec leaves a detail open, its clauses rest on log entries 102, 106, 108, 109, the model's reading. -/
def Obligations.WritesTakeEffect : Prop :=
  (∀ (p : Fin 4) (addr : BitVec 24) (w : BitVec 32) (s : State), s.portOpen p = true → s.InTurn p → s.host.guard = [] → s.NoAbort →
      addr.toNat % 4 = 0 → inTwin addr.toNat = false → inAlias addr.toNat = false → assigned p addr.toNat = true →
      isGuarded addr.toNat = false → isAna addr.toNat = false → s.accessible (canon addr.toNat) = true →
      Yields (.registerWrite p addr .word false w) s ((s.regWrite p (canon addr.toNat) w).markDirty (canon addr.toNat)).drainHeld)
  ∧ (∀ (p : Fin 4) (addr : BitVec 24) (size : AccessSize) (split : Bool) (w : BitVec 32) (s : State), s.portOpen p = true → s.InTurn p →
      s.host.guard = [] → badShape addr.toNat size split = true → s.dark p addr.toNat = false →
      Yields (.registerWrite p addr size split w) s (s.accessErr p addr.toNat true 2).drainHeld)
  ∧ (∀ (p : Fin 4) (addr : BitVec 24) (size : AccessSize) (w : BitVec 32) (s : State), s.portOpen p = true → s.InTurn p → s.host.guard = [] →
      size ≠ .word → badShape addr.toNat size false = false → s.dark p addr.toNat = false → namesGuarded addr.toNat = false →
      Yields (.registerWrite p addr size false w) s (s.accessErr p addr.toNat true 1).drainHeld)
  ∧ (∀ (p : Fin 4) (addr : BitVec 24) (size : AccessSize) (w : BitVec 32) (s : State), s.portOpen p = true → s.InTurn p → s.host.guard = [] →
      size ≠ .word → badShape addr.toNat size false = false → s.dark p addr.toNat = false → namesGuarded addr.toNat = false →
      s.host.held = [] → s.flag R.SYS_EVENT_ACCESS_ERR = false →
      Gives (.registerWrite p addr size false w) s (fun t => t.flag R.SYS_EVENT_ACCESS_ERR = true ∧ t.get R.SYS_ERR_ADDR_CAUSE = 1
        ∧ t.get R.SYS_ERR_ADDR_ADDR = addr.toNat
        ∧ (∀ a : Nat, a ∉ [R.SYS_EVENT, R.SYS_ERR_ADDR, R.SYS_ERR_CNT] → t.rd a = s.rd a)))
  ∧ (∀ (p : Fin 4) (addr : BitVec 24) (size : AccessSize) (w : BitVec 32) (s : State), s.portOpen p = true → s.InTurn p → s.host.guard = [] →
      size ≠ .word → badShape addr.toNat size false = false → s.dark p addr.toNat = false → namesGuarded addr.toNat = true →
      Yields (.registerWrite p addr size false w) s ((s.guardErr p addr.toNat 4).accessErr p addr.toNat true 1).drainHeld)
  ∧ (∀ (p : Fin 4) (addr : BitVec 24) (w : BitVec 32) (s : State), s.portOpen p = true → s.InTurn p → s.host.guard = [] → addr.toNat % 4 = 0 →
      inTwin addr.toNat = false → inAlias addr.toNat = true →
      Yields (.bitAliasWrite p addr w) s (s.aliasWrite p addr.toNat w).drainHeld)
  ∧ (∀ (p : Fin 4) (addr : BitVec 24) (w old : BitVec 32) (a b : Nat) (d : RegDesc) (s : State), s.portOpen p = true → s.InTurn p →
      s.host.guard = [] → s.NoAbort → addr.toNat % 4 = 0 → inTwin addr.toNat = false → inAlias addr.toNat = true →
      a = canon (aliasWord addr.toNat) → b = aliasBit addr.toNat → assigned p (aliasWord addr.toNat) = true → s.dark p addr.toNat = false →
      isGuarded (aliasWord addr.toNat) = false → s.accessible a = true → rowOf a = some d → d.w1c.testBit b = false → d.rw.testBit b = true →
      old = s.rd a &&& BitVec.ofNat 32 d.rw &&& ~~~(BitVec.ofNat 32 (2 ^ b)) →
      Yields (.bitAliasWrite p addr w) s
        ((s.regWrite p a (if w.toNat.testBit 0 then old ||| BitVec.ofNat 32 (2 ^ b) else old)).markDirty a).drainHeld)
  ∧ (∀ (p : Fin 4) (addr : BitVec 24) (w : BitVec 32) (a b : Nat) (d : RegDesc) (s : State), s.portOpen p = true → s.InTurn p →
      s.host.guard = [] → s.NoAbort → addr.toNat % 4 = 0 → inTwin addr.toNat = false → inAlias addr.toNat = true →
      a = canon (aliasWord addr.toNat) → b = aliasBit addr.toNat → assigned p (aliasWord addr.toNat) = true → s.dark p addr.toNat = false →
      isGuarded (aliasWord addr.toNat) = false → s.accessible a = true → rowOf a = some d → d.w1c.testBit b = true → w.toNat.testBit 0 = true →
      Yields (.bitAliasWrite p addr w) s
        ((s.regWrite p a ((s.rd a &&& BitVec.ofNat 32 d.rw) ||| BitVec.ofNat 32 (2 ^ b))).markDirty a).drainHeld)
  ∧ (∀ (p : Fin 4) (a : AnaAcc) (s x : State), s.linkState = 2 → s.NoAbort → s.host.ana.find? (fun y => y.port == p.val) = some a →
      a.write = true → a.sent = true → a.behind = false → s.accessible (canon a.addr) = true →
      x = State.anaGo p [] (s.host.ana.erase a) { s with host := { s.host with ana := s.host.ana.erase a } } →
      Yields (.anaPostedWriteEffect p) s (((x.regWrite p (canon a.addr) a.data).markDirty (canon a.addr)).anaReads p))

/-- Guarded pairs (R61 to R63, Table 2.8): the first write waits; the twin's complement carries it out; a second write that does not
match, or none within t_GUARD, is an error with its CAUSE and the register is not written.
Where the spec leaves a detail open, its clauses rest on log entries 100, 101, the model's reading. -/
def Obligations.GuardedPairs : Prop :=
  (∀ (p : Fin 4) (addr : BitVec 24) (w : BitVec 32) (s : State), s.portOpen p = true → s.InTurn p → s.host.guard = [] → addr.toNat % 4 = 0 →
      inTwin addr.toNat = false → inAlias addr.toNat = false → assigned p addr.toNat = true → isGuarded addr.toNat = true →
      Yields (.guardedFirstWrite p addr w) s ({ s with host := { s.host with guard := [(p.val, addr.toNat, w)] } }).drainHeld)
  ∧ (∀ (p : Fin 4) (addr : BitVec 24) (g : Nat) (v : BitVec 32) (s x : State), s.portOpen p = true → s.InTurn p → s.host.guard = [(p.val, g, v)] →
      addr.toNat = g + 0x800000 → x = { s with host := { s.host with guard := [] } } →
      Yields (.guardTwinWrite p addr (~~~v)) s (x.guardPass p g v).drainHeld)
  ∧ (∀ (p : Fin 4) (addr : BitVec 24) (g : Nat) (v w : BitVec 32) (s x : State), s.portOpen p = true → s.InTurn p → s.host.guard = [(p.val, g, v)] →
      addr.toNat = g + 0x800000 → w ≠ ~~~v → x = { s with host := { s.host with guard := [] } } →
      Yields (.guardTwinWrite p addr w) s (x.guardErr p g 1).drainHeld)
  ∧ (∀ (p : Fin 4) (g : Nat) (v : BitVec 32) (s : State), s.host.guard = [(p.val, g, v)] → s.flag R.SYS_EVENT_GUARD_ERR = false →
      g < 2 ^ 24 → s.get R.SYS_ERR_CNT_GUARD_CNT < 2 ^ 16 - 1 →
      Gives (.guardTimeout p) s (fun t => t.flag R.SYS_EVENT_GUARD_ERR = true ∧ t.get R.SYS_GUARD_ADDR_CAUSE = 3
        ∧ t.get R.SYS_GUARD_ADDR_ADDR = g ∧ t.get R.SYS_GUARD_ADDR_PORT = p.val
        ∧ t.get R.SYS_ERR_CNT_GUARD_CNT = s.get R.SYS_ERR_CNT_GUARD_CNT + 1
        ∧ (g ≠ R.SYS_EVENT → g ≠ R.SYS_ERR_CNT → g ≠ R.SYS_GUARD_ADDR → t.rd g = s.rd g)))

/-- The quad-SPI target (R48 to R52): each opcode's phase, the address that advances by a word, the status byte, and CS_N.
Where the spec leaves a detail open, its clauses rest on log entries 106, 116, the model's reading. -/
def Obligations.QuadSpiActs : Prop :=
  (∀ (addr : BitVec 24) (s x : State), s.portOpen 1 = true → s.host.qspi = .idle →
      x = { s with host := { s.host with qspi := .read, qspiAddr := addr.toNat, qspiQuad := false, qspiWord := none } } →
      Yields (.qspiReadSingle addr) s (x.hostRead 1 addr.toNat .word false))
  ∧ (∀ (addr : BitVec 24) (s x : State), s.portOpen 1 = true → s.host.qspi = .idle →
      x = { s with host := { s.host with qspi := .read, qspiAddr := addr.toNat, qspiQuad := true, qspiWord := none } } →
      Yields (.qspiReadQuad addr) s (x.hostRead 1 addr.toNat .word false))
  ∧ (∀ (addr : BitVec 24) (s : State), s.portOpen 1 = true → s.host.qspi = .idle →
      Yields (.qspiWriteSingle addr) s { s with host := { s.host with qspi := .write, qspiAddr := addr.toNat, qspiQuad := false } })
  ∧ (∀ (addr : BitVec 24) (s : State), s.portOpen 1 = true → s.host.qspi = .idle →
      Yields (.qspiWriteQuad addr) s { s with host := { s.host with qspi := .write, qspiAddr := addr.toNat, qspiQuad := true } })
  ∧ (∀ (s x : State), s.portOpen 1 = true → s.host.qspi = .read → s.host.qspiWord.isSome = true →
      x = { s.qspiDeliver with host := { s.qspiDeliver.host with qspiAddr := (s.host.qspiAddr + 4) % 2 ^ 24 } } →
      Yields .qspiReadNextWord s (x.hostRead 1 ((s.host.qspiAddr + 4) % 2 ^ 24) .word false))
  ∧ (∀ (w : BitVec 32) (s x : State), s.portOpen 1 = true → s.host.qspi = .write →
      x = { s with host := { s.host with qspiAddr := (s.host.qspiAddr + 4) % 2 ^ 24 } } →
      Yields (.qspiWriteWord w) s (x.hostWrite 1 s.host.qspiAddr .word false w).drainHeld)
  ∧ (∀ (s : State), s.portOpen 1 = true → s.host.qspi = .idle → s.host.ana = [] → s.flag R.SYS_EVENT_ACCESS_ERR = true →
      Yields .qspiReadStatus s (({ s with host := { s.host with qspi := .status } }).emit (.qspiLines false (qspiLines false 8 (2 + 4 * toBit s.pins.irqLow)))))
  ∧ (∀ (op : BitVec 8) (s : State), s.portOpen 1 = true → s.host.qspi = .idle → op ∉ [0x0B, 0x02, 0xEB, 0x38, 0x05] →
      Yields (.qspiUnknownOpcode op) s { s with host := { s.host with qspi := .ignored } })

/-- R51: while CS_N is high the target is idle; a rising edge ends the transaction in any phase.
Where the spec leaves a detail open, its clauses rest on log entry 116, the model's reading. -/
def Obligations.ChipSelectEnds : Prop :=
  (∀ (s : State), Gives .qspiCsRise s (fun t => t.host.qspi = .idle ∧ t.host.qspiWord = none))
  ∧ (∀ (s : State), s.host.qspiWord = none → Gives .qspiCsRise s (fun t => t.host.qspi = .idle ∧ t.regs = s.regs ∧ t.link = s.link))

/-- Interrupt acknowledgement and unmasking, and PCIe (R44, R46, R70): an active vector is sent again, pending vectors go once they are
unmasked, and the link, bus mastering and the power state show in PCIE_STATUS.
The clauses in which nothing happens where the moment of a row has not come are the model's choice (log entry 7).
Where the spec leaves a detail open, its clauses rest on log entries 110, 115, the model's reading. -/
def Obligations.MessagesAndPcie : Prop :=
  (∀ (w : BitVec 32) (s : State), s.activeVectors.testBit (R.SYS_IRQ_ACK_VECTOR.ofWord w) = true →
      Yields (.irqAck w) s (s.sendVector (R.SYS_IRQ_ACK_VECTOR.ofWord w)))
  ∧ (∀ (w : BitVec 32) (s : State), s.activeVectors.testBit (R.SYS_IRQ_ACK_VECTOR.ofWord w) = false → Yields (.irqAck w) s s)
  ∧ (∀ (v : Fin 64) (s : State), s.portOpen 0 = true → Yields (.msixUnmask (some v)) s (s.clr (R.MSIX_VCTRL_MASK v)).msixRelease)
  ∧ (∀ (s : State), s.portOpen 0 = true →
      Yields (.msixUnmask none) s ({ s with host := { s.host with msixMasked := false } }).msixRelease)
  ∧ (∀ (s : State), s.flag R.SYS_STRAPS_HOST_SEL = false → s.pins.inReset = false →
      Gives .d3hotEnter s (fun t => t.get R.SYS_PCIE_STATUS_DSTATE = 3))
  ∧ (∀ (s : State), s.flag R.SYS_STRAPS_HOST_SEL = false → s.pins.inReset = false →
      Gives .d0Return s (fun t => t.get R.SYS_PCIE_STATUS_DSTATE = 0))
  ∧ (∀ (speed width : BitVec 2) (s : State), s.flag R.SYS_STRAPS_HOST_SEL = false → s.pins.inReset = false →
      Gives (.pcieLinkUp speed width) s (fun t => t.flag R.SYS_PCIE_STATUS_LINK_UP = true
        ∧ t.get R.SYS_PCIE_STATUS_SPEED = speed.toNat ∧ t.get R.SYS_PCIE_STATUS_WIDTH = width.toNat))
  ∧ (∀ (on : Bool) (mps mrrs : Fin 6) (s : State), s.flag R.SYS_STRAPS_HOST_SEL = false → s.pins.inReset = false →
      Gives (.busMasterEnableChange { bme := on, mps := mps, mrrs := mrrs }) s (fun t => t.flag R.SYS_PCIE_STATUS_BME = on
        ∧ t.host.mps = min s.host.pcie.maxPayload (128 * 2 ^ mps.val) ∧ t.host.mrrs = 128 * 2 ^ mrrs.val))

/-- Aborts (R72 to R75): of a unit that runs, in each class, the abort stops it, reads BUSY, and completes with RESULT 0; of one that does
not run, it completes at once with RESULT 1; a class with no units has RESULT 2.
Where the spec leaves a detail open, its clauses rest on log entries 18, 19, the model's reading. -/
def Obligations.AbortsAct : Prop :=
  (∀ (all : Bool) (idx : BitVec 8) (units : List Nat) (s : State), s.pins.inReset = false → s.flag R.SYS_ABORT_STATUS_BUSY = false →
      (all = true ∨ idx.toNat < 16) → units = (if all then List.range 16 else [idx.toNat]).filter (s.unitActive 1) → units ≠ [] →
      Yields (.abortLane all idx) s (s.abortBegun 1 all idx.toNat units))
  ∧ (∀ (all : Bool) (idx : BitVec 8) (units : List Nat) (s : State), s.pins.inReset = false → s.flag R.SYS_ABORT_STATUS_BUSY = false →
      (all = true ∨ idx.toNat < 256) → units = (if all then List.range 256 else [idx.toNat]).filter (s.unitActive 2) → units ≠ [] →
      Yields (.abortRxFlow all idx) s (s.abortBegun 2 all idx.toNat units))
  ∧ (∀ (all : Bool) (idx : BitVec 8) (units : List Nat) (s : State), s.pins.inReset = false → s.flag R.SYS_ABORT_STATUS_BUSY = false →
      (all = true ∨ idx.toNat < 256) → units = (if all then List.range 256 else [idx.toNat]).filter (s.unitActive 3) → units ≠ [] →
      Yields (.abortTxFlow all idx) s (s.abortBegun 3 all idx.toNat units))
  ∧ (∀ (all : Bool) (idx : BitVec 8) (units : List Nat) (s : State), s.pins.inReset = false → s.flag R.SYS_ABORT_STATUS_BUSY = false →
      (all = true ∨ idx.toNat < 64) → units = (if all then List.range 64 else [idx.toNat]).filter (s.unitActive 4) → units ≠ [] →
      Yields (.abortSilo all idx) s (s.abortBegun 4 all idx.toNat units))
  ∧ (∀ (all : Bool) (idx : BitVec 8) (units : List Nat) (s : State), s.pins.inReset = false → s.flag R.SYS_ABORT_STATUS_BUSY = false →
      (all = true ∨ idx.toNat < 26) → units = (if all then List.range 26 else [idx.toNat]).filter (s.unitActive 5) → units ≠ [] →
      Yields (.abortSerialPort all idx) s (s.abortBegun 5 all idx.toNat units))
  ∧ (∀ (all : Bool) (idx : BitVec 8) (units : List Nat) (s : State), s.pins.inReset = false → s.flag R.SYS_ABORT_STATUS_BUSY = false →
      (all = true ∨ idx.toNat < 4) → units = (if all then List.range 4 else [idx.toNat]).filter (s.unitActive 6) → units ≠ [] →
      Yields (.abortMcv all idx) s (s.abortBegun 6 all idx.toNat units))
  ∧ (∀ (all : Bool) (idx : BitVec 8) (units : List Nat) (s : State), s.pins.inReset = false → s.flag R.SYS_ABORT_STATUS_BUSY = false →
      (all = true ∨ idx.toNat < 8) → units = (if all then List.range 8 else [idx.toNat]).filter (s.unitActive 7) → units ≠ [] →
      Yields (.abortDmaChannel all idx) s (s.abortBegun 7 all idx.toNat units))
  ∧ (∀ (all : Bool) (idx : BitVec 8) (units : List Nat) (s : State), s.pins.inReset = false → s.flag R.SYS_ABORT_STATUS_BUSY = false →
      (all = true ∨ idx.toNat < 32) → units = (if all then List.range 32 else [idx.toNat]).filter (s.unitActive 8) → units ≠ [] →
      Yields (.abortDramQueue all idx) s (s.abortBegun 8 all idx.toNat units))
  ∧ (∀ (all : Bool) (idx : BitVec 8) (units : List Nat) (s : State), s.pins.inReset = false → s.flag R.SYS_ABORT_STATUS_BUSY = false →
      (all = true ∨ idx.toNat < 4) → units = (if all then List.range 4 else [idx.toNat]).filter (s.unitActive 9) → units ≠ [] →
      Yields (.abortPsChannel all idx) s (s.abortBegun 9 all idx.toNat units))
  ∧ (∀ (idx : BitVec 8) (s : State), s.pins.inReset = false → s.flag R.SYS_ABORT_STATUS_BUSY = false → idx.toNat < 16 → s.laneRuns idx.toNat = false →
      Gives (.abortLane false idx) s (fun t => t.get R.SYS_ABORT_STATUS_RESULT = 1 ∧ t.flag R.SYS_EVENT_ABORT_DONE = true))
  ∧ (∀ (cls : Fin 16) (all : Bool) (idx : BitVec 8) (s : State), s.pins.inReset = false → s.flag R.SYS_ABORT_STATUS_BUSY = false → abortCount cls = 0 →
      Gives (.abortBadClass cls all idx) s (fun t => t.get R.SYS_ABORT_STATUS_RESULT = 2 ∧ t.get R.SYS_ABORT_STATUS_CLASS = cls.val
        ∧ t.get R.SYS_ABORT_STATUS_INDEX = idx.toNat ∧ t.host.abort = s.host.abort))
  ∧ (∀ (us : Nat) (a : AbortSt) (s : State), s.host.abort = some a → s.host.held = [] →
      Gives (.abortComplete us) s (fun t => t.host.abort = none ∧ t.flag R.SYS_ABORT_STATUS_BUSY = false
        ∧ t.get R.SYS_ABORT_STATUS_RESULT = 0 ∧ t.get R.SYS_ABORT_STATUS_TIME = min 255 us ∧ t.flag R.SYS_EVENT_ABORT_DONE = true))

/-- The core rate (R11, R453): refused while anything runs; else accepted, in effect at the boundary where the sample index keeps
its media time. Resets (R441 to R452): what each leaves of the cause, the straps, the pins and the units it reaches.
The clauses in which nothing happens where the moment of a row has not come are the model's choice (log entry 7).
Where the spec leaves a detail open, its clauses rest on log entries 8, 111, 112, 113, 114, the model's reading. -/
def Obligations.RateAndResetsAct : Prop :=
  (∀ (w : BitVec 32) (s : State), s.NoAbort → s.anyRunning = true →
      Gives (.coreRateWrite w) s (fun t => t.flag R.SYS_CORE_RATE_REFUSED = true ∧ t.host.ratePending = s.host.ratePending))
  ∧ (∀ (w : BitVec 32) (s : State), s.NoAbort → s.anyRunning = false → s.on .clk = true →
      s.rate ≠ (if w.toNat.testBit 0 then 96000 else 48000) →
      Gives (.coreRateWrite w) s (fun t => t.flag R.SYS_CORE_RATE_REFUSED = false
        ∧ t.host.ratePending = some (if w.toNat.testBit 0 then 96000 else 48000) ∧ t.flag R.SYS_CORE_RATE_RATE = w.toNat.testBit 0))
  ∧ (∀ (new : Nat) (s : State), s.host.ratePending = some new → s.on .clk = true → s.atBoundary = true → s.time.begun = false →
      s.time.index * new % s.rate = 0 → s.time.index * new / s.rate % 8 = 0 →
      Gives .coreRateEffect s (fun t => t.host.ratePending = none ∧ t.time.index = s.time.index * new / s.rate))
  ∧ (∀ (s : State), Gives .powerOnReset s (fun t => t.pins.inReset = true ∧ t.rd R.SYS_RESET_CAUSE = 1 ∧ t.rd R.SYS_STRAPS = 0
      ∧ t.rd R.PWR_DOMAIN_STATE = resetOf R.PWR_DOMAIN_STATE ∧ t.pending = s.pending ∧ t.pinsQuiet = true))
  ∧ (∀ (hs tp : Bool) (b : BitVec 2) (s : State), s.pins.inReset = true →
      Gives (.powerOnResetRelease hs tp b) s (fun t => t.pins.inReset = false ∧ t.rd R.SYS_STRAPS = strapWord hs tp b.toNat
        ∧ t.rd R.SYS_RESET_CAUSE = s.rd R.SYS_RESET_CAUSE ∧ t.pinsQuiet = true))
  ∧ (∀ (hs tp : Bool) (b : BitVec 2) (s : State), s.pins.inReset = false →
      Gives (.rstNReset hs tp b) s (fun t => t.rd R.SYS_RESET_CAUSE = s.rd R.SYS_RESET_CAUSE ||| 2
        ∧ t.rd R.SYS_STRAPS = strapWord hs tp b.toNat ∧ t.link = {} ∧ t.time = {} ∧ t.pinsQuiet = true))
  ∧ (∀ (s : State), s.pins.inReset = false →
      Gives .deviceReset s (fun t => t.rd R.SYS_RESET_CAUSE = s.rd R.SYS_RESET_CAUSE ||| 8 ∧ t.link = {} ∧ t.time = {} ∧ t.twin = {}
        ∧ t.rd R.SYS_STRAPS = BitVec.ofNat 32 (Config.freeNat s.drawn % 16) ∧ t.pinsQuiet = true))
  ∧ (∀ (s : State), s.pins.inReset = false → s.domBusy = true → s.NoAbort → s.host.held = [] →
      Yields .warmReset s { s with host := { s.host with warmPending := true } })
  ∧ (∀ (s : State), s.pins.inReset = false → s.domBusy = false → Yields .warmReset s s.warmAct.drainHeld)
  ∧ (∀ (down : Bool) (s : State), s.pins.inReset = false → s.host.held = [] →
      Gives (.hostReset down) s (fun t => t.silos.dma = [] ∧ t.host.qspi = .idle ∧ t.flag R.SYS_PCIE_STATUS_BME = false
        ∧ t.get R.SYS_PCIE_STATUS_DSTATE = 0 ∧ t.flag ⟨R.SYS_RESET_CAUSE, 2, 2⟩ = true))
  ∧ (∀ (s : State), s.pins.inReset = false → s.pins.aReleased = false →
      Gives .aDieResetRelease s (fun t => t.pins.aReleased = true ∧ t.linkState = 1))

/-! ## Network ports and PTP (chapter 5) -/

/-- A port's link (R129 to R132, Table 5.2): CTRL is stored or refused, auto-negotiation ends, and the link comes up and goes down.
MDIO (R131): a frame starts, shows BUSY, and its end brings the data read.
Where the spec leaves a detail open, its clauses rest on log entry 147, the model's reading. -/
def Obligations.PortLinksAct : Prop :=
  (∀ (x : Fin 2) (w : BitVec 32) (s : State), s.NoAbort → s.netOn x = true → s.flag (R.NET_CTRL_EN x) = true →
      (s.rd (R.NET_CTRL x) ^^^ (w &&& 0x7F)) &&& 0x4E ≠ 0 →
      Gives (.netCtrlWrite x w) s (fun t => t.flag (R.NET_STATUS_MODE_REFUSED x) = true ∧ t.rd (R.NET_CTRL x) = s.rd (R.NET_CTRL x)
        ∧ t.net = s.net))
  ∧ (∀ (x : Fin 2) (w : BitVec 32) (s y : State), s.NoAbort → s.netOn x = true → s.flag (R.NET_CTRL_EN x) = false →
      w.toNat.testBit 0 = true → y = ((s.wr (R.NET_CTRL x) (w &&& 0x7F)).clr (R.NET_STATUS_MODE_REFUSED x)).laneShow x false →
      Yields (.netCtrlWrite x w) s ((s.twinLinks ((y.losShow x).ptpReview x)).markDirty (R.NET_CTRL x)))
  ∧ (∀ (x : Fin 2) (mbps : Nat) (s : State), s.netOn x = true → s.flag (R.NET_CTRL_EN x) = true → s.anInUse x = true →
      s.flag (R.NET_CTRL_LOOPBACK x) = false → mbps = 1000 ∨ s.get (R.NET_CTRL_MODE x) ≠ 1 → s.twinState ≠ 3 → s.twinState ≠ 6 →
      Gives (.anComplete x mbps) s (fun t => t.flag (R.NET_STATUS_AN_DONE x) = true ∧ t.flag (R.NET_STATUS_SPEED_ERR x) = false))
  ∧ (∀ (x : Fin 2) (los : Bool) (s : State), s.netOn x = true → s.flag (R.NET_CTRL_EN x) = true → s.linkIsUp x = false →
      s.flag (R.NET_CTRL_LOOPBACK x) = true →
      Yields (.linkUp x los) s (s.twinLinks (((s.setPort x { s.port x with los }).losShow x).linkUpNow x)))
  ∧ (∀ (x : Fin 2) (s : State), s.netOn x = true → s.flag (R.NET_CTRL_LOOPBACK x) = false →
      Yields (.linkDown x .pcs) s ((((s.clr (R.NET_STATUS_PCS_LOCK x)).clr (R.NET_STATUS_AN_DONE x)).linkDownNow x).twinCheck))
  ∧ (∀ (w : BitVec 32) (s : State), s.NoAbort → s.on .flowptp = true → s.flag R.NETC_MDIO_STATUS_BUSY = false →
      Gives (.mdioCommand w) s (fun t => t.flag R.NETC_MDIO_STATUS_BUSY = true ∧ t.flag R.NETC_MDIO_STATUS_REFUSED = false
        ∧ t.net = { s.net with mdioRead := if R.NETC_MDIO_CMD_ST.ofWord w = 1 then R.NETC_MDIO_CMD_OP.ofWord w == 2
            else R.NETC_MDIO_CMD_OP.ofWord w == 2 || R.NETC_MDIO_CMD_OP.ofWord w == 3 }))
  ∧ (∀ (w : BitVec 32) (s : State), s.NoAbort → s.on .flowptp = true → s.flag R.NETC_MDIO_STATUS_BUSY = true →
      Gives (.mdioCommand w) s (fun t => t.flag R.NETC_MDIO_STATUS_BUSY = true ∧ t.flag R.NETC_MDIO_STATUS_REFUSED = true ∧ t.net = s.net))
  ∧ (∀ (d : BitVec 16) (s : State), s.on .flowptp = true → s.flag R.NETC_MDIO_STATUS_BUSY = true → s.net.mdioRead = true →
      Gives (.mdioDone d) s (fun t => t.flag R.NETC_MDIO_STATUS_BUSY = false ∧ t.get R.NETC_MDIO_STATUS_RDATA = d.toNat))

/-- Frames (R134 to R145): what arrives is checked, counted and classified; what leaves goes by class, and is stamped.
Where the spec leaves a detail open, its clauses rest on log entries 31, 144, 148, the model's reading. -/
def Obligations.FramesMove : Prop :=
  (∀ (x : Fin 2) (bs : List (BitVec 8)) (t : Nat) (s : State), s.netOn x = true → s.linkIsUp x = true →
      s.flag (R.NET_CTRL_LOOPBACK x) = false → Yields (.frameReceive x false bs t) s (s.netCount x 2 1))
  ∧ (∀ (x : Fin 2) (bs : List (BitVec 8)) (t : Nat) (s y : State), s.netOn x = true → s.linkIsUp x = true →
      s.flag (R.NET_CTRL_LOOPBACK x) = false → 64 ≤ bs.length + 4 → bs.length + 4 ≤ 1518 → (parseEth bs).etype ≠ 0x8808 → (parseEth bs).etype ≠ 0x0800 →
      s.macPasses x (parseEth bs).dst = true → s.vlanPasses x (parseEth bs) = true →
      y = (s.netCount x 0 1).netCount x 1 (bs.length + 4) →
      Yields (.frameReceive x true bs t) s (y.byDestination x ((parseEth bs).etype != 0x0806) (parseEth bs) t))
  ∧ (∀ (s y : State) (bs : List (BitVec 8)), s.on .flowptp = true → s.flag R.NETC_HFP_CFG_EN = true → s.net.held = none →
      s.hfpWaits = false → s.siloTakeFrame (s.get R.NETC_HFP_CFG_TX_SILO) = (some bs, y) → bs.length < 16 →
      Gives .hostFrameTx s (fun t => t.flag R.NETC_HFP_EVENT_TX_BAD = true
        ∧ t.get R.NETC_HFP_TX_DROP_COUNT = (y.get R.NETC_HFP_TX_DROP_COUNT + 1) % 2 ^ 32))
  ∧ (∀ (s y : State) (bs : List (BitVec 8)) (w0 : Nat), s.on .flowptp = true → s.flag R.NETC_HFP_CFG_EN = true → s.net.held = none →
      s.hfpWaits = false → s.siloTakeFrame (s.get R.NETC_HFP_CFG_TX_SILO) = (some bs, y) → 16 ≤ bs.length → w0 = beNat (bs.take 4).reverse →
      hfpBad w0 (beNat ((bs.drop 4).take 4).reverse % 2 ^ 30) (bs.drop 16) = false → bitOf w0 19 = false →
      Yields .hostFrameTx s (y.hfpSend w0 6 ((bs.drop 16).take (hfpLen w0))))
  ∧ (∀ (s y : State) (w0 at_ : Nat) (f : List (BitVec 8)), s.net.held = some (w0, at_, f) →
      s.on .flowptp = true → s.flag R.NETC_HFP_CFG_EN = true → at_ ≤ s.mediaNs + 1000000000 / s.rate →
      s.mediaNs ≤ at_ + 1000000000 / s.rate → sel 2 (fun x => (bitsOf w0 15 14).testBit x && s.linkIsUp x) ≠ [] →
      y = { s with net := { s.net with held := none } } →
      Yields .hostFrameLaunch s (y.hfpSend w0 2 f))
  ∧ (∀ (x : Fin 2) (e : TxStamp) (l : List TxStamp) (s : State), (s.port x).taken = e :: l → (s.port x).stamps.length < 16 →
      Gives (.txTimestampCapture x) s (fun t => (t.port x).stamps = (s.port x).stamps ++ [e] ∧ (t.port x).taken = l
        ∧ t.flag (R.NET_EVENT_TXTS x) = true))
  ∧ (∀ (x : Fin 2) (s : State), (s.port x).busy = true → (s.port x).looped = none →
      Yields (.portTxFrameEnd x) s ((s.setPort x { s.port x with busy := false, looped := none }).txPick x))
  ∧ (∀ (x : Fin 2) (bs : List (BitVec 8)) (t : Nat) (s : State), (s.port x).busy = true → (s.port x).looped = some (bs, t) →
      Yields (.portTxFrameEnd x) s (((s.setPort x { s.port x with busy := false, looped := none }).txPick x).frameTake x true bs t))

/-- PTP reception (R147 to R151): Sync, Follow_Up, Delay_Req, Delay_Resp and Announce, each accepted where its rule accepts it. PTP
timers, transmissions and settings (R146 to R152).
Where the spec leaves a detail open, its clauses rest on log entries 32, 140, 141, 142, 143, the model's reading. -/
def Obligations.PtpActs : Prop :=
  (∀ (x : Fin 2) (m : PtpMsg) (t : Nat) (p : NetPort) (s y : State), s.netOn x = true → s.ptpState x = 3 → y = s.netCount x 10 1 →
      (s.port x).ebest = some m.source → (s.port x).lastSync = none → (s.port x).waiting = none → m.twoStep = true →
      p = { s.port x with lastSync := some m.seq, masterIp := m.ip, masterMac := m.mac, dreqDue := true, waiting := none } →
      Yields (.ptpSyncRx x m t) s (((y.setPort x p).vetSyncRate x m.logInterval).setPort x
        { p with waiting := some (m.seq, t, m.corr) }))
  ∧ (∀ (x : Fin 2) (m : PtpMsg) (t : Nat) (s : State), s.netOn x = true → s.ptpState x = 3 → (s.port x).ebest ≠ some m.source →
      Yields (.ptpSyncRx x m t) s ((s.netCount x 10 1).syncDiscard x))
  ∧ (∀ (x : Fin 2) (m : PtpMsg) (t2 : Nat) (c : Int) (s : State), s.netOn x = true → (s.port x).ebest = some m.source →
      (s.port x).waiting = some (m.seq, t2, c) →
      Yields (.ptpFollowUpRx x m) s (s.ptpComplete x m.time t2 (c + m.corr)))
  ∧ (∀ (x : Fin 2) (m : PtpMsg) (t : Nat) (s y : State), s.netOn x = true → s.ptpState x = 4 → s.linkIsUp x = true →
      (s.port x).answered = (t / (65536 * 1000000000), 7) →
      y = s.setPort x { s.port x with answered := (t / (65536 * 1000000000), 8) } →
      Yields (.ptpDelayReqRx x m t) s (y.ptpSend x false .plain ptpGroup (groupMac ptpGroup)
        (ptpHeader 9 54 (s.ptpDomain x) 0 (s.portId x) m.seq 3 m.corr (sgn 4 (s.get (R.NET_PTP_RATES_LOG_DREQ x))) ++ ptpTime t
          ++ beBytes 10 m.source)))
  ∧ (∀ (x : Fin 2) (m : PtpMsg) (t3 : Nat) (s : State), s.netOn x = true → s.ptpState x = 2 → (s.port x).dreq = some (m.seq, some t3) →
      (s.port x).sync = none → m.req = s.portId x →
      Gives (.ptpDelayRespRx x m) s (fun t => (t.port x).dreq = none ∧ (t.port x).dreqLog = some m.logInterval))
  ∧ (∀ (x : Fin 2) (m : PtpMsg) (t : Nat) (s : State), s.netOn x = true → s.ptpState x ≠ 0 → s.linkIsUp x = true →
      m.source / 65536 ≠ s.clockId x → m.ds.steps < 255 → m.logInterval = 0 → (s.port x).foreign = [] →
      Gives (.ptpAnnounceRx x m t) s (fun u => (u.port x).foreign = [{ source := m.source, ds := m.ds, logInterval := 0, last := t }]))
  ∧ (∀ (x : Fin 2) (s : State), (s.port x).waiting.isSome = true →
      Yields (.followUpTimeout x) s ((s.setPort x { s.port x with waiting := none }).syncDiscard x))
  ∧ (∀ (x : Fin 2) (src : Nat) (s : State), s.netOn x = true → (s.port x).foreign.any (fun f => f.source == src) = true →
      Yields (.announceReceiptTimeout x src) s
        ((s.setPort x { s.port x with foreign := (s.port x).foreign.filter (fun f => f.source != src) }).ptpReview x))
  ∧ (∀ (x : Fin 2) (s y : State), s.netOn x = true → s.ptpState x = 3 → (s.port x).dreqDue = true → s.ipOf x ≠ 0 →
      s.linkIsUp x = true → s.flag (R.NET_PTP_CFG_DREQ_UNICAST x) = false →
      y = s.setPort x { s.port x with
        dreqDue := false, dreqSeq := ((s.port x).dreqSeq + 1) % 65536, dreq := some ((s.port x).dreqSeq, none) } →
      Yields (.delayReqSend x) s ((({ y with drawn := y.drawn + 1 }).netCount x 12 1).ptpSend x true (.delayReq (s.port x).dreqSeq) ptpGroup
        (groupMac ptpGroup) (ptpHeader 1 44 (s.ptpDomain x) 0 (s.portId x) (s.port x).dreqSeq 1 0 127 ++ beBytes 10 (Config.freeNat s.drawn))))
  ∧ (∀ (x : Fin 2) (s : State), s.netOn x = true → s.ptpState x = 4 → s.linkIsUp x = true → s.ipOf x ≠ 0 → (s.port x).busy = true →
      Gives (.announceSend x) s (fun t => (t.port x).annSeq = ((s.port x).annSeq + 1) % 65536
        ∧ (t.port x).queue.length = (s.port x).queue.length + 1))
  ∧ (∀ (x : Fin 2) (s : State), s.netOn x = true → s.ptpState x = 4 → s.linkIsUp x = true → s.ipOf x ≠ 0 → (s.port x).busy = true →
      Gives (.syncSend x) s (fun t => (t.port x).syncSeq = ((s.port x).syncSeq + 1) % 65536
        ∧ (t.port x).queue.length = (s.port x).queue.length + 1))
  ∧ (∀ (x : Fin 2) (w : BitVec 32) (s : State), s.NoAbort → s.netOn x = true →
      Yields (.ptpRoleWrite x w) s (((s.wr (R.NET_PTP_CFG x) w).ptpReview x).markDirty (R.NET_PTP_CFG x)))
  ∧ (∀ (x : Fin 2) (w : BitVec 32) (s : State), s.NoAbort → s.netOn x = true → s.flag (R.NET_PTP_CFG_PROFILE x) = false →
      Gives (.ptpRatesWrite x w) s (fun t =>
        sgn 4 (t.get (R.NET_PTP_RATES_LOG_SYNC x)) = nearest (-7) (-1) (sgn 4 ((R.NET_PTP_RATES_LOG_SYNC x).ofWord w))
        ∧ sgn 4 (t.get (R.NET_PTP_RATES_LOG_ANNOUNCE x)) = nearest (-3) 1 (sgn 4 ((R.NET_PTP_RATES_LOG_ANNOUNCE x).ofWord w))
        ∧ sgn 4 (t.get (R.NET_PTP_RATES_LOG_DREQ x)) = nearest (-7) 5 (sgn 4 ((R.NET_PTP_RATES_LOG_DREQ x).ofWord w))))

/-- IGMP (R153 to R155): joins, leaves and reports of the table, repeated reports, queries and their answers.
Where the spec leaves a detail open, its clauses rest on log entries 32, 145, 146, 315, the model's reading. -/
def Obligations.IgmpActs : Prop :=
  (∀ (w : BitVec 32) (n : Fin 512) (s y z : State), s.NoAbort → s.on .flowptp = true →
      s.flag R.NETC_IGMP_STATUS_BUSY = false → R.NETC_IGMP_CMD_INDEX.ofWord (R.NETC_IGMP_CMD_OP.inWord w 1) = n.val → (s.joinRefusal n).1 = none →
      y = (s.put (R.MEMB_PORTS_JOINED n) (s.get (R.MEMB_PORTS_PORTS n))).put R.NETC_IGMP_STATUS_RESULT 0 →
      z = (y.put R.NETC_IGMP_STATUS_USED y.igmpUsed.length).raise R.NETC_IGMP_STATUS_BUSY →
      Yields (.igmpJoin w) s ((z.igmpStart
        { leave := false, index := n, group := s.get (R.MEMB_GROUP_GROUP n), source := s.get (R.MEMB_SOURCE_SOURCE n),
          ports := s.get (R.MEMB_PORTS_PORTS n), left := s.robust, cmd := true }).markDirty R.NETC_IGMP_CMD))
  ∧ (∀ (w : BitVec 32) (n : Fin 512) (s : State), s.NoAbort → s.on .flowptp = true →
      s.flag R.NETC_IGMP_STATUS_BUSY = false → R.NETC_IGMP_CMD_INDEX.ofWord (R.NETC_IGMP_CMD_OP.inWord w 1) = n.val → (s.joinRefusal n).1 = none →
      2 ≤ s.robust →
      Gives (.igmpJoin w) s (fun t => t.get (R.MEMB_PORTS_JOINED n) = s.get (R.MEMB_PORTS_PORTS n)
        ∧ t.get R.NETC_IGMP_STATUS_RESULT = 0 ∧ t.flag R.NETC_IGMP_STATUS_BUSY = true))
  ∧ (∀ (w : BitVec 32) (n : Fin 512) (x : Fin 2) (g dst : Nat) (m : Nat → List (BitVec 8)) (f : List (BitVec 8)) (s : State), s.NoAbort → s.on .flowptp = true →
      s.flag R.NETC_IGMP_STATUS_BUSY = false → R.NETC_IGMP_CMD_INDEX.ofWord (R.NETC_IGMP_CMD_OP.inWord w 1) = n.val →
      (s.joinRefusal n).1 = none → (s.get (R.MEMB_PORTS_PORTS n)).testBit x = true → s.linkIsUp x = true → s.netOn x = true → s.ipOf x ≠ 0 →
      (s.port x).busy = true → g = s.get (R.MEMB_GROUP_GROUP n) → s.get (R.MEMB_SOURCE_SOURCE n) = 0 → s.igmpV2 x = true →
      dst = g → m = (fun ck => beBytes 1 0x16 ++ [0] ++ beBytes 2 ck ++ beBytes 4 g) →
      f = ether (groupMac dst) (s.macOf x) (s.tagOf x (R.NET_VLAN_PCP_HOST x)) 0x0800
        (ipv4 (s.get R.NETC_IGMP_CFG_DSCP) 1 2 (s.port x).ident (s.ipOf x) dst [0x94, 0x04, 0, 0] (m (checksum (m 0)))) →
      Gives (.igmpJoin w) s (fun t => (t.port x).queue = (s.port x).queue ++ [{ cls := 5, bytes := f }]))
  ∧ (∀ (w : BitVec 32) (n : Fin 512) (x : Fin 2) (g dst : Nat) (m : Nat → List (BitVec 8)) (f : List (BitVec 8)) (s : State), s.NoAbort → s.on .flowptp = true →
      s.flag R.NETC_IGMP_STATUS_BUSY = false → R.NETC_IGMP_CMD_INDEX.ofWord (R.NETC_IGMP_CMD_OP.inWord w 1) = n.val →
      (s.joinRefusal n).1 = none → (s.get (R.MEMB_PORTS_PORTS n)).testBit x = true → s.linkIsUp x = true → s.netOn x = true → s.ipOf x ≠ 0 →
      (s.port x).busy = true → g = s.get (R.MEMB_GROUP_GROUP n) → s.get (R.MEMB_SOURCE_SOURCE n) = 0 → s.igmpV2 x = false →
      dst = 0xE0000016 → m = (fun ck => beBytes 1 0x22 ++ [0] ++ beBytes 2 ck ++ beBytes 2 0 ++ beBytes 2 1
        ++ beBytes 1 4 ++ [0] ++ beBytes 2 0 ++ beBytes 4 g ++ []) →
      f = ether (groupMac dst) (s.macOf x) (s.tagOf x (R.NET_VLAN_PCP_HOST x)) 0x0800
        (ipv4 (s.get R.NETC_IGMP_CFG_DSCP) 1 2 (s.port x).ident (s.ipOf x) dst [0x94, 0x04, 0, 0] (m (checksum (m 0)))) →
      Gives (.igmpJoin w) s (fun t => (t.port x).queue = (s.port x).queue ++ [{ cls := 5, bytes := f }]))
  ∧ (∀ (w : BitVec 32) (s : State), s.NoAbort → s.on .flowptp = true → s.flag R.NETC_IGMP_STATUS_BUSY = true →
      Gives (.igmpJoin w) s (fun t => t.get R.NETC_IGMP_STATUS_RESULT = 4 ∧ t.net = s.net))
  ∧ (∀ (w : BitVec 32) (n : Fin 512) (s : State), s.NoAbort → s.on .flowptp = true →
      s.flag R.NETC_IGMP_STATUS_BUSY = false → R.NETC_IGMP_CMD_INDEX.ofWord (R.NETC_IGMP_CMD_OP.inWord w 2) = n.val → s.get (R.MEMB_PORTS_JOINED n) = 0 →
      Gives (.igmpLeave w) s (fun t => t.get R.NETC_IGMP_STATUS_RESULT = 6 ∧ t.flag R.NETC_HFP_EVENT_IGMP_DONE = true ∧ t.net = s.net))
  ∧ (∀ (w : BitVec 32) (n : Fin 512) (s y z : State), s.NoAbort → s.on .flowptp = true →
      s.flag R.NETC_IGMP_STATUS_BUSY = false → R.NETC_IGMP_CMD_INDEX.ofWord (R.NETC_IGMP_CMD_OP.inWord w 2) = n.val → s.get (R.MEMB_PORTS_JOINED n) ≠ 0 →
      y = (s.clr (R.MEMB_PORTS_JOINED n)).put R.NETC_IGMP_STATUS_RESULT 0 →
      z = (y.put R.NETC_IGMP_STATUS_USED y.igmpUsed.length).raise R.NETC_IGMP_STATUS_BUSY →
      Yields (.igmpLeave w) s ((({ z with net := { z.net with jobs := z.net.jobs.filter (fun j => j.index != n.val) } }).igmpStart
        { leave := true, index := n, group := s.get (R.MEMB_GROUP_GROUP n), source := s.get (R.MEMB_SOURCE_SOURCE n),
          ports := s.get (R.MEMB_PORTS_JOINED n), left := s.robust, cmd := true }).markDirty R.NETC_IGMP_CMD))
  ∧ (∀ (w : BitVec 32) (n : Fin 512) (s : State), s.NoAbort → s.on .flowptp = true →
      s.flag R.NETC_IGMP_STATUS_BUSY = false → R.NETC_IGMP_CMD_INDEX.ofWord (R.NETC_IGMP_CMD_OP.inWord w 2) = n.val → s.get (R.MEMB_PORTS_JOINED n) ≠ 0 →
      2 ≤ s.robust →
      Gives (.igmpLeave w) s (fun t => t.get (R.MEMB_PORTS_JOINED n) = 0 ∧ t.get R.NETC_IGMP_STATUS_RESULT = 0
        ∧ t.flag R.NETC_IGMP_STATUS_BUSY = true))
  ∧ (∀ (w : BitVec 32) (n : Fin 512) (x : Fin 2) (g dst : Nat) (m : Nat → List (BitVec 8)) (f : List (BitVec 8)) (s : State), s.NoAbort → s.on .flowptp = true →
      s.flag R.NETC_IGMP_STATUS_BUSY = false → R.NETC_IGMP_CMD_INDEX.ofWord (R.NETC_IGMP_CMD_OP.inWord w 2) = n.val →
      s.get (R.MEMB_PORTS_JOINED n) ≠ 0 → (s.get (R.MEMB_PORTS_JOINED n)).testBit x = true → s.linkIsUp x = true → s.netOn x = true → s.ipOf x ≠ 0 →
      (s.port x).busy = true → g = s.get (R.MEMB_GROUP_GROUP n) → s.get (R.MEMB_SOURCE_SOURCE n) = 0 → s.igmpV2 x = true →
      dst = 0xE0000002 → m = (fun ck => beBytes 1 0x17 ++ [0] ++ beBytes 2 ck ++ beBytes 4 g) →
      f = ether (groupMac dst) (s.macOf x) (s.tagOf x (R.NET_VLAN_PCP_HOST x)) 0x0800
        (ipv4 (s.get R.NETC_IGMP_CFG_DSCP) 1 2 (s.port x).ident (s.ipOf x) dst [0x94, 0x04, 0, 0] (m (checksum (m 0)))) →
      Gives (.igmpLeave w) s (fun t => (t.port x).queue = (s.port x).queue ++ [{ cls := 5, bytes := f }]))
  ∧ (∀ (w : BitVec 32) (n : Fin 512) (x : Fin 2) (g dst : Nat) (m : Nat → List (BitVec 8)) (f : List (BitVec 8)) (s : State), s.NoAbort → s.on .flowptp = true →
      s.flag R.NETC_IGMP_STATUS_BUSY = false → R.NETC_IGMP_CMD_INDEX.ofWord (R.NETC_IGMP_CMD_OP.inWord w 2) = n.val →
      s.get (R.MEMB_PORTS_JOINED n) ≠ 0 → (s.get (R.MEMB_PORTS_JOINED n)).testBit x = true → s.linkIsUp x = true → s.netOn x = true → s.ipOf x ≠ 0 →
      (s.port x).busy = true → g = s.get (R.MEMB_GROUP_GROUP n) → s.get (R.MEMB_SOURCE_SOURCE n) = 0 → s.igmpV2 x = false →
      dst = 0xE0000016 → m = (fun ck => beBytes 1 0x22 ++ [0] ++ beBytes 2 ck ++ beBytes 2 0 ++ beBytes 2 1
        ++ beBytes 1 3 ++ [0] ++ beBytes 2 0 ++ beBytes 4 g ++ []) →
      f = ether (groupMac dst) (s.macOf x) (s.tagOf x (R.NET_VLAN_PCP_HOST x)) 0x0800
        (ipv4 (s.get R.NETC_IGMP_CFG_DSCP) 1 2 (s.port x).ident (s.ipOf x) dst [0x94, 0x04, 0, 0] (m (checksum (m 0)))) →
      Gives (.igmpLeave w) s (fun t => (t.port x).queue = (s.port x).queue ++ [{ cls := 5, bytes := f }]))
  ∧ (∀ (w : BitVec 32) (s y : State), s.NoAbort → s.on .flowptp = true → s.flag R.NETC_IGMP_STATUS_BUSY = false →
      y = s.igmpUsed.foldl (fun s n => forN 2 (fun x s =>
        if s.joinedOn n x then s.igmpReport x 2 (s.get (R.MEMB_GROUP_GROUP n)) (s.get (R.MEMB_SOURCE_SOURCE n)) else s) s) s →
      Yields (.igmpReportAll w) s ((y.put R.NETC_IGMP_STATUS_RESULT 0).igmpDone.markDirty R.NETC_IGMP_CMD))
  ∧ (∀ (w : BitVec 32) (s : State), s.NoAbort → s.on .flowptp = true → s.flag R.NETC_IGMP_STATUS_BUSY = false → s.igmpUsed = [] →
      Gives (.igmpReportAll w) s (fun t => t.get R.NETC_IGMP_STATUS_RESULT = 0 ∧ t.flag R.NETC_HFP_EVENT_IGMP_DONE = true))
  ∧ (∀ (k : Nat) (j : IgmpJob) (s y : State), s.net.jobs[k]? = some j → 2 ≤ j.left → y = s.igmpRound j →
      Yields (.igmpRepeat k) s { y with net := { y.net with jobs := setAt y.net.jobs k { j with left := j.left - 1 } } })
  ∧ (∀ (k : Nat) (j : IgmpJob) (s y z : State), s.net.jobs[k]? = some j → j.left ≤ 1 → y = s.igmpRound j →
      z = { y with net := { y.net with jobs := y.net.jobs.eraseIdx k } } →
      Yields (.igmpRepeat k) s (if j.cmd then z.igmpDone else z))
  ∧ (∀ (x : Fin 2) (q : IgmpQuery) (s : State), s.on .flowptp = true → s.linkIsUp x = true → q.version = 3 →
      s.flag R.NETC_IGMP_CFG_QRESP = true → sel 512 (s.queryMatches x q) ≠ [] →
      Gives (.igmpQueryRx x q) s (fun t => (t.port x).queries = (s.port x).queries ++ [q]))
  ∧ (∀ (x : Fin 2) (q : IgmpQuery) (l : List IgmpQuery) (s y : State), (s.port x).queries = q :: l →
      y = s.setPort x { s.port x with queries := l } →
      Yields (.igmpQueryResponse x) s ((sel 512 (y.queryMatches x q)).foldl
        (fun s n => s.igmpReport x 2 (s.get (R.MEMB_GROUP_GROUP n)) (s.get (R.MEMB_SOURCE_SOURCE n))) y))
  ∧ (∀ (s : State), s.on .flowptp = true → Gives (.igmpV2Timeout 0) s (fun t => t.flag R.NETC_IGMP_STATUS_V2_FALLBACK_A = false))
  ∧ (∀ (s : State), s.on .flowptp = true → Gives (.igmpV2Timeout 1) s (fun t => t.flag R.NETC_IGMP_STATUS_V2_FALLBACK_B = false))

/-! ## Audio flows (chapter 6) -/

/-- Flow commands (R180, R181): START is refused with its RESULT or allocates; STOP refused in STOPPING, taken in RUNNING with a
fade of 64 samples from the next boundary (a transmit flow ends at a multiple of P); CLR_CNT zeroes the counters. The states of
a flow (R179, Tables 6.5, 6.6): allocation done it is ARMED with its start index, at that index RUNNING, at the stop index it
has ended, and an ended flow returns to IDLE.
The clauses in which nothing happens where the moment of a row has not come are the model's choice (log entry 7).
Where the spec leaves a detail open, its clauses rest on log entries 73, 150, 151, the model's reading. -/
def Obligations.FlowCommandsAct : Prop :=
  (∀ (n : Fin 256) (w : BitVec 32) (s y : State), s.NoAbort → s.on .flowptp = true → w.toNat.testBit 4 = false →
      y = s.wr (R.FLOW_RX_CTRL n) ((R.FLOW_RX_CTRL_CMD n).inWord w 1 &&& 0xC) → y.rxResult n ≠ 0 →
      Gives (.flowRxStart n w) s (fun t => t.get (R.FLOW_RX_STATUS_RESULT n) = y.rxResult n ∧ t.flag (flowEvent 1) = true
        ∧ t.flow = s.flow))
  ∧ (∀ (n : Fin 256) (w : BitVec 32) (s y : State), s.NoAbort → s.on .flowptp = true → w.toNat.testBit 4 = false →
      w.toNat.testBit 3 = false → w.toNat.testBit 2 = false →
      y = s.wr (R.FLOW_RX_CTRL n) ((R.FLOW_RX_CTRL_CMD n).inWord w 1 &&& 0xC) → y.rxResult n = 0 →
      Gives (.flowRxStart n w) s (fun t => t.get (R.FLOW_RX_STATUS_RESULT n) = 0 ∧ t.flag (R.FLOW_RX_STATUS_LATE n) = false
        ∧ t.flag (R.FLOW_RX_STATUS_SPILLED n) = (y.rxPlace n).1 ∧ t.rxf n = { start := some (s.toFlow false n s.cmdBoundary) } ∧ t.flowUsed false n = true))
  ∧ (∀ (n : Fin 256) (w : BitVec 32) (s y : State), s.NoAbort → s.on .flowptp = true → w.toNat.testBit 4 = false →
      y = s.wr (R.FLOW_TX_CTRL n) ((R.FLOW_TX_CTRL_CMD n).inWord w 1 &&& 0xC) → y.txResult n ≠ 0 →
      Gives (.flowTxStart n w) s (fun t => t.get (R.FLOW_TX_STATUS_RESULT n) = y.txResult n ∧ t.flag (flowEvent 9) = true
        ∧ t.flow = s.flow))
  ∧ (∀ (n : Fin 256) (w : BitVec 32) (s y : State), s.NoAbort → s.on .flowptp = true → w.toNat.testBit 4 = false →
      w.toNat.testBit 3 = false → w.toNat.testBit 2 = false →
      y = s.wr (R.FLOW_TX_CTRL n) ((R.FLOW_TX_CTRL_CMD n).inWord w 1 &&& 0xC) → y.txResult n = 0 →
      Gives (.flowTxStart n w) s (fun t => t.get (R.FLOW_TX_STATUS_RESULT n) = 0
        ∧ t.txf n =
          { start := some (s.toFlow true n s.cmdBoundary), granules := y.txGranules n, costA := y.txCost n 0, costB := y.txCost n 1 } ∧ t.flowUsed true n = true))
  ∧ (∀ (n : Fin 256) (w : BitVec 32) (s : State), s.NoAbort → s.on .flowptp = true → w.toNat.testBit 4 = false →
      s.flowState false n = 3 →
      Gives (.flowRxStop n w) s (fun t => t.get (R.FLOW_RX_STATUS_RESULT n) = 6 ∧ t.flag (flowEvent 1) = true ∧ t.flow = s.flow))
  ∧ (∀ (n : Fin 256) (w : BitVec 32) (s y : State), s.NoAbort → s.on .flowptp = true → w.toNat.testBit 4 = false →
      w.toNat.testBit 2 = false → s.flowState false n = 2 → s.flowUsed false n = true → s.noFade false n = false →
      y = s.wr (R.FLOW_RX_CTRL n) ((R.FLOW_RX_CTRL_CMD n).inWord w 2 &&& 0xC) →
      Gives (.flowRxStop n w) s (fun t => t.flowState false n = 3 ∧ t.flag (flowEvent 0) = true
        ∧ (t.rxf n).stop = some (s.toFlow false n s.cmdBoundary + 64) ∧ (t.rxf n).fadeFrom = s.toFlow false n s.cmdBoundary))
  ∧ (∀ (n : Fin 256) (w : BitVec 32) (s : State), s.NoAbort → s.on .flowptp = true → w.toNat.testBit 4 = false →
      w.toNat.testBit 2 = false → s.flowState true n = 2 → s.flowUsed true n = true → s.noFade true n = false →
      Gives (.flowTxStop n w) s (fun t => t.flowState true n = 3 ∧ t.flag (flowEvent 8) = true
        ∧ (t.txf n).stop = some (roundUp (s.flowP true n) (s.toFlow true n s.cmdBoundary + 64))
        ∧ (t.txf n).fadeTo = s.toFlow true n s.cmdBoundary + 64))
  ∧ (∀ (rx : Bool) (n : Fin 256) (w : BitVec 32) (s : State), s.NoAbort → s.on .flowptp = true → w.toNat % 4 = 0 →
      Gives (.flowClearCounters rx n w) s (fun t => (if rx then ∀ k : Fin 14, t.rd (R.FLOW_RXC_CNT n k) = 0
        else ∀ k : Fin 3, t.rd (R.FLOW_TXC_PKT n + 4 * k) = 0) ∧ t.flow = s.flow))
  ∧ (∀ (n : Fin 256) (st : Nat) (s : State), s.on .flowptp = true → s.flowUsed false n = true → (s.rxf n).allocating = true →
      (s.rxf n).start = some st → (s.rxf n).timed = false → s.flowState false n = 0 →
      Gives (.flowArmed true n) s (fun t => t.flowState false n = 1 ∧ t.flag (flowEvent 0) = true
        ∧ (t.rxf n).start = some (max st (s.toFlow false n s.nextBoundary)) ∧ (t.rxf n).f = s.toFlow false n s.nextBoundary
        ∧ (t.rxf n).allocating = false))
  ∧ (∀ (n : Fin 256) (s : State), s.on .flowptp = true → s.flowUsed true n = true → (s.txf n).allocating = true →
      (s.txf n).start = none → s.flowState true n = 0 →
      Gives (.flowArmed false n) s (fun t => t.flowState true n = 1 ∧ t.flag (flowEvent 8) = true
        ∧ (t.txf n).start = none ∧ t.get (R.FLOW_TX_SEQ_NOW_NEXT n) = s.get (R.FLOW_TX_SEQ_SEQ_INIT n)))
  ∧ (∀ (n : Fin 256) (i : Nat) (s : State), s.flowState false n = 1 → (s.rxf n).start = some i → (s.rxf n).cancelled = false →
      i ≤ s.toFlow false n s.time.index →
      Gives (.flowStartIndex true n) s (fun t => t.flowState false n = 2 ∧ t.flag (flowEvent 0) = true ∧ t.flow = s.flow))
  ∧ (∀ (n : Fin 256) (i : Nat) (s : State), s.flowState true n = 1 → (s.txf n).start = some i → (s.txf n).cancelled = false →
      i ≤ s.toFlow true n s.time.index →
      Gives (.flowStartIndex false n) s (fun t => t.flowState true n = 2 ∧ t.flag (flowEvent 8) = true ∧ t.flow = s.flow))
  ∧ (∀ (rx : Bool) (n : Fin 256) (s : State), s.flowState (!rx) n = 0 → Yields (.flowStartIndex rx n) s s)
  ∧ (∀ (n : Fin 256) (e : Nat) (s : State), s.flowState false n = 3 → (s.rxf n).stop = some e → e ≤ s.toFlow false n s.time.index →
      Yields (.flowStopIndex true n) s (s.setRxf n { s.rxf n with ended := true }))
  ∧ (∀ (n : Fin 256) (e : Nat) (s : State), s.flowState true n = 3 → (s.txf n).stop = some e → e ≤ (s.txf n).done →
      Yields (.flowStopIndex false n) s (s.setTxf n { s.txf n with ended := true }))
  ∧ (∀ (n : Fin 256) (s : State), s.flowUsed false n = true → (s.rxf n).ended = true →
      Gives (.flowIdle true n) s (fun t => t.flowState false n = 0 ∧ t.get (R.FLOW_RX_BUF_ONCHIP n) = 0
        ∧ t.flow.rx = del s.flow.rx n ∧ t.flow.tx = s.flow.tx))
  ∧ (∀ (n : Fin 256) (s : State), s.flowUsed true n = true → (s.txf n).ended = true →
      Gives (.flowIdle false n) s (fun t => t.flowState true n = 0 ∧ t.get (R.FLOW_TX_STATUS_COST n) = 0
        ∧ t.flow.tx = del s.flow.tx n ∧ t.flow.rx = s.flow.rx))

/-- Packets received (R163 to R170) and sent (R174 to R177), and the channel-status capture (R162).
The clauses in which nothing happens where the moment of a row has not come are the model's choice (log entry 7).
Where the spec leaves a detail open, its clauses rest on log entries 149, 152, 153, the model's reading. -/
def Obligations.FlowPacketsMove : Prop :=
  (∀ (x : Fin 2) (n : Nat) (p : RtpPacket) (t : Nat) (d : Int) (f : RxFlow) (s : State), s.on .flowptp = true → s.rxFind x p = some n →
      p.version = 2 → p.pt = s.get (R.FLOW_RX_CFG_PT n) → s.flag (R.FLOW_RX_CFG_SSRC_EN n) = false →
      p.payload.length = s.get (fChannels false n) * s.flowP false n * wireBytes (s.get (fFormat false n)) →
      f = s.rxf n → (if x = 0 then f.sa else f.sb).high = none → f.slots = [] →
      d = sgn 32 (unsgn 32 ((p.ts : Int) - s.get (R.FLOW_RX_TS_OFS_TS_OFS n) - ((f.f : Int) - s.get (R.FLOW_RX_OFFSET_OFFSET n)))) →
      0 ≤ d → d + s.flowP false n ≤ s.rxDepth n →
      Gives (.flowPacketRx x p t) s (fun u =>
        u.flag (if x = 0 then R.FLOW_RX_STATUS_RX_A n else R.FLOW_RX_STATUS_RX_B n) = true
        ∧ u.get (R.FLOW_RXC_CNT_COUNT n x) = (s.get (R.FLOW_RXC_CNT_COUNT n x) + 1) % 2 ^ 32
        ∧ (if x = 0 then (u.rxf n).sa else (u.rxf n).sb).high = some p.seq ∧ (u.rxf n).bad = 0 ∧ (u.rxf n).good = f.good + 1
        ∧ (∀ j, j < s.flowP false n → look [] (u.rxf n).slots (f.f + d.toNat + j)
            = sampleWords p.payload (s.get (fChannels false n)) (wireBytes (s.get (fFormat false n))) j)))
  ∧ (∀ (x : Fin 2) (n : Nat) (p : RtpPacket) (t : Nat) (s y : State), s.on .flowptp = true → s.rxFind x p = some n → p.version ≠ 2 →
      y = s.raise (if x = 0 then R.FLOW_RX_STATUS_RX_A n else R.FLOW_RX_STATUS_RX_B n) →
      Yields (.flowPacketRx x p t) s (y.rxCount n 10 1))
  ∧ (∀ (x : Fin 2) (n : Nat) (p : RtpPacket) (t : Nat) (s y : State), s.on .flowptp = true → s.rxFind x p = some n → p.version = 2 →
      p.pt = s.get (R.FLOW_RX_CFG_PT n) → s.flag (R.FLOW_RX_CFG_SSRC_EN n) = false →
      p.payload.length = s.get (fChannels false n) * s.flowP false n * wireBytes (s.get (fFormat false n)) →
      (if x = 0 then (s.rxf n).sa else (s.rxf n).sb).high = some p.seq →
      y = s.raise (if x = 0 then R.FLOW_RX_STATUS_RX_A n else R.FLOW_RX_STATUS_RX_B n) →
      Yields (.flowPacketRx x p t) s ((y.rxCount n (6 + x) 1).setRxf n (s.rxf n)))
  ∧ (∀ (x : Fin 2) (p : RtpPacket) (t : Nat) (s : State), s.rxFind x p = none → Yields (.flowPacketRx x p t) s s)
  ∧ (∀ (n : Fin 256) (x : Fin 2) (s : State), s.on .flowptp = true →
      Gives (.flowRxPortSilent n x) s (fun t =>
        t.flag (if x = 0 then R.FLOW_RX_STATUS_RX_A n else R.FLOW_RX_STATUS_RX_B n) = false ∧ t.flow = s.flow))
  ∧ (∀ (n : Fin 256) (s : State), s.on .flowptp = true →
      Gives (.flowMonitorTick n) s (fun t =>
        t.get (R.FLOW_RXC_MON_SKEW n) = (if (s.rxMon n).seenA ∧ (s.rxMon n).seenB then (s.rxMon n).skew else 0) % 2 ^ 16
        ∧ t.get (R.FLOW_RXC_MON_MARGIN n) = (if (s.rxMon n).late then 0 else (s.rxMon n).margin.getD 0xFFFF) % 2 ^ 16
        ∧ t.flow = { s.flow with mons := del s.flow.mons n }))
  ∧ (∀ (n : Fin 256) (m : Nat) (k : TxPacket) (s x y : State) (u ip bs : List (BitVec 8)), s.on .flowptp = true → s.owns = true →
      s.flow.launches.find? (fun e => e.1 == n.val) = some (m, k) → k.launch ≤ (s.mediaNs + 1000000000 / s.rate) * 65536 →
      s.get (fPorts true n) = 1 → s.linkIsUp 0 = true → s.ipOf 0 ≠ 0 →
      x = { s with flow := { s.flow with launches := s.flow.launches.erase (m, k) } } →
      y = x.setPort 0 { x.port 0 with ident := ((s.port 0).ident + 1) % 65536 } →
      u = udp (s.ipOf 0) (s.get (fDst true n 0)) (s.get (fSport true n 0)) (s.get (fDport true n 0))
        ([0x80] ++ beBytes 1 (s.get (R.FLOW_TX_CFG_PT n)) ++ beBytes 2 k.seq ++ beBytes 4 k.first
          ++ beBytes 4 (s.get (R.FLOW_TX_SSRC_SSRC n)) ++ k.payload) →
      ip = ipv4 (s.get (R.FLOW_TX_CH_DSCP n)) (s.get (R.FLOW_TX_CH_TTL n)) 17 (s.port 0).ident (s.ipOf 0) (s.get (fDst true n 0)) [] u →
      bs = ether (s.flowMac n 0) (s.macOf 0) (s.tagOf 0 (R.NET_VLAN_PCP_MEDIA 0)) 0x0800 ip →
      Yields (.flowTxLaunch n) s (y.txSend 0 { cls := 3, kind := .audio n k.launch, bytes := bs }))
  ∧ (∀ (n : Fin 256) (m : Nat) (k : TxPacket) (s x : State), s.on .flowptp = true → s.owns = false →
      s.flow.launches.find? (fun e => e.1 == n.val) = some (m, k) → k.launch ≤ (s.mediaNs + 1000000000 / s.rate) * 65536 →
      x = { s with flow := { s.flow with launches := s.flow.launches.erase (m, k) } } →
      Yields (.flowTxLaunch n) s x)
  ∧ (∀ (n : Fin 256) (m : Nat) (k : TxPacket) (s x : State), s.on .flowptp = true → s.owns = true →
      s.flow.launches.find? (fun e => e.1 == n.val) = some (m, k) → k.launch ≤ (s.mediaNs + 1000000000 / s.rate) * 65536 →
      s.get (fPorts true n) = 1 → s.linkIsUp 0 = false →
      x = { s with flow := { s.flow with launches := s.flow.launches.erase (m, k) } } →
      Yields (.flowTxLaunch n) s (x.txDiscard 0 { cls := 3, kind := .audio n k.launch, bytes := [] }))
  ∧ (∀ (w : BitVec 32) (s : State), s.NoAbort → s.on .flowptp = true → s.get (fFormat false (R.FLOW_CS_CAP_FLOW.ofWord w)) = 2 →
      Gives (.flowCsCaptureArm w) s (fun t => t.flag R.FLOW_CS_CAP_ARM = true ∧ t.flag R.FLOW_CS_CAP_VALID = s.flag R.FLOW_CS_CAP_VALID
        ∧ t.get R.FLOW_CS_CAP_FLOW = R.FLOW_CS_CAP_FLOW.ofWord w ∧ t.flow.csBits = none))

/-- The words of a flow in use (R182): its configuration words cannot be written and say so, and CTRL, AT_LO and AT_HI remain writable.
That a flow is in use from the acceptance of its START is the model's choice (log entry 73). -/
def Obligations.FlowEntryIsLocked : Prop :=
  (∀ (tx : Bool) (n : Fin 256) (p : Fin 4) (k : Fin 11) (w : BitVec 32) (s : State), s.portOpen p = true → s.InTurn p → s.host.guard = [] → s.NoAbort →
      s.host.held = [] → s.on .flowptp = true → s.flowUsed tx n = true →
      Gives (.registerWrite p (BitVec.ofNat 24 (flowBase tx n + 4 * k)) .word false w) s (fun t =>
        t.rd (flowBase tx n + 4 * k) = s.rd (flowBase tx n + 4 * k) ∧ t.flag (flowEvent (if tx then 13 else 6)) = true))
  ∧ (∀ (tx : Bool) (n : Fin 256) (p : Fin 4) (w : BitVec 32) (s : State), s.portOpen p = true → s.InTurn p → s.host.guard = [] → s.NoAbort →
      s.host.held = [] → s.on .flowptp = true → s.flowUsed tx n = true →
      Gives (.registerWrite p (BitVec.ofNat 24 (flowBase tx n + 0x30)) .word false w) s (fun t => t.rd (flowBase tx n + 0x30) = w)
      ∧ Gives (.registerWrite p (BitVec.ofNat 24 (flowBase tx n + 0x34)) .word false w) s (fun t => t.rd (flowBase tx n + 0x34) = w))
  ∧ (∀ (tx : Bool) (n : Fin 256) (p : Fin 4) (w : BitVec 32) (s : State), s.portOpen p = true → s.InTurn p → s.host.guard = [] → s.NoAbort →
      s.host.held = [] → s.on .flowptp = true → s.flowUsed tx n = true → w.toNat % 4 = 0 → w.toNat.testBit 4 = false →
      Gives (.registerWrite p (BitVec.ofNat 24 (flowBase tx n + 0x2C)) .word false w) s (fun t =>
        t.rd (flowBase tx n + 0x2C) = w &&& 0xC))

/-! ## The route fabric (chapter 7) -/

/-- Commits (R188, R197): GO captures its inputs for the next boundary, GO or REVERT while one waits is refused with 1, two commands at
once with 2; REVERT puts the active table into the shadow, CANCEL drops a timed commit; nothing acts before its index.
The clauses in which nothing happens where the moment of a row has not come are the model's choice (log entry 7).
Where the spec leaves a detail open, its clauses rest on log entries 155, 157, the model's reading. -/
def Obligations.CommitsAct : Prop :=
  (∀ (w : BitVec 32) (s : State), s.NoAbort → s.on .flowptp = true → s.flag R.ROUTE_COMMIT_STATUS_BUSY = true →
      w.toNat.testBit 1 = false → w.toNat.testBit 3 = false →
      Gives (.routeCommitGo w) s (fun t => t.get R.ROUTE_COMMIT_STATUS_RESULT = 1 ∧ t.route = s.route))
  ∧ (∀ (w : BitVec 32) (s : State), s.NoAbort → s.on .flowptp = true → w.toNat.testBit 1 = true →
      Gives (.routeCommitGo w) s (fun t => t.get R.ROUTE_COMMIT_STATUS_RESULT = 2 ∧ t.route = s.route))
  ∧ (∀ (w : BitVec 32) (s : State), s.NoAbort → s.on .flowptp = true → s.flag R.ROUTE_COMMIT_STATUS_BUSY = false →
      w.toNat.testBit 1 = false → w.toNat.testBit 3 = false → w.toNat.testBit 2 = false →
      Gives (.routeCommitGo w) s (fun t => t.flag R.ROUTE_COMMIT_STATUS_BUSY = true ∧ t.flag R.ROUTE_COMMIT_STATUS_LATE = s.flag R.ROUTE_COMMIT_STATUS_LATE
        ∧ t.route.commit.map (fun c => c.at_) = some s.cmdBoundary ∧ t.route.commit.map (fun c => c.cfg) = some (s.rd R.ROUTE_CFG)
        ∧ t.route.commit.map (fun c => c.swap) = some (bitsOf w.toNat 31 16)
        ∧ t.route.commit.map (fun c => c.shadow) = some (s.listed (R.ROUTE_SHADOW 0) (R.ROUTE_SHADOW 4096)) ∧ t.rd (R.ROUTE_SINK 4095) = s.rd (R.ROUTE_SINK 4095)))
  ∧ (∀ (w : BitVec 32) (s : State), s.NoAbort → s.on .flowptp = true → s.flag R.ROUTE_COMMIT_STATUS_BUSY = false →
      w.toNat.testBit 0 = false → w.toNat.testBit 3 = false → s.StoreOk →
      Gives (.routeRevert w) s (fun t => t.get R.ROUTE_COMMIT_STATUS_RESULT = 0
        ∧ (∀ n : Fin 4096, t.rd (R.ROUTE_SHADOW n) = s.rd (R.ROUTE_SINK n)) ∧ (∀ n : Fin 8, t.rd (R.ROUTE_DP_CFG n) = s.rd (R.ROUTE_DP_ACT n))))
  ∧ (∀ (w : BitVec 32) (c : Commit) (s : State), s.NoAbort → s.on .flowptp = true → w.toNat.testBit 0 = false →
      w.toNat.testBit 1 = false → s.route.commit = some c → c.timed = true →
      Gives (.routeCancel w) s (fun t => t.route = { s.route with commit := none } ∧ t.flag R.ROUTE_COMMIT_STATUS_BUSY = false
        ∧ t.get R.ROUTE_COMMIT_STATUS_RESULT = 3))
  ∧ (∀ (w : BitVec 32) (c : Commit) (s : State), s.NoAbort → s.on .flowptp = true → w.toNat.testBit 0 = false →
      w.toNat.testBit 1 = false → s.route.commit = some c → c.timed = false →
      Gives (.routeCancel w) s (fun t => t.route = s.route))
  ∧ (∀ (s : State), s.time.begun = true → s.route.commit = none → Yields .routeCommitApply s s)
  ∧ (∀ (s : State), s.on .clk = true → s.atBoundary = true → s.time.begun = false → Yields .routeCommitApply s s.frame)
  ∧ (∀ (c : Commit) (s : State), s.time.begun = true → s.route.commit = some c → s.time.index < c.at_ → Yields .routeCommitApply s s)
  ∧ (∀ (c : Commit) (s : State), s.route.commit = some c → c.at_ ≤ s.time.index → s.on .flowptp = true → s.atBoundary = true → s.time.begun = true →
      c.swap = 0 → s.listed (R.ROUTE_SINK 0) (R.ROUTE_SINK 4096) = [] → c.shadow = [] →
      Gives .routeCommitApply s (fun t => t.route = { s.route with commit := none, dpMoves := s.route.dpMoves ++ [(s.time.index + 8, c.cfg, c.dp)] }
        ∧ t.flag R.ROUTE_COMMIT_STATUS_BUSY = false ∧ t.get R.ROUTE_COMMIT_STATUS_RESULT = 0
        ∧ t.get R.ROUTE_COMMIT_STATUS_CHANGED = 0 ∧ t.flag R.ROUTE_EVENT_COMMIT_DONE = true))
  ∧ (∀ (c : Commit) (s : State), s.route.commit = some c → c.at_ ≤ s.time.index → s.on .flowptp = true → s.atBoundary = true → s.time.begun = true →
      c.swap = 0 →
      Gives .routeCommitApply s (fun t => t.route.commit = none ∧ t.route.dpMoves = s.route.dpMoves ++ [(s.time.index + 8, c.cfg, c.dp)]
        ∧ t.flag R.ROUTE_COMMIT_STATUS_BUSY = false ∧ t.get R.ROUTE_COMMIT_STATUS_RESULT = 0
        ∧ t.flag R.ROUTE_EVENT_COMMIT_DONE = true ∧ (∀ n : Fin 8, t.rd (R.ROUTE_DP_ACT n) = (c.dp[n.val]?).getD 0)))

/-- One entry of a commit (R189 to R191, R194, R195): an entry that is the same changes nothing; a source change crossfades from the old
source over XFADE_LEN, at once with XFADE_LEN 0, or waits while a crossfade runs, or cuts; a gain change ramps from the level reached, at
once with RAMP 0; a change of RAMP alone is stored and counts as none.
Where the spec leaves a detail open, its clauses rest on log entries 33, 154, 158, the model's reading. -/
def Obligations.EntriesBecomeActive : Prop :=
  (∀ (n : Fin 4096) (cfg : BitVec 32) (cut : Bool) (s : State), s.applyEntry n (s.rd (R.ROUTE_SINK n)) cfg cut = (false, s))
  ∧ (∀ (n : Fin 4096) (e cfg : BitVec 32) (s : State) (r : Bool × State), entrySrc e ≠ entrySrc (s.rd (R.ROUTE_SINK n)) → (s.sinkSt n).xf = none →
      cfgLen cfg ≠ 0 →
      r = s.applyEntry n e cfg false →
      r.1 = true ∧ r.2.rd (R.ROUTE_SINK n) = e ∧ (r.2.sinkSt n).src = entrySrc e
        ∧ (r.2.sinkSt n).xf = some { src0 := (s.sinkSt n).src, amp0 := (s.sinkSt n).ampNow, n := cfgLen cfg, lin := cfgLin cfg })
  ∧ (∀ (n : Fin 4096) (e cfg : BitVec 32) (x : XFade) (s : State) (r : Bool × State), entrySrc e ≠ entrySrc (s.rd (R.ROUTE_SINK n)) →
      (s.sinkSt n).xf = some x →
      r = s.applyEntry n e cfg false →
      r.1 = true ∧ r.2.rd (R.ROUTE_SINK n) = e ∧ (r.2.sinkSt n).src = (s.sinkSt n).src
        ∧ (r.2.sinkSt n).xf = some x ∧ (r.2.sinkSt n).defer = some cfg ∧ r.2.flag R.ROUTE_EVENT_DEFER = true)
  ∧ (∀ (n : Fin 4096) (e cfg : BitVec 32) (s : State) (r : Bool × State), entrySrc e ≠ entrySrc (s.rd (R.ROUTE_SINK n)) →
      r = s.applyEntry n e cfg true →
      r.1 = true ∧ (r.2.sinkSt n).src = entrySrc e ∧ (r.2.sinkSt n).xf = none
        ∧ (r.2.sinkSt n).ampNow = gainAmp (entryGain e))
  ∧ (∀ (n : Fin 4096) (e cfg : BitVec 32) (s : State) (r : Bool × State), entrySrc e = entrySrc (s.rd (R.ROUTE_SINK n)) →
      entryGain e ≠ entryGain (s.rd (R.ROUTE_SINK n)) →
      r = s.applyEntry n e cfg true →
      r.1 = true ∧ r.2.rd (R.ROUTE_SINK n) = e ∧ (r.2.sinkSt n).ampNow = gainAmp (entryGain e))
  ∧ (∀ (n : Fin 4096) (e cfg : BitVec 32) (len : Nat) (s : State) (r : Bool × State), entrySrc e = entrySrc (s.rd (R.ROUTE_SINK n)) →
      entryGain e ≠ entryGain (s.rd (R.ROUTE_SINK n)) → len = rampSamples s.rate (entryRamp e) (R.ROUTE_CFG_DEF_RAMP.ofWord cfg) → len ≠ 0 →
      r = s.applyEntry n e cfg false →
      r.1 = true ∧ r.2.rd (R.ROUTE_SINK n) = e ∧ (r.2.sinkSt n).src = (s.sinkSt n).src ∧ (r.2.sinkSt n).xf = (s.sinkSt n).xf
        ∧ (r.2.sinkSt n).amp = gainAmp (entryGain e)
        ∧ (r.2.sinkSt n).ramp = some { aS := (s.sinkSt n).ampNow, aT := gainAmp (entryGain e), n := len })
  ∧ (∀ (n : Fin 4096) (e cfg : BitVec 32) (s : State) (r : Bool × State), entrySrc e = entrySrc (s.rd (R.ROUTE_SINK n)) →
      entryGain e ≠ entryGain (s.rd (R.ROUTE_SINK n)) → rampSamples s.rate (entryRamp e) (R.ROUTE_CFG_DEF_RAMP.ofWord cfg) = 0 →
      r = s.applyEntry n e cfg false →
      r.1 = true ∧ r.2.rd (R.ROUTE_SINK n) = e ∧ (r.2.sinkSt n).ampNow = gainAmp (entryGain e) ∧ (r.2.sinkSt n).ramp = none
        ∧ (r.2.sinkSt n).xf = (s.sinkSt n).xf)
  ∧ (∀ (n : Fin 4096) (e cfg : BitVec 32) (cut : Bool) (s : State) (r : Bool × State), entrySrc e = entrySrc (s.rd (R.ROUTE_SINK n)) →
      entryGain e = entryGain (s.rd (R.ROUTE_SINK n)) → r = s.applyEntry n e cfg cut →
      r.1 = false ∧ r.2.rd (R.ROUTE_SINK n) = e ∧ r.2.sinkSt n = s.sinkSt n)
  ∧ (∀ (n : Fin 4096) (e cfg : BitVec 32) (s : State) (r : Bool × State), entrySrc e ≠ entrySrc (s.rd (R.ROUTE_SINK n)) →
      (s.sinkSt n).xf = none → cfgLen cfg = 0 → r = s.applyEntry n e cfg false →
      r.1 = true ∧ r.2.rd (R.ROUTE_SINK n) = e ∧ (r.2.sinkSt n).src = entrySrc e ∧ (r.2.sinkSt n).xf = none
        ∧ (r.2.sinkSt n).ampNow = gainAmp (entryGain e))

/-- Crossfade ends, mutes, the tone, the SRC channels and the direct paths (R190, R194, R199, R200, R203 to R206).
The clauses in which nothing happens where the moment of a row has not come are the model's choice (log entry 7).
Where the spec leaves a detail open, its clauses rest on log entries 154, 156, 157, 158, the model's reading. -/
def Obligations.RouteRowsAct : Prop :=
  (∀ (n : Fin 4096) (x : XFade) (s : State), (s.sinkSt n).xf = some x → x.n ≤ x.k → (s.sinkSt n).defer = none →
      Yields (.xfadeEnd n) s (s.setSink n { s.sinkSt n with xf := none }))
  ∧ (∀ (n : Fin 4096) (s : State), (s.sinkSt n).xf = none → Yields (.xfadeEnd n) s s)
  ∧ (∀ (n : Fin 4096) (x : XFade) (cfg : BitVec 32) (s : State), (s.sinkSt n).xf = some x → x.n ≤ x.k → (s.sinkSt n).defer = some cfg →
      entrySrc (s.rd (R.ROUTE_SINK n)) ≠ (s.sinkSt n).src → cfgLen cfg ≠ 0 →
      Gives (.xfadeEnd n) s (fun t => (t.sinkSt n).src = entrySrc (s.rd (R.ROUTE_SINK n)) ∧ (t.sinkSt n).defer = none
        ∧ (t.sinkSt n).xf = some { src0 := (s.sinkSt n).src, amp0 := (s.sinkSt n).ampNow, n := cfgLen cfg, lin := cfgLin cfg }))
  ∧ (∀ (n : Fin 4096) (s : State), s.NoAbort → s.on .flowptp = true →
      Gives (.muteSet n) s (fun t => t.route = { s.route with mutes := s.route.mutes ++ [(n.val, true, s.cmdBoundary)] } ∧ t.regs = s.regs))
  ∧ (∀ (n : Fin 4096) (s : State), s.NoAbort → s.on .flowptp = true →
      Gives (.muteClr n) s (fun t => t.route = { s.route with mutes := s.route.mutes ++ [(n.val, false, s.cmdBoundary)] } ∧ t.regs = s.regs))
  ∧ (∀ (w : BitVec 32) (s : State), s.NoAbort → s.on .flowptp = true →
      Gives (.toneWrite w) s (fun t => t.rd R.ROUTE_TONE = w &&& 0xFFFF7FFF ∧ t.route = s.route))
  ∧ (∀ (n : Fin 128) (ratio : BitVec 32) (s : State), s.on .flowptp = true → s.srcState n = 1 →
      Gives (.srcLock n ratio) s (fun t => t.srcState n = 2 ∧ t.rd (R.ROUTE_SRC_RATIO n) = ratio
        ∧ t.get (R.ROUTE_SRC_STATUS_ID n) = s.get (R.ROUTE_SRC_STATUS_ID n) ∧ t.flag R.ROUTE_EVENT_SRC_ACQ = true))
  ∧ (∀ (n : Fin 128) (ratio : BitVec 32) (s : State), s.on .flowptp = true → s.srcState n = 2 →
      Gives (.srcRateChange n ratio) s (fun t => t.srcState n = 1 ∧ t.rd (R.ROUTE_SRC_RATIO n) = ratio
        ∧ t.flag R.ROUTE_EVENT_SRC_ACQ = true))
  ∧ (∀ (at_ : Nat) (cfg : Word) (ws : List Word) (l : List (Nat × Word × List Word)) (s x : State), s.time.begun = true →
      s.route.dpMoves = (at_, cfg, ws) :: l → at_ ≤ s.time.index → x = { s with route := { s.route with dpMoves := l } } →
      Yields .directPathApply s (forN 8 (fun n s => s.dpTake cfg n ((ws[n]?).getD 0)) x))
  ∧ (∀ (s : State), s.time.begun = true → s.route.dpMoves = [] → Yields .directPathApply s s)

/-! ## The Spelt engine and DRAM (chapter 8) -/

/-- Lane commands (R226 to R231): START and SWAP queue the image for verification, STOP acts on every state, CANCEL_SWAP drops a
pending swap or is refused with 8; a verified image starts the lane or makes the swap pending, a bad one is refused by its
RESULT. Debug (R239, R241): HALT, RESUME and STEP, the registers of a halted lane, and fuse word 24 bit 1 that turns them off.
The clauses in which nothing happens where the moment of a row has not come are the model's choice (log entry 7).
Where the spec leaves a detail open, its clauses rest on log entries 160, 163, the model's reading. -/
def Obligations.LaneCommandsAct : Prop :=
  (∀ (n : Fin 16) (w : BitVec 32) (s : State), s.NoAbort → s.domOn (laneDom n) = true →
      Gives (.laneStart n w) s (fun t => (t.lane n).verify = (s.lane n).verify ++ [(false, (R.LANE_CTRL_START_BANK n).ofWord w)]
        ∧ t.rd (R.LANE_CTRL n) = w &&& 0xF38))
  ∧ (∀ (n : Fin 16) (w : BitVec 32) (s : State), s.NoAbort → s.domOn (laneDom n) = true →
      Gives (.laneSwap n w) s (fun t => (t.lane n).verify = (s.lane n).verify ++ [(true, 1 - s.activeBank n)]))
  ∧ (∀ (n : Fin 16) (w : BitVec 32) (s : State), s.NoAbort → s.domOn (laneDom n) = true → s.laneRuns n = true →
      Gives (.laneStop n w) s (fun t => (t.lane n).stopReq = true ∧ t.flag (R.LANE_STATUS_SWAP_PENDING n) = false
        ∧ t.get (R.LANE_STATUS_RESULT n) = 0 ∧ t.laneState n = s.laneState n))
  ∧ (∀ (n : Fin 16) (w : BitVec 32) (s : State), s.NoAbort → s.domOn (laneDom n) = true → s.laneState n = 4 →
      Gives (.laneStop n w) s (fun t => t.laneState n = 0 ∧ t.get (R.LANE_STATUS_RESULT n) = 0 ∧ t.flag (R.LANE_EVENT_STATE n) = true))
  ∧ (∀ (n : Fin 16) (w : BitVec 32) (s : State), s.NoAbort → s.domOn (laneDom n) = true → s.flag (R.LANE_STATUS_SWAP_PENDING n) = true →
      Gives (.laneCancelSwap n w) s (fun t => t.flag (R.LANE_STATUS_SWAP_PENDING n) = false ∧ t.get (R.LANE_STATUS_RESULT n) = 0
        ∧ t.lane n = { s.lane n with released := false }))
  ∧ (∀ (n : Fin 16) (w : BitVec 32) (s : State), s.NoAbort → s.domOn (laneDom n) = true → s.flag (R.LANE_STATUS_SWAP_PENDING n) = false →
      Gives (.laneCancelSwap n w) s (fun t => t.get (R.LANE_STATUS_RESULT n) = 8 ∧ t.flag (R.LANE_EVENT_REFUSED n) = true
        ∧ t.spelt = s.spelt))
  ∧ (∀ (n : Fin 16) (swap : Bool) (bank : Nat) (l : List (Bool × Nat)) (s : State), s.domOn (laneDom n) = true → s.twin.take = none →
      (s.lane n).verify = (swap, bank) :: l → bank = (if swap then 1 - s.activeBank n else bank) → s.imageResult n swap bank ≠ 0 →
      Gives (.laneVerifyDone n) s (fun t => (t.lane n).verify = l ∧ t.get (R.LANE_STATUS_RESULT n) = s.imageResult n swap bank
        ∧ t.flag (R.LANE_EVENT_REFUSED n) = true ∧ t.laneState n = s.laneState n))
  ∧ (∀ (n : Fin 16) (bank : Nat) (l : List (Bool × Nat)) (s : State), s.domOn (laneDom n) = true → s.twin.take = none →
      (s.lane n).verify = (false, bank) :: l → s.imageResult n false bank = 0 → bank < 2 →
      Gives (.laneVerifyDone n) s (fun t => (t.lane n).verify = l ∧ t.get (R.LANE_STATUS_RESULT n) = 0 ∧ t.laneState n = 1
        ∧ t.activeBank n = bank ∧ t.get64 (R.LANE_RUNS_LO n) (R.LANE_RUNS_HI n) = 0 ∧ (t.lane n).overs = 0))
  ∧ (∀ (n : Fin 16) (s : State), (s.lane n).verify = [] → s.twin.take = none → Yields (.laneVerifyDone n) s s)
  ∧ (∀ (n : Fin 16) (w : BitVec 32) (s : State), s.NoAbort → s.domOn (laneDom n) = true → s.dbgOff = false → s.laneState n = 2 →
      Gives (.laneHalt n w) s (fun t => t.laneState n = 3 ∧ t.flag (R.LANE_DBG_STATUS_HALTED n) = true ∧ t.get (R.LANE_DBG_STATUS_CAUSE n) = 0
        ∧ t.get (R.LANE_DBG_STATUS_BANK n) = s.activeBank n ∧ t.get (R.LANE_DBG_STATUS_PC n) = (s.lane n).pc % 4096
        ∧ t.flag (R.LANE_EVENT_HALTED n) = true ∧ t.spelt = s.spelt))
  ∧ (∀ (n : Fin 16) (w : BitVec 32) (s : State), s.NoAbort → s.domOn (laneDom n) = true → s.dbgOff = false → s.laneState n = 3 →
      w.toNat.testBit 2 = false →
      Gives (.laneResume n w) s (fun t => t.laneState n = 2 ∧ t.flag (R.LANE_DBG_STATUS_HALTED n) = false
        ∧ t.lane n = { s.lane n with pastBp := true, stepping := false }))
  ∧ (∀ (n : Fin 16) (w : BitVec 32) (s : State), s.NoAbort → s.domOn (laneDom n) = true → s.dbgOff = false → s.laneState n = 3 →
      w.toNat.testBit 0 = false → w.toNat.testBit 1 = false → (s.lane n).active = false →
      Gives (.laneStep n w) s (fun t => t.laneState n = 2 ∧ t.lane n = { s.lane n with pastBp := true, stepping := true }))
  ∧ (∀ (n : Fin 16) (w : BitVec 32) (s x : State), s.NoAbort → s.domOn (laneDom n) = true → s.dbgOff = false → s.laneState n = 3 →
      w.toNat.testBit 0 = false → w.toNat.testBit 1 = false →
      x = s.wr (R.LANE_DBG_CTRL n) ((R.LANE_DBG_CTRL_STEP n).inWord w 1 &&& 8) →
      Yields (.laneStep n w) s
        ((((x.setLane n { x.lane n with pastBp := true, stepping := true }).setLaneState n 2).laneStep1 n).markDirty (R.LANE_DBG_CTRL n)))
  ∧ (∀ (n : Fin 16) (l : List (Bool × Nat)) (b : Nat) (s : State), s.domOn (laneDom n) = true → s.twin.take = none →
      (s.lane n).verify = (true, b) :: l → s.imageResult n true (1 - s.activeBank n) = 0 →
      Gives (.laneVerifyDone n) s (fun t => (t.lane n).verify = l ∧ t.get (R.LANE_STATUS_RESULT n) = 0
        ∧ t.flag (R.LANE_STATUS_SWAP_PENDING n) = true ∧ t.activeBank n = s.activeBank n ∧ t.laneState n = s.laneState n))
  ∧ (∀ (n : Fin 16) (k : Fin 256) (w : BitVec 32) (s : State), s.NoAbort → s.domOn (laneDom n) = true → s.dbgOff = false →
      s.laneState n = 3 →
      Gives (.laneRegsWrite n (BitVec.ofNat 11 (4 * k)) w) s (fun t => t.lane n = { s.lane n with v := upd (s.lane n).v k w }
        ∧ t.regs = s.regs))
  ∧ (∀ (n : Fin 16) (k : Fin 32) (w : BitVec 32) (s : State), s.NoAbort → s.domOn (laneDom n) = true → s.dbgOff = false →
      s.laneState n = 3 →
      Gives (.laneRegsWrite n (BitVec.ofNat 11 (0x400 + 4 * k)) w) s (fun t => t.lane n = (s.lane n).setSc k w))
  ∧ (∀ (n : Fin 16) (w : BitVec 32) (s : State), s.NoAbort → s.domOn (laneDom n) = true → s.dbgOff = false → s.laneState n = 3 →
      Gives (.laneRegsWrite n 0x4D0 w) s (fun t => t.lane n = { s.lane n with pc := w.toNat % 4096, loops := [] }
        ∧ t.get (R.LANE_DBG_STATUS_PC n) = w.toNat % 4096))
  ∧ (∀ (n : Fin 16) (off : BitVec 11) (w : BitVec 32) (s : State), s.NoAbort → s.laneState n ≠ 3 →
      Gives (.laneRegsWrite n off w) s (fun t => t.spelt = s.spelt ∧ t.regs = s.regs))
  ∧ (∀ (n : Fin 16) (w : BitVec 32) (s : State), s.NoAbort → s.dbgOff = true →
      Gives (.laneHalt n w) s (fun t => t.spelt = s.spelt ∧ t.regs = s.regs))

/-- Crosspoints and DRAM queues (R221, R222, R233 to R235, R237): a crosspoint's word is stored and waits for a run; a queue is refused by
its RESULT or starts and reserves 5 bursts for a line; clearing EN stops it; tap words are stored; a pop's data ends a stall.
The clauses in which nothing happens where the moment of a row has not come are the model's choice (log entry 7).
Where the spec leaves a detail open, its clauses rest on log entries 161, 168, 169, the model's reading. -/
def Obligations.CrosspointsAndQueuesAct : Prop :=
  (∀ (e : Fin 16384) (w : BitVec 32) (s : State), s.NoAbort → s.on .flowptp = true →
      (s.time.index % 8 ≠ 0 ∨ s.time.begun = true) →
      Gives (.crosspointWrite e w) s (fun t => t.rd (R.SPELT_XP e) = w &&& 0xFFFFF
        ∧ t.xpoint e = { s.xpoint e with wait := some (w &&& 0xFFFFF), soon := none }))
  ∧ (∀ (e : Fin 16384) (w : BitVec 32) (s : State), s.NoAbort → s.on .flowptp = true → s.time.index % 8 = 0 → s.time.begun = false →
      Gives (.crosspointWrite e w) s (fun t => t.rd (R.SPELT_XP e) = w &&& 0xFFFFF
        ∧ t.xpoint e = { s.xpoint e with soon := some (s.time.index, w &&& 0xFFFFF) }))
  ∧ (∀ (q : Fin 32) (w : BitVec 32) (s y : State), s.NoAbort → s.domOn (laneDom (q / 2)) = true → s.get (R.DQ_STATUS_STATE q) = 0 →
      s.get (R.DQ_CFG_EN q) = 0 → y = s.wr (R.DQ_CFG q) (w &&& 0x7F) → y.dqResult q = 0 → s.on .memc = true →
      Gives (.dqStart q w) s (fun t => t.get (R.DQ_STATUS_STATE q) = 1 ∧ t.get (R.DQ_STATUS_RESULT q) = 0
        ∧ t.get (R.DQ_STATUS_COST q) = 5 * (w.toNat % 128) ∧ t.flag (R.DQ_CFG_EN q) = true ∧ t.dq q = { wait := s.tooSoon }))
  ∧ (∀ (q : Fin 32) (w : BitVec 32) (s y : State), s.NoAbort → s.domOn (laneDom (q / 2)) = true → s.get (R.DQ_STATUS_STATE q) = 0 →
      s.get (R.DQ_CFG_EN q) = 0 → y = s.wr (R.DQ_CFG q) (w &&& 0x7F) → y.dqResult q ≠ 0 →
      Gives (.dqStart q w) s (fun t => t.get (R.DQ_STATUS_STATE q) = 0 ∧ t.get (R.DQ_STATUS_RESULT q) = y.dqResult q
        ∧ t.flag (R.LANE_EVENT_DQ_REFUSED (q / 2)) = true ∧ t.spelt = s.spelt))
  ∧ (∀ (q : Fin 32) (w : BitVec 32) (s : State), s.NoAbort → s.domOn (laneDom (q / 2)) = true → s.get (R.DQ_STATUS_STATE q) = 2 →
      Gives (.dqStop q w) s (fun t => t.get (R.DQ_CFG_EN q) = 0 ∧ t.dq q = { s.dq q with stopReq := true, wait := s.tooSoon }
        ∧ t.get (R.DQ_STATUS_STATE q) = 2))
  ∧ (∀ (q : Fin 32) (l : Fin 64) (w : BitVec 32) (s : State), s.NoAbort → s.domOn (laneDom (q / 2)) = true →
      Gives (.dqTapWrite q l w) s (fun t => t.rd (R.DQTAP q l) = w &&& 0xFFFFFF ∧ t.spelt = s.spelt))
  ∧ (∀ (n : Fin 16) (cycles : Nat) (i : Insn) (s : State), s.inRun n = true → (s.lane n).waiting = some i →
      s.get R.MEM_STATUS_STATE = 2 → (s.lane n).loops = [] →
      Gives (.dqPopDataArrive n cycles) s (fun t => (t.lane n).waiting = none ∧ (t.lane n).pc = (s.lane n).pc + 1
        ∧ (t.lane n).stalls = (s.lane n).stalls + cycles
        ∧ t.get (R.DQ_STALL_CNT_COUNT (bitsOf i.imm.toNat 4 0))
            = (s.get (R.DQ_STALL_CNT_COUNT (bitsOf i.imm.toNat 4 0)) + cycles) % 2 ^ 32
        ∧ (t.lane n).vec i.d = s.dqPop (bitsOf i.imm.toNat 4 0) (i.lineAt ((s.lane n).sc i.b))
        ∧ (t.dq (bitsOf i.imm.toNat 4 0)).late = false))
  ∧ (∀ (n : Fin 16) (cycles : Nat) (s : State), (s.lane n).waiting = none → Yields (.dqPopDataArrive n cycles) s s)

/-- The DRAM controller (R236, R238): EN trains it from OFF, a command while it trains is refused with 3, clearing EN while it is in use
is refused with 1; training ends READY or FAILED, retraining ends READY; bursts and late ones are counted.
Where the spec leaves a detail open, its clauses rest on log entry 175, the model's reading. -/
def Obligations.DramControllerActs : Prop :=
  (∀ (w : BitVec 32) (s : State), s.NoAbort → s.on .memc = true → s.get R.MEM_STATUS_STATE = 0 → s.get R.MEM_CTRL_EN = 0 →
      Gives (.memEnable w) s (fun t => t.get R.MEM_STATUS_STATE = 1 ∧ t.get R.MEM_CTRL_EN = 1 ∧ t.get R.MEM_STATUS_RESULT = 0
        ∧ t.get R.MEM_STATUS_Q_AVAIL = 0))
  ∧ (∀ (w : BitVec 32) (s : State), s.NoAbort → s.on .memc = true → s.get R.MEM_STATUS_STATE = 1 →
      Gives (.memEnable w) s (fun t => t.get R.MEM_STATUS_STATE = 1 ∧ t.get R.MEM_STATUS_RESULT = 3
        ∧ t.flag R.MEM_EVENT_REFUSED = true ∧ t.rd R.MEM_CTRL = s.rd R.MEM_CTRL))
  ∧ (∀ (w : BitVec 32) (s : State), s.NoAbort → s.on .memc = true → s.get R.MEM_STATUS_STATE = 2 → s.get R.MEM_CTRL_EN = 1 →
      s.dramInUse = true →
      Gives (.memDisable w) s (fun t => t.get R.MEM_STATUS_STATE = 2 ∧ t.get R.MEM_STATUS_RESULT = 1
        ∧ t.flag R.MEM_EVENT_REFUSED = true ∧ t.get R.MEM_CTRL_EN = 1))
  ∧ (∀ (w : BitVec 32) (s : State), s.NoAbort → s.on .memc = true → s.get R.MEM_STATUS_STATE = 2 → s.get R.MEM_CTRL_EN = 1 →
      s.dramInUse = false →
      Gives (.memDisable w) s (fun t => t.get R.MEM_STATUS_STATE = 0 ∧ t.get R.MEM_STATUS_RESULT = 0 ∧ t.get R.MEM_CTRL_EN = 0
        ∧ t.get R.MEM_STATUS_Q_AVAIL = 0))
  ∧ (∀ (w : BitVec 32) (s : State), s.NoAbort → s.on .memc = true → s.get R.MEM_STATUS_STATE = 2 → s.get R.MEM_CTRL_EN = 1 →
      w.toNat.testBit 0 = true →
      Gives (.memRetrain w) s (fun t => t.get R.MEM_STATUS_STATE = 3 ∧ t.get R.MEM_STATUS_RESULT = 0))
  ∧ (∀ (s : State), s.on .memc = true → s.get R.MEM_STATUS_STATE = 1 → s.twin.take = none →
      Gives .memTrainDone s (fun t => t.get R.MEM_STATUS_STATE = 2 ∧ t.flag R.MEM_EVENT_READY = true))
  ∧ (∀ (s : State), s.on .memc = true → s.get R.MEM_STATUS_STATE = 1 → s.twin.take = none →
      Gives .memTrainFail s (fun t => t.get R.MEM_STATUS_STATE = 4 ∧ t.get R.MEM_STATUS_RESULT = 2 ∧ t.flag R.MEM_EVENT_TRAIN_FAIL = true))
  ∧ (∀ (s : State), s.on .memc = true → s.get R.MEM_STATUS_STATE = 3 →
      Gives .memRetrainDone s (fun t => t.get R.MEM_STATUS_STATE = 2 ∧ t.flag R.MEM_EVENT_READY = true))
  ∧ (∀ (cls : Fin 4) (late : Bool) (s : State), s.on .memc = true → s.get R.MEM_STATUS_STATE = 2 →
      Gives (.dramBurstComplete cls late) s (fun t =>
        t.get64 R.MEM_BURSTS_LO R.MEM_BURSTS_HI = (s.get64 R.MEM_BURSTS_LO R.MEM_BURSTS_HI + 1) % 2 ^ 64
        ∧ t.get R.MEM_LATE_CNT_COUNT = (s.get R.MEM_LATE_CNT_COUNT + toBit (late && decide (cls < 2))) % 2 ^ 32))

/-! ## Spelt instructions (chapter 9) -/

/-- Moves and memory (R251, R257, Table 9.3): each of the lane's moves, loads, stores and slot transfers, where the lane can issue it and
the fields R245 requires to be zero are zero.
Where the spec leaves a detail open, its clauses rest on log entries 40, 165, 166, 172, the model's reading. -/
def Obligations.SpeltMovesAct : Prop :=
  (∀ (n : Fin 16) (f : InsnFields) (s : State),
      s.CanGoOn n → f = { imm := 0 } →
      Gives (.iNop n f) s (fun t => (t.lane n).pc = (s.lane n).pc + 1 ∧ (t.lane n).v = (s.lane n).v ∧ (t.lane n).s = (s.lane n).s
        ∧ (t.lane n).a = (s.lane n).a ∧ (t.lane n).flags = (s.lane n).flags))
  ∧ (∀ (n : Fin 16) (f : InsnFields) (s : State),
      s.CanIssue n → f.z = 0 → f.m = 0 → f.a = 0 → f.b.toNat < 16 →
      Gives (.iLdv n f) s (fun t => (t.lane n).vec f.d.toNat = (List.range 8).map (fun (k : Nat) => s.rd (dataAddr n (wordAt ((s.lane n).ad f.b.toNat)
          ((insnOf 1 f).disp + k))))
        ∧ (t.lane n).ad f.b.toNat = (if (insnOf 1 f).inc = 0 then (s.lane n).ad f.b.toNat else moved ((s.lane n).ad f.b.toNat) (insnOf 1 f).inc)
        ∧ (t.lane n).s = (s.lane n).s))
  ∧ (∀ (n : Fin 16) (f : InsnFields) (k : Fin 8) (s : State),
      s.CanIssue n → f.z = 0 → f.m = 0 → f.d = 0 → f.b.toNat < 16 → bitsOf ((s.lane n).ad f.b.toNat).toNat 31 16 = 0 →
      Gives (.iStv n f) s (fun t => t.rd (dataAddr n (wordAt ((s.lane n).ad f.b.toNat) ((insnOf 2 f).disp + k))) = look 0 (s.lane n).v (8 * f.a.toNat + k)
        ∧ (t.lane n).v = (s.lane n).v ∧ (t.lane n).s = (s.lane n).s))
  ∧ (∀ (n : Fin 16) (f : InsnFields) (a : Nat) (s : State),
      s.CanIssue n → f.z = 0 → f.m = 0 → f.d = 0 → f.b.toNat < 16 → 0x400000 ≤ a → a < 0x800000 →
      (∀ k : Fin 8, a ≠ dataAddr n (wordAt ((s.lane n).ad f.b.toNat) ((insnOf 2 f).disp + k))) →
      Gives (.iStv n f) s (fun t => t.rd a = s.rd a))
  ∧ (∀ (n : Fin 16) (f : InsnFields) (s : State),
      s.CanIssue n → f.z = 0 → f.m = 0 → f.a = 0 → f.b.toNat < 16 → (insnOf 3 f).inc = 0 →
      ScGives (.iLds n f) s n f.d.toNat (s.rd (dataAddr n (wordAt ((s.lane n).ad f.b.toNat) (insnOf 3 f).disp))))
  ∧ (∀ (n : Fin 16) (f : InsnFields) (s : State),
      s.CanIssue n → f.z = 0 → f.m = 0 → f.a = 0 → f.b.toNat < 16 →
      Gives (.iLds n f) s (fun t => (t.lane n).sc f.d.toNat = s.rd (dataAddr n (wordAt ((s.lane n).ad f.b.toNat) (insnOf 3 f).disp))
        ∧ (t.lane n).ad f.b.toNat = (if (insnOf 3 f).inc = 0 then (s.lane n).ad f.b.toNat else moved ((s.lane n).ad f.b.toNat) (insnOf 3 f).inc)
        ∧ (t.lane n).v = (s.lane n).v))
  ∧ (∀ (n : Fin 16) (f : InsnFields) (a : Nat) (s : State),
      s.CanIssue n → f.z = 0 → f.m = 0 → f.d = 0 → f.b.toNat < 16 → 0x400000 ≤ a → a < 0x800000 →
      Gives (.iSts n f) s (fun t => t.rd a = if a = dataAddr n (wordAt ((s.lane n).ad f.b.toNat) (insnOf 4 f).disp) then (s.lane n).sc f.a.toNat else s.rd a))
  ∧ (∀ (n : Fin 16) (f : InsnFields) (s : State),
      s.CanIssue n → f.z = 0 → f.m = 0 → f.b.toNat < 16 → (insnOf 5 f).inc = 0 →
      VecGives (.iLdvx n f) s n f.d.toNat ((List.range 8).map (fun (k : Nat) =>
        s.rd (dataAddr n (wordAt ((s.lane n).ad f.b.toNat) ((insnOf 5 f).disp + ((s.lane n).sc f.a.toNat).toInt + k))))))
  ∧ (∀ (n : Fin 16) (f : InsnFields) (s : State),
      s.CanIssue n → f.z = 0 → f.m = 0 → f.b.toNat < 16 →
      Gives (.iLdvx n f) s (fun t => (t.lane n).vec f.d.toNat = (List.range 8).map (fun (k : Nat) =>
          s.rd (dataAddr n (wordAt ((s.lane n).ad f.b.toNat) ((insnOf 5 f).disp + ((s.lane n).sc f.a.toNat).toInt + k))))
        ∧ (t.lane n).ad f.b.toNat = (if (insnOf 5 f).inc = 0 then (s.lane n).ad f.b.toNat else moved ((s.lane n).ad f.b.toNat) (insnOf 5 f).inc)
        ∧ (t.lane n).s = (s.lane n).s))
  ∧ (∀ (n : Fin 16) (f : InsnFields) (xs : List F32) (s : State),
      s.CanIssue n → f.z = 0 → f.b = 0 → f.m &&& 14 = 0 → f.imm.toNat < 128 → look [] (s.lane n).ins ((insnOf 6 f).slotAt ((s.lane n).sc f.a.toNat)) = xs →
      VecGives (.iIns n f) s n f.d.toNat ((List.range 8).map (fun j => (xs[j]?).getD 0)))
  ∧ (∀ (n : Fin 16) (f : InsnFields) (s : State),
      s.CanGoOn n → f.z = 0 → f.d = 0 → f.m = 0 → f.imm.toNat < 128 → f.imm.toNat ∈ s.outMap n (s.activeBank n) →
      Gives (.iOuts n f) s (fun t => look [] (t.lane n).outs f.imm.toNat = (s.lane n).vec f.a.toNat))
  ∧ (∀ (n : Fin 16) (f : InsnFields) (s : State),
      s.CanIssue n → f.z = 0 → f.d = 0 → f.m = 0 → f.imm.toNat < 128 → f.imm.toNat ∉ s.outMap n (s.activeBank n) → s.CanGoOn n →
      Gives (.iOuts n f) s (fun t => (t.lane n).outs = (s.lane n).outs))
  ∧ (∀ (n : Fin 16) (f : InsnFields) (s : State),
      s.CanIssue n → f.z = 0 → f.m = 0 → f.a = 0 → f.b = 0 → f.d.toNat < 16 →
      AdGives (.iMova n f) s n f.d.toNat f.imm)
  ∧ (∀ (n : Fin 16) (f : InsnFields) (s : State),
      s.CanIssue n → f.z = 0 → f.m &&& 14 = 0 → f.a.toNat < 16 → f.d.toNat < 16 → (insnOf 9 f).inc = 0 →
      AdGives (.iAdda n f) s n f.d.toNat (moved ((s.lane n).ad f.a.toNat) ((insnOf 9 f).disp + (if f.m = 1 then ((s.lane n).sc f.b.toNat).toInt else 0))))
  ∧ (∀ (n : Fin 16) (f : InsnFields) (s : State),
      s.CanIssue n → f.z = 0 → f.m = 0 → f.imm = 0 → f.b = 0 → f.a.toNat < 16 →
      ScGives (.iMovas n f) s n f.d.toNat ((s.lane n).ad f.a.toNat))
  ∧ (∀ (n : Fin 16) (f : InsnFields) (s : State),
      s.CanIssue n → f.z = 0 → f.m = 0 → f.imm = 0 → f.b = 0 → f.d.toNat < 16 →
      AdGives (.iMovsa n f) s n f.d.toNat ((s.lane n).sc f.a.toNat))
  ∧ (∀ (n : Fin 16) (f : InsnFields) (s : State),
      s.CanIssue n → f.z = 0 → f.m = 0 → f.a = 0 → f.b = 0 →
      ScGives (.iMovs n f) s n f.d.toNat f.imm)
  ∧ (∀ (n : Fin 16) (f : InsnFields) (s : State),
      s.CanIssue n → f.z = 0 → f.m = 0 → f.imm = 0 → f.a = 0 → f.b = 0 →
      ScGives (.iMovfs n f) s n f.d.toNat (s.lane n).flags)
  ∧ (∀ (n : Fin 16) (f : InsnFields) (s : State),
      s.CanIssue n → f.z = 0 → f.m = 0 → f.d = 0 → f.a = 0 → f.b = 0 →
      Gives (.iClrf n f) s (fun t => (t.lane n).flags = (s.lane n).flags &&& ~~~(f.imm &&& 0x1F00) ∧ (t.lane n).s = (s.lane n).s))
  ∧ (∀ (n : Fin 16) (f : InsnFields) (s : State),
      s.CanIssue n → f.z = 0 → f.m = 0 → f.imm = 0 → f.b = 0 → f.a.toNat < 4 →
      ScGives (.iMovls n f) s n f.d.toNat (BitVec.ofNat 32 (look 0 (s.lane n).lc f.a.toNat)))

/-- Vector instructions (R252, R253, R255): the destination takes the operation's results, element by element or over the tree, and the
lane's other registers stay; MOV, BCST, EXT and INS copy bits.
Where the spec leaves a detail open, its clauses rest on log entry 40, the model's reading. -/
def Obligations.SpeltVectorsAct : Prop :=
  (∀ (n : Fin 16) (f : InsnFields) (s : State),
      s.CanIssue n → f.z = 0 → f.m = 0 → f.imm = 0 →
      VecGives (.iVadd n f) s n f.d.toNat ((zip2 fadd ((s.lane n).vec f.a.toNat) ((s.lane n).vec f.b.toNat)).map (fun r => r.v)))
  ∧ (∀ (n : Fin 16) (f : InsnFields) (s : State),
      s.CanIssue n → f.z = 0 → f.m = 0 → f.imm = 0 →
      VecGives (.iVsub n f) s n f.d.toNat ((zip2 fsub ((s.lane n).vec f.a.toNat) ((s.lane n).vec f.b.toNat)).map (fun r => r.v)))
  ∧ (∀ (n : Fin 16) (f : InsnFields) (s : State),
      s.CanIssue n → f.z = 0 → f.m = 0 → f.imm = 0 →
      VecGives (.iVmul n f) s n f.d.toNat ((zip2 fmul ((s.lane n).vec f.a.toNat) ((s.lane n).vec f.b.toNat)).map (fun r => r.v)))
  ∧ (∀ (n : Fin 16) (f : InsnFields) (s : State),
      s.CanIssue n → f.z = 0 → f.m = 0 → f.imm = 0 →
      VecGives (.iVmax n f) s n f.d.toNat ((zip2 fmax ((s.lane n).vec f.a.toNat) ((s.lane n).vec f.b.toNat)).map (fun r => r.v)))
  ∧ (∀ (n : Fin 16) (f : InsnFields) (s : State),
      s.CanIssue n → f.z = 0 → f.m = 0 → f.imm = 0 →
      VecGives (.iVmin n f) s n f.d.toNat ((zip2 fmin ((s.lane n).vec f.a.toNat) ((s.lane n).vec f.b.toNat)).map (fun r => r.v)))
  ∧ (∀ (n : Fin 16) (f : InsnFields) (s : State),
      s.CanIssue n → f.z = 0 → f.m = 0 → f.imm = 0 →
      VecGives (.iVmac n f) s n f.d.toNat (((((s.lane n).vec f.a.toNat).zip ((s.lane n).vec f.b.toNat)).zip ((s.lane n).vec f.d.toNat)).map (fun p => (ffma p.1.1 p.1.2 p.2).v)))
  ∧ (∀ (n : Fin 16) (f : InsnFields) (s : State),
      s.CanIssue n → f.z = 0 → f.m = 0 → f.imm = 0 →
      VecGives (.iVmuls n f) s n f.d.toNat (((s.lane n).vec f.a.toNat).map (fun x => (fmul x ((s.lane n).sc f.b.toNat)).v)))
  ∧ (∀ (n : Fin 16) (f : InsnFields) (s : State),
      s.CanIssue n → f.z = 0 → f.m = 0 → f.imm = 0 →
      VecGives (.iVclip n f) s n f.d.toNat (((s.lane n).vec f.a.toNat).map (fun x => (fclip x ((s.lane n).sc f.b.toNat)).v)))
  ∧ (∀ (n : Fin 16) (f : InsnFields) (s : State),
      s.CanIssue n → f.z = 0 → f.m = 0 → f.imm = 0 →
      VecGives (.iVmacs n f) s n f.d.toNat ((zip2 (fun x c => ffma x ((s.lane n).sc f.b.toNat) c) ((s.lane n).vec f.a.toNat) ((s.lane n).vec f.d.toNat)).map (fun r => r.v)))
  ∧ (∀ (n : Fin 16) (f : InsnFields) (s : State),
      s.CanIssue n → f.z = 0 → f.m = 0 → f.imm = 0 → f.b = 0 →
      VecGives (.iVabs n f) s n f.d.toNat (((s.lane n).vec f.a.toNat).map (fun x => (fabs x).v)))
  ∧ (∀ (n : Fin 16) (f : InsnFields) (s : State),
      s.CanIssue n → f.z = 0 → f.m = 0 → f.imm = 0 → f.b = 0 →
      VecGives (.iVlog2 n f) s n f.d.toNat (((s.lane n).vec f.a.toNat).map (fun x => (flog2 x).v)))
  ∧ (∀ (n : Fin 16) (f : InsnFields) (s : State),
      s.CanIssue n → f.z = 0 → f.m = 0 → f.imm = 0 → f.b = 0 →
      VecGives (.iVexp2 n f) s n f.d.toNat (((s.lane n).vec f.a.toNat).map (fun x => (fexp2 x).v)))
  ∧ (∀ (n : Fin 16) (f : InsnFields) (s : State),
      s.CanIssue n → f.z = 0 → f.m = 0 → f.imm = 0 → f.b = 0 →
      VecGives (.iVmov n f) s n f.d.toNat ((s.lane n).vec f.a.toNat))
  ∧ (∀ (n : Fin 16) (f : InsnFields) (s : State),
      s.CanIssue n → f.z = 0 → f.m = 0 → f.imm = 0 → f.b = 0 →
      VecGives (.iVbcst n f) s n f.d.toNat (List.replicate 8 ((s.lane n).sc f.a.toNat)))
  ∧ (∀ (n : Fin 16) (f : InsnFields) (k : Fin 8) (s : State),
      s.CanIssue n → f.z = 0 → f.m = 0 → f.b = 0 → f.imm = BitVec.ofNat 32 k →
      ScGives (.iVext n f) s n f.d.toNat (look 0 (s.lane n).v (8 * f.a.toNat + k)))
  ∧ (∀ (n : Fin 16) (f : InsnFields) (k j : Fin 8) (s : State),
      s.CanIssue n → f.z = 0 → f.m = 0 → f.b = 0 → f.imm = BitVec.ofNat 32 k →
      Gives (.iVins n f) s (fun t =>
        look 0 (t.lane n).v (8 * f.d.toNat + j) = if j = k then (s.lane n).sc f.a.toNat else look 0 (s.lane n).v (8 * f.d.toNat + j)))
  ∧ (∀ (n : Fin 16) (f : InsnFields) (s : State),
      s.CanIssue n → f.z = 0 → f.b = 0 → f.imm = 0 → f.m &&& 14 = 0 →
      ScGives (.iVsum n f) s n f.d.toNat (treeSum (fun j => if f.m = 1 then fmul (look 0 (s.lane n).v (8 * f.a.toNat + j)) (look 0 (s.lane n).v (8 * f.a.toNat + j))
        else { v := look 0 (s.lane n).v (8 * f.a.toNat + j) })).v)
  ∧ (∀ (n : Fin 16) (f : InsnFields) (s : State),
      s.CanIssue n → f.z = 0 → f.m = 0 → f.imm = 0 → f.b = 0 →
      ScGives (.iVpeak n f) s n f.d.toNat ((((s.lane n).vec f.a.toNat).map fabs).foldl (fun m x => ((fmax m.v x.v).after m).after x) { v := 0 }).v)

/-- Scalar instructions (R252 to R254, R256): arithmetic, integer operations with IMM under M[0], shifts, comparisons and conversions.
Where the spec leaves a detail open, its clauses rest on log entry 40, the model's reading. -/
def Obligations.SpeltScalarsAct : Prop :=
  (∀ (n : Fin 16) (f : InsnFields) (s : State),
      s.CanIssue n → f.z = 0 → f.m = 0 → f.imm = 0 →
      ScGives (.iSadd n f) s n f.d.toNat (fadd ((s.lane n).sc f.a.toNat) ((s.lane n).sc f.b.toNat)).v)
  ∧ (∀ (n : Fin 16) (f : InsnFields) (s : State),
      s.CanIssue n → f.z = 0 → f.m = 0 → f.imm = 0 →
      ScGives (.iSsub n f) s n f.d.toNat (fsub ((s.lane n).sc f.a.toNat) ((s.lane n).sc f.b.toNat)).v)
  ∧ (∀ (n : Fin 16) (f : InsnFields) (s : State),
      s.CanIssue n → f.z = 0 → f.m = 0 → f.imm = 0 →
      ScGives (.iSmul n f) s n f.d.toNat (fmul ((s.lane n).sc f.a.toNat) ((s.lane n).sc f.b.toNat)).v)
  ∧ (∀ (n : Fin 16) (f : InsnFields) (s : State),
      s.CanIssue n → f.z = 0 → f.m = 0 → f.imm = 0 →
      ScGives (.iSmax n f) s n f.d.toNat (fmax ((s.lane n).sc f.a.toNat) ((s.lane n).sc f.b.toNat)).v)
  ∧ (∀ (n : Fin 16) (f : InsnFields) (s : State),
      s.CanIssue n → f.z = 0 → f.m = 0 → f.imm = 0 →
      ScGives (.iSmin n f) s n f.d.toNat (fmin ((s.lane n).sc f.a.toNat) ((s.lane n).sc f.b.toNat)).v)
  ∧ (∀ (n : Fin 16) (f : InsnFields) (s : State),
      s.CanIssue n → f.z = 0 → f.m = 0 → f.imm = 0 →
      ScGives (.iSmac n f) s n f.d.toNat (ffma ((s.lane n).sc f.a.toNat) ((s.lane n).sc f.b.toNat) ((s.lane n).sc f.d.toNat)).v)
  ∧ (∀ (n : Fin 16) (f : InsnFields) (s : State),
      s.CanIssue n → f.z = 0 → f.m &&& 14 = 0 →
      ScGives (.iSiadd n f) s n f.d.toNat ((s.lane n).sc f.a.toNat + (if f.m = 1 then f.imm else (s.lane n).sc f.b.toNat)))
  ∧ (∀ (n : Fin 16) (f : InsnFields) (s : State),
      s.CanIssue n → f.z = 0 → f.m &&& 14 = 0 →
      ScGives (.iSand n f) s n f.d.toNat ((s.lane n).sc f.a.toNat &&& (if f.m = 1 then f.imm else (s.lane n).sc f.b.toNat)))
  ∧ (∀ (n : Fin 16) (f : InsnFields) (s : State),
      s.CanIssue n → f.z = 0 → f.m &&& 14 = 0 →
      ScGives (.iSor n f) s n f.d.toNat ((s.lane n).sc f.a.toNat ||| (if f.m = 1 then f.imm else (s.lane n).sc f.b.toNat)))
  ∧ (∀ (n : Fin 16) (f : InsnFields) (s : State),
      s.CanIssue n → f.z = 0 → f.m &&& 14 = 0 →
      ScGives (.iSxor n f) s n f.d.toNat ((s.lane n).sc f.a.toNat ^^^ (if f.m = 1 then f.imm else (s.lane n).sc f.b.toNat)))
  ∧ (∀ (n : Fin 16) (f : InsnFields) (s : State),
      s.CanIssue n → f.z = 0 → f.m = 0 → f.b = 0 → -31 ≤ f.imm.toInt → f.imm.toInt ≤ 31 →
      ScGives (.iSshf n f) s n f.d.toNat (if 0 ≤ f.imm.toInt then (s.lane n).sc f.a.toNat <<< f.imm.toInt.toNat else ((s.lane n).sc f.a.toNat).sshiftRight f.imm.toInt.natAbs))
  ∧ (∀ (n : Fin 16) (f : InsnFields) (s : State),
      s.CanIssue n → f.z = 0 → f.m = 0 → f.imm = 0 → f.d = 0 → isNaN32 ((s.lane n).sc f.a.toNat) = false → isNaN32 ((s.lane n).sc f.b.toNat) = false →
      Gives (.iScmp n f) s (fun t => (t.lane n).flag 0 = (!flt ((s.lane n).sc f.a.toNat) ((s.lane n).sc f.b.toNat) && !flt ((s.lane n).sc f.b.toNat) ((s.lane n).sc f.a.toNat)) ∧ (t.lane n).flag 1 = flt ((s.lane n).sc f.a.toNat) ((s.lane n).sc f.b.toNat) ∧ (t.lane n).flag 8 = (s.lane n).flag 8
        ∧ (t.lane n).s = (s.lane n).s))
  ∧ (∀ (n : Fin 16) (f : InsnFields) (s : State),
      s.CanIssue n → f.z = 0 → f.m = 0 → f.imm = 0 → f.d = 0 → isNaN32 ((s.lane n).sc f.a.toNat) = true →
      Gives (.iScmp n f) s (fun t => (t.lane n).flag 0 = false ∧ (t.lane n).flag 1 = false ∧ (t.lane n).flag 8 = true
        ∧ (t.lane n).s = (s.lane n).s))
  ∧ (∀ (n : Fin 16) (f : InsnFields) (s : State),
      s.CanIssue n → f.z = 0 → f.m = 0 → f.imm = 0 → f.d = 0 →
      Gives (.iSicmp n f) s (fun t => (t.lane n).flag 0 = ((s.lane n).sc f.a.toNat == (s.lane n).sc f.b.toNat) ∧ (t.lane n).flag 1 = decide (((s.lane n).sc f.a.toNat).toInt < ((s.lane n).sc f.b.toNat).toInt) ∧ (t.lane n).flag 8 = (s.lane n).flag 8
        ∧ (t.lane n).s = (s.lane n).s))
  ∧ (∀ (n : Fin 16) (f : InsnFields) (s : State),
      s.CanIssue n → f.z = 0 → f.m = 0 → f.imm = 0 → f.b = 0 →
      ScGives (.iScvtf n f) s n f.d.toNat (fofInt ((s.lane n).sc f.a.toNat).toInt))
  ∧ (∀ (n : Fin 16) (f : InsnFields) (s : State),
      s.CanIssue n → f.z = 0 → f.m = 0 → f.imm = 0 → f.b = 0 →
      ScGives (.iScvti n f) s n f.d.toNat (ftoInt ((s.lane n).sc f.a.toNat)).1)
  ∧ (∀ (n : Fin 16) (f : InsnFields) (s : State),
      s.CanIssue n → f.z = 0 → f.m = 0 → f.imm = 0 → f.b = 0 →
      ScGives (.iGwamp n f) s n f.d.toNat (gwamp (bitsOf ((s.lane n).sc f.a.toNat).toNat 15 0)))

/-- Mixing, biquads, envelopes, gain computers and ramps (R258 to R263): the results, the state words a block keeps, and the trap XP of a mix
beyond the lane's crosspoints.
Where the spec leaves a detail open, its clauses rest on log entries 40, 171, the model's reading. -/
def Obligations.SpeltKernelsAct : Prop :=
  (∀ (n : Fin 16) (f : InsnFields) (i : Insn) (s : State),
      s.CanIssue n → i = insnOf 0x30 f → opMix.fieldsOk i = true → i.xp + i.mixCount ≤ s.get (R.LANE_XP_XP_COUNT n) →
      VecGives (.iMix n f) s n f.d.toNat ((List.range 8).map (fun j =>
        (mixEl (fun k => (s.xpoint (s.get (R.LANE_XP_XP_BASE n) + i.xp + k)).amp j)
          (fun k => ((look [] (s.lane n).ins ((i.slot + k) % 128))[j]?).getD 0) i.mixCount
          { v := if f.m = 1 then 0 else look 0 (s.lane n).v (8 * f.d.toNat + j) }).v)))
  ∧ (∀ (n : Fin 16) (f : InsnFields) (i : Insn) (s : State),
      s.CanIssue n → i = insnOf 0x30 f → opMix.fieldsOk i = true → s.get (R.LANE_XP_XP_COUNT n) < i.xp + i.mixCount →
      Gives (.iMix n f) s (fun t => t.laneState n = 4 ∧ t.get (R.LANE_TRAP_CAUSE n) = 6 ∧ t.get (R.LANE_TRAP_PC n) = (s.lane n).pc % 4096
        ∧ t.flag (R.LANE_EVENT_TRAP n) = true ∧ (t.lane n).v = (s.lane n).v))
  ∧ (∀ (n : Fin 16) (f : InsnFields) (i : Insn) (s : State),
      s.CanIssue n → i = insnOf 0x31 f → opMixv.fieldsOk i = true → i.xp + i.mixCount ≤ s.get (R.LANE_XP_XP_COUNT n) →
      VecGives (.iMixv n f) s n f.d.toNat ((List.range 8).map (fun j =>
        (mixEl (fun k => (s.xpoint (s.get (R.LANE_XP_XP_BASE n) + i.xp + k)).amp j)
          (fun k => look 0 (s.lane n).v (8 * (f.a.toNat + k) + j)) i.mixCount
          { v := if f.m = 1 then 0 else look 0 (s.lane n).v (8 * f.d.toNat + j) }).v)))
  ∧ (∀ (n : Fin 16) (f : InsnFields) (i : Insn) (c : Biq) (s : State),
      s.CanIssue n → i = insnOf 0x40 f → opBiq.fieldsOk i = true → f.m = 0 → i.inc = 0 → bitsOf ((s.lane n).ad f.b.toNat).toNat 31 16 = 0 → c = ⟨s.blk n i 0, s.blk n i 1, s.blk n i 2, s.blk n i 3, s.blk n i 4⟩ →
      VecGives (.iBiq n f) s n f.d.toNat ((c.runAll ((s.lane n).vec f.a.toNat) (s.blk n i 5) (s.blk n i 6)).1.map (fun r => r.v))
      ∧ Gives (.iBiq n f) s (fun t => t.rd (dataAddr n (wordAt ((s.lane n).ad f.b.toNat) (i.disp + 5))) = (c.runAll ((s.lane n).vec f.a.toNat) (s.blk n i 5) (s.blk n i 6)).2.1
        ∧ t.rd (dataAddr n (wordAt ((s.lane n).ad f.b.toNat) (i.disp + 6))) = (c.runAll ((s.lane n).vec f.a.toNat) (s.blk n i 5) (s.blk n i 6)).2.2))
  ∧ (∀ (n : Fin 16) (f : InsnFields) (i : Insn) (s : State), s.CanIssue n → i = insnOf 0x40 f → opBiq.fieldsOk i = true →
      Gives (.iBiq n f) s (fun t =>
        (t.lane n).vec f.d.toNat = (List.range 8).map (fun j => ((biqSections n i (i.m + 1) 0 ((s.lane n).vec f.a.toNat) [] s).1[j]?).getD 0)
        ∧ (t.lane n).ad f.b.toNat = (if i.inc = 0 then (s.lane n).ad f.b.toNat else moved ((s.lane n).ad f.b.toNat) i.inc)))
  ∧ (∀ (n : Fin 16) (f : InsnFields) (i : Insn) (rs : List FRes) (s : State),
      s.CanIssue n → i = insnOf 0x41 f → opEnv.fieldsOk i = true → i.inc = 0 → bitsOf ((s.lane n).ad f.b.toNat).toNat 31 16 = 0 → rs = envRun (s.blk n i 0) (s.blk n i 1) (bitOf (s.blk n i 3).toNat 0) ((s.lane n).vec f.a.toNat) (s.blk n i 2) →
      VecGives (.iEnv n f) s n f.d.toNat (rs.map (fun r => r.v))
      ∧ Gives (.iEnv n f) s (fun t => t.rd (dataAddr n (wordAt ((s.lane n).ad f.b.toNat) (i.disp + 2))) = ((rs.getLast?).map (fun r => r.v)).getD 0))
  ∧ (∀ (n : Fin 16) (f : InsnFields) (i : Insn) (rs : List FRes) (s : State), s.CanIssue n → i = insnOf 0x41 f → opEnv.fieldsOk i = true →
      rs = envRun (s.blk n i 0) (s.blk n i 1) (bitOf (s.blk n i 3).toNat 0) ((s.lane n).vec f.a.toNat) (s.blk n i 2) →
      Gives (.iEnv n f) s (fun t => (t.lane n).vec f.d.toNat = rs.map (fun r => r.v)
        ∧ (t.lane n).ad f.b.toNat = (if i.inc = 0 then (s.lane n).ad f.b.toNat else moved ((s.lane n).ad f.b.toNat) i.inc)))
  ∧ (∀ (n : Fin 16) (f : InsnFields) (i : Insn) (s : State),
      s.CanIssue n → i = insnOf 0x44 f → opGainc.fieldsOk i = true → i.inc = 0 →
      VecGives (.iGainc n f) s n f.d.toNat (((s.lane n).vec f.a.toNat).map (fun x =>
        (gaincOf (s.blk n i 0) (s.blk n i 1) (s.blk n i 2) (s.blk n i 3) (s.blk n i 4) x).v)))
  ∧ (∀ (n : Fin 16) (f : InsnFields) (i : Insn) (s : State), s.CanIssue n → i = insnOf 0x44 f → opGainc.fieldsOk i = true →
      Gives (.iGainc n f) s (fun t => (t.lane n).vec f.d.toNat = ((s.lane n).vec f.a.toNat).map (fun x =>
          (gaincOf (s.blk n i 0) (s.blk n i 1) (s.blk n i 2) (s.blk n i 3) (s.blk n i 4) x).v)
        ∧ (t.lane n).ad f.b.toNat = (if i.inc = 0 then (s.lane n).ad f.b.toNat else moved ((s.lane n).ad f.b.toNat) i.inc)))
  ∧ (∀ (n : Fin 16) (f : InsnFields) (i : Insn) (s : State),
      s.CanIssue n → i = insnOf 0x45 f → opRamp.fieldsOk i = true → i.inc = 0 → s.blk n i 1 = s.blk n i 0 ||| 0x80000000 →
      VecGives (.iRamp n f) s n f.d.toNat
        ((rampRun (canon32 (s.blk n i 2)) (canon32 (s.blk n i 3)) (s.blk n i 5).toInt ((s.lane n).vec f.a.toNat) (s.blk n i 4).toInt).1.map
          (fun r => r.1.v)))
  ∧ (∀ (n : Fin 16) (f : InsnFields) (i : Insn) (ctrl : BitVec 32) (s : State),
      s.CanIssue n → i = insnOf 0x45 f → opRamp.fieldsOk i = true → ctrl = s.blk n i 0 → s.blk n i 1 ≠ ctrl ||| 0x80000000 →
      Gives (.iRamp n f) s (fun t => (t.lane n).vec f.d.toNat =
          (rampRun (canon32 (s.blk n i 6)) (gwamp (bitsOf ctrl.toNat 15 0))
            (rampSamples s.rate (bitsOf ctrl.toNat 19 16) (s.get R.SPELT_CFG_XP_DEF_RAMP)) ((s.lane n).vec f.a.toNat) 0).1.map (fun r => r.1.v)
        ∧ (t.lane n).ad f.b.toNat = (if i.inc = 0 then (s.lane n).ad f.b.toNat else moved ((s.lane n).ad f.b.toNat) i.inc)))

/-- Queues, silos, branches, loops, the frame end and traps (R218, R246, R264 to R269).
Where the spec leaves a detail open, its clauses rest on log entries 40, 164, 169, the model's reading. -/
def Obligations.SpeltQueuesAndControl : Prop :=
  (∀ (n : Fin 16) (f : InsnFields) (i : Insn) (q k : Nat) (s : State),
      s.CanIssue n → i = insnOf 0x50 f → opDqpush.fieldsOk i = true → q = bitsOf f.imm.toNat 4 0 → k = i.lineAt ((s.lane n).sc f.b.toNat) → s.dqUsable n q k = true →
      Gives (.iDqpush n f) s (fun t => look [] (t.dq q).pushed k = (s.lane n).vec f.a.toNat ∧ (t.dq q).lines = (s.dq q).lines))
  ∧ (∀ (n : Fin 16) (f : InsnFields) (i : Insn) (q k : Nat) (s : State),
      s.CanIssue n → i = insnOf 0x51 f → opDqpop.fieldsOk i = true → q = bitsOf f.imm.toNat 4 0 → k = i.lineAt ((s.lane n).sc f.b.toNat) → s.dqUsable n q k = true → (s.dq q).late = false →
      VecGives (.iDqpop n f) s n f.d.toNat (s.dqPop q k))
  ∧ (∀ (n : Fin 16) (f : InsnFields) (i : Insn) (q k : Nat) (s : State),
      s.CanIssue n → i = insnOf 0x51 f → opDqpop.fieldsOk i = true → q = bitsOf f.imm.toNat 4 0 → k = i.lineAt ((s.lane n).sc f.b.toNat) → s.dqUsable n q k = true → (s.dq q).late = true →
      Gives (.iDqpop n f) s (fun t => (t.lane n).waiting = some i ∧ (t.lane n).pc = (s.lane n).pc))
  ∧ (∀ (n : Fin 16) (f : InsnFields) (i : Insn) (q k : Nat) (s : State),
      s.CanIssue n → i = insnOf 0x51 f → opDqpop.fieldsOk i = true → q = bitsOf f.imm.toNat 4 0 → k = i.lineAt ((s.lane n).sc f.b.toNat) → s.dqUsable n q k = false → s.domOn (laneDom (q / 2)) = true →
      VecGives (.iDqpop n f) s n f.d.toNat (List.replicate 8 0)
      ∧ Gives (.iDqpop n f) s (fun t => (t.lane n).flag 12 = true ∧ t.get (R.DQ_IDLE_CNT_COUNT q) = (s.get (R.DQ_IDLE_CNT_COUNT q) + 1) % 2 ^ 32))
  ∧ (∀ (n : Fin 16) (f : InsnFields) (i : Insn) (s : State),
      s.CanIssue n → i = insnOf 0x58 f → opSpush.fieldsOk i = true → s.siloOpen i.silo = false →
      Gives (.iSpush n f) s (fun t => (t.lane n).flag 11 = true ∧ (t.lane n).v = (s.lane n).v))
  ∧ (∀ (n : Fin 16) (f : InsnFields) (i : Insn) (bs : List (BitVec 8)) (s y : State),
      s.CanGoOn n → i = insnOf 0x58 f → opSpush.fieldsOk i = true → s.on .flowptp = true → s.siloOpen i.silo = true → s.get (R.SILO_S_CFG_PROD i.silo) = 3 → s.get (R.SILO_S_CFG_LANE i.silo) = n → bs = ((s.lane n).vec f.a.toNat).flatMap (fun x => (siloSample i.fmt x).1) → y = s.setLane n ((s.lane n).stickAll (((s.lane n).vec f.a.toNat).map (fun x => (siloSample i.fmt x).2))) →
      Gives (.iSpush n f) s (fun t => t.silos = (y.siloData i.silo bs bs.length).2.silos))
  ∧ (∀ (n : Fin 16) (f : InsnFields) (i : Insn) (s : State),
      s.CanIssue n → i = insnOf 0x59 f → opSpushs.fieldsOk i = true → s.siloOpen i.silo = false →
      Gives (.iSpushs n f) s (fun t => (t.lane n).flag 11 = true ∧ (t.lane n).v = (s.lane n).v))
  ∧ (∀ (n : Fin 16) (f : InsnFields) (i : Insn) (bs : List (BitVec 8)) (s y : State),
      s.CanGoOn n → i = insnOf 0x59 f → opSpushs.fieldsOk i = true → s.on .flowptp = true → s.siloOpen i.silo = true → s.get (R.SILO_S_CFG_PROD i.silo) = 3 → s.get (R.SILO_S_CFG_LANE i.silo) = n → bs = ([(s.lane n).sc f.a.toNat]).flatMap (fun x => (siloSample i.fmt x).1) → y = s.setLane n ((s.lane n).stickAll (([(s.lane n).sc f.a.toNat]).map (fun x => (siloSample i.fmt x).2))) →
      Gives (.iSpushs n f) s (fun t => t.silos = (y.siloData i.silo bs bs.length).2.silos))
  ∧ (∀ (n : Fin 16) (f : InsnFields) (s : State),
      s.CanGoOn n → f.z = 0 → f.m = 0 → f.d = 0 → f.b = 0 → f.imm.toNat < 64 → s.on .flowptp = true → s.siloOpen f.imm.toNat = true → s.get (R.SILO_S_CFG_PROD f.imm.toNat) = 3 → s.get (R.SILO_S_CFG_LANE f.imm.toNat) = n →
      Gives (.iSpktOpen n f) s (fun t => t.silos = (s.siloPktOpen f.imm.toNat).2.silos))
  ∧ (∀ (n : Fin 16) (f : InsnFields) (s : State),
      s.CanGoOn n → f.z = 0 → f.m = 1 → f.d = 0 → f.b = 0 → f.imm.toNat < 64 → s.on .flowptp = true → s.siloOpen f.imm.toNat = true → s.get (R.SILO_S_CFG_PROD f.imm.toNat) = 3 → s.get (R.SILO_S_CFG_LANE f.imm.toNat) = n →
      Gives (.iSpktClose n f) s (fun t => t.silos = (s.siloPktClose f.imm.toNat ((s.lane n).sc f.a.toNat)).2.silos))
  ∧ (∀ (n : Fin 16) (f : InsnFields) (s : State),
      s.CanIssue n → f.z = 0 → f.m = 0 → f.d = 0 → f.a = 0 → f.b = 0 → f.imm.toNat < 4096 → s.inCode n f.imm.toNat = true → (s.lane n).loops = [] →
      Gives (.iBr n f) s (fun t => (t.lane n).pc = f.imm.toNat ∧ (t.lane n).v = (s.lane n).v ∧ (t.lane n).flags = (s.lane n).flags))
  ∧ (∀ (n : Fin 16) (f : InsnFields) (s : State),
      s.CanGoOn n → f.z = 0 → f.m = 1 → f.d = 0 → f.a = 0 → f.b = 0 → f.imm.toNat < 4096 → (s.lane n).flag 0 = false →
      Gives (.iBr n f) s (fun t => (t.lane n).pc = (s.lane n).pc + 1))
  ∧ (∀ (n : Fin 16) (f : InsnFields) (i : Insn) (s : State),
      s.CanGoOn n → i = insnOf 0x71 f → opLoop.fieldsOk i = true → f.m = 0 → i.count ≠ 0 → (s.lane n).pc < i.tgt → i.tgt < 8 + s.codeLen n (s.activeBank n) →
      Gives (.iLoop n f) s (fun t => look 0 (t.lane n).lc f.d.toNat = i.count ∧ (t.lane n).pc = (s.lane n).pc + 1
        ∧ (t.lane n).loops = [{ n := f.d.toNat, start := (s.lane n).pc + 1, tgt := i.tgt }]))
  ∧ (∀ (n : Fin 16) (s : State),
      s.CanIssue n →
      Gives (.iFend n {}) s (fun t => (t.lane n).active = false ∧ (t.lane n).flag 2 = false ∧ (t.lane n).pc = s.entryOf n (s.activeBank n)
        ∧ (t.lane n).retired = some (opFend.issueAt (s.lane n) (insnOf 0x7E {}) + 1)
        ∧ t.get64 (R.LANE_RUNS_LO n) (R.LANE_RUNS_HI n) = (s.get64 (R.LANE_RUNS_LO n) (R.LANE_RUNS_HI n) + 1) % 2 ^ 64))
  ∧ (∀ (n : Fin 16) (s : State),
      s.CanIssue n →
      Gives (.iTrap n {}) s (fun t => t.laneState n = 4 ∧ t.get (R.LANE_TRAP_CAUSE n) = 5 ∧ t.get (R.LANE_TRAP_PC n) = (s.lane n).pc % 4096
        ∧ t.flag (R.LANE_EVENT_TRAP n) = true ∧ (t.lane n).v = (s.lane n).v ∧ (t.lane n).s = (s.lane n).s))
  ∧ (∀ (n : Fin 16) (f : InsnFields) (s : State),
      s.CanIssue n → f.z ≠ 0 →
      Gives (.iNop n f) s (fun t => t.laneState n = 4 ∧ t.get (R.LANE_TRAP_CAUSE n) = 2 ∧ t.get (R.LANE_TRAP_PC n) = (s.lane n).pc % 4096
        ∧ t.flag (R.LANE_EVENT_TRAP n) = true ∧ (t.lane n).v = (s.lane n).v ∧ (t.lane n).s = (s.lane n).s))
  ∧ (∀ (n : Fin 16) (op : BitVec 8) (f : InsnFields) (s : State),
      s.CanIssue n → opOf op.toNat = none →
      Gives (.illegalInstruction n op f) s (fun t => t.laneState n = 4 ∧ t.get (R.LANE_TRAP_CAUSE n) = 1 ∧ t.get (R.LANE_TRAP_PC n) = (s.lane n).pc % 4096
        ∧ t.flag (R.LANE_EVENT_TRAP n) = true ∧ (t.lane n).v = (s.lane n).v ∧ (t.lane n).s = (s.lane n).s))

/-! ## Silos and DMA channels (chapter 10) -/

/-- Silo commands (R271, R276 to R279, Table 10.1): OPEN empties and opens or is refused with its RESULT, CLOSE empties, FLUSH pads
a partial word, and the packet commands of the host window open and close a packet. The window and the middle region (R270, R280
to R285): a write of whole words to a silo in stream mode makes them visible; a read pops the head word; DRAM traffic moves
bytes through the middle region.
Where the spec leaves a detail open, its clauses rest on log entries 180, 181, 183, the model's reading. -/
def Obligations.SilosAct : Prop :=
  (∀ (n : Fin 64) (w : BitVec 32) (s : State), s.NoAbort → s.on .flowptp = true → bitsOf w.toNat 4 2 = 0 → s.siloOpenResult n = 0 →
      Gives (.siloOpen n w) s (fun t => t.siloOpen n = true ∧ t.silo n = {} ∧ t.get (R.SILO_S_STATUS_RESULT n) = 0
        ∧ t.get (R.SILO_S_SEQ_NEXT n) = 0 ∧ t.flag (R.SILO_S_STATUS_EMPTY n) = true))
  ∧ (∀ (n : Fin 64) (w : BitVec 32) (s : State), s.NoAbort → s.on .flowptp = true → bitsOf w.toNat 4 2 = 0 → s.siloOpenResult n ≠ 0 →
      Gives (.siloOpen n w) s (fun t => t.get (R.SILO_S_STATUS_RESULT n) = s.siloOpenResult n
        ∧ t.flag (R.SILO_S_EVENT_REFUSED n) = true ∧ t.silos = s.silos))
  ∧ (∀ (n : Fin 64) (w : BitVec 32) (s : State), s.NoAbort → s.on .flowptp = true → bitsOf w.toNat 4 2 = 0 → s.siloOpen n = true →
      Gives (.siloClose n w) s (fun t => t.siloOpen n = false ∧ t.silo n = {} ∧ t.get (R.SILO_S_STATUS_RESULT n) = 0))
  ∧ (∀ (n : Fin 64) (w : BitVec 32) (s : State), s.NoAbort → s.on .flowptp = true → bitsOf w.toNat 1 0 = 0 → bitsOf w.toNat 4 3 = 0 →
      s.siloOpen n = true →
      Yields (.siloFlush n w) s ((s.siloFlush n).markDirty (R.SILO_S_CTRL n)))
  ∧ (∀ (n : Fin 64) (w : BitVec 32) (s : State), s.NoAbort → s.on .flowptp = true → bitsOf w.toNat 2 0 = 0 → bitOf w.toNat 4 = false →
      s.siloOpen n = true → s.get (R.SILO_S_CFG_PROD n) = 1 →
      Yields (.siloPktOpen n w) s ((s.siloPktOpen n).2.markDirty (R.SILO_S_CTRL n)))
  ∧ (∀ (n : Fin 64) (w : BitVec 32) (s : State), s.NoAbort → s.on .flowptp = true → bitsOf w.toNat 3 0 = 0 →
      s.siloOpen n = true → s.get (R.SILO_S_CFG_PROD n) = 1 →
      Yields (.siloPktClose n w) s ((s.siloPktClose n (s.rd (R.SILO_S_USER n))).2.markDirty (R.SILO_S_CTRL n)))
  ∧ (∀ (n : Fin 64) (w : BitVec 32) (s : State), s.NoAbort → s.on .flowptp = true → s.siloOpen n = true →
      s.get (R.SILO_S_CFG_PROD n) = 1 → s.flag (R.SILO_S_CFG_PKT_MODE n) = false → (s.silo n).part = [] → 4 ≤ s.siloFree n → 4 ≤ s.siloTailFree n →
      Gives (.siloWindowWrite n 0 w) s (fun t => (t.silo n).words = (s.silo n).words ++ [{ data := w }]
        ∧ t.get (R.SILO_S_IN_CNT_COUNT n) = (s.get (R.SILO_S_IN_CNT_COUNT n) + 4) % 2 ^ 32))
  ∧ (∀ (n : Fin 64) (off : BitVec 12) (w : BitVec 32) (s : State), s.NoAbort → s.on .flowptp = true → s.siloOpen n = true →
      s.get (R.SILO_S_CFG_PROD n) = 1 → off.toNat < 0xC00 →
      Yields (.siloWindowWrite n off w) s ((s.siloData n (wordBytes w) 4).2.markDirty (0x900000 + 0x1000 * n + off.toNat / 4 * 4)))
  ∧ (∀ (p : Fin 4) (n : Fin 64) (e : SiloWord) (l : List SiloWord) (s : State), s.portOpen p = true → s.on .flowptp = true → s.siloOpen n = true →
      s.host.ana = [] → s.host.qspi ≠ .read → 4 ≤ (s.silo n).head →
      s.get (R.SILO_S_CFG_CONS n) = 0 → (s.silo n).words = e :: l → e.tag < 8 →
      Gives (.siloWindowPop p n 0) s (fun t => (t.silo n).words = l ∧ t.get (R.SILO_S_STATUS_LAST_TAG n) = e.tag
        ∧ .hostData p (0x900000 + 0x1000 * n) e.data ∈ t.out))
  ∧ (∀ (p : Fin 4) (n : Fin 64) (s : State), s.portOpen p = true → s.on .flowptp = true → s.siloOpen n = true →
      s.host.ana = [] → s.host.qspi ≠ .read → (s.silo n).mid = 0 → (s.silo n).tail = 0 →
      s.get (R.SILO_S_CFG_CONS n) = 0 → (s.silo n).words = [] →
      Gives (.siloWindowPop p n 0) s (fun t => t.flag (R.SILO_S_EVENT_UNDERRUN n) = true ∧ t.silo n = s.silo n))
  ∧ (∀ (n : Fin 64) (a b : Nat) (q : SiloQ) (s : State), s.siloOpen n = true → s.flag (R.SILO_S_CFG_MID_EN n) = true →
      s.get R.MEM_STATUS_STATE = 2 → q = s.silo n → a % 4 = 0 → b % 4 = 0 → b ≤ q.mid → b + q.head ≤ s.siloSide n → a ≤ q.tail →
      a + q.mid ≤ s.siloMid n + b →
      Yields (.siloMiddleTransfer n a b) s
        (((s.setSilo n { q with tail := q.tail - a, mid := q.mid + a - b, head := q.head + b }).siloSettle n).siloShow n))

/-- R278: a close makes header, user word and payload visible in one step, and VIS and IN_CNT rise by the packet's whole size; before
that, neither an open nor the packet's data changes what the consumer sees. -/
def Obligations.PacketsBecomeVisible : Prop :=
  (∀ (n : Fin 64) (p : SiloPkt) (user : BitVec 32) (s t : State), (s.silo n).pkt = some p → t = (s.siloPktClose n user).2 →
      (t.silo n).words = (s.silo n).words ++ markLast p.trunc ({ data := pktHeader p } :: { data := user } :: packWords p.bytes)
        ∧ (t.silo n).pkt = none
        ∧ t.get (R.SILO_S_IN_CNT_COUNT n) = (s.get (R.SILO_S_IN_CNT_COUNT n) + 8 + 4 * ((p.bytes.length + 3) / 4)) % 2 ^ 32
        ∧ (s.get (R.SILO_S_VIS_VIS n) = 4 * (s.silo n).words.length →
          t.get (R.SILO_S_VIS_VIS n) = (s.get (R.SILO_S_VIS_VIS n) + 8 + 4 * ((p.bytes.length + 3) / 4)) % 2 ^ 32))
  ∧ (∀ (n : Fin 64) (bs : List (BitVec 8)) (need : Nat) (s t : State), s.flag (R.SILO_S_CFG_PKT_MODE n) = true →
      t = (s.siloData n bs need).2 →
      (t.silo n).words = (s.silo n).words ∧ t.get (R.SILO_S_IN_CNT_COUNT n) = s.get (R.SILO_S_IN_CNT_COUNT n)
        ∧ (s.get (R.SILO_S_VIS_VIS n) = 4 * (s.silo n).words.length → t.get (R.SILO_S_VIS_VIS n) = s.get (R.SILO_S_VIS_VIS n)))
  ∧ (∀ (n : Fin 64) (s t : State), t = (s.siloPktOpen n).2 →
      (t.silo n).words = (s.silo n).words ∧ t.get (R.SILO_S_IN_CNT_COUNT n) = s.get (R.SILO_S_IN_CNT_COUNT n)
        ∧ (s.get (R.SILO_S_VIS_VIS n) = 4 * (s.silo n).words.length → t.get (R.SILO_S_VIS_VIS n) = s.get (R.SILO_S_VIS_VIS n)))

/-- DMA channels (R46, R47, R286 to R289): descriptors are taken or refused, bursts move data, completions go through the DONE FIFO,
a timeout and a failed completion end what they end.
Where the spec leaves a detail open, its clauses rest on log entries 184, 186, 188, the model's reading. -/
def Obligations.DmaChannelsAct : Prop :=
  (∀ (c : Fin 8) (w : BitVec 32) (s : State), s.NoAbort → s.on .host = true → 16 ≤ (s.dma c).descs.length + (s.dma c).done.length →
      Gives (.dmaDescSubmit c w) s (fun t => t.flag (R.DMA_EVENT_REFUSED c) = true ∧ t.silos = s.silos))
  ∧ (∀ (c : Fin 8) (w : BitVec 32) (s : State), s.NoAbort → s.on .host = true → (s.dma c).descs.length + (s.dma c).done.length < 16 →
      w.toNat % 2 ^ 24 ≠ 0 → w.toNat % 4 = 0 → s.get64 (R.DMA_ADDR_LO c) (R.DMA_ADDR_HI c) % 4 = 0 →
      Gives (.dmaDescSubmit c w) s (fun t => (t.dma c).descs = (s.dma c).descs ++
        [{ addr := s.get64 (R.DMA_ADDR_LO c) (R.DMA_ADDR_HI c), user := s.rd (R.DMA_USER c), len := w.toNat % 2 ^ 24,
           irq := bitOf w.toNat 24, pktStart := bitOf w.toNat 25, pktEnd := bitOf w.toNat 26, tag := bitsOf w.toNat 30 27 }]))
  ∧ (∀ (p : Fin 4) (c : Fin 8) (e : BitVec 32) (l : List (BitVec 32)) (s : State), s.portOpen p = true → s.on .host = true → s.host.ana = [] →
      s.host.qspi ≠ .read → (s.dma c).done = e :: l →
      Gives (.dmaDoneRead p c) s (fun t => (t.dma c).done = l ∧ .hostData p (R.DMA_DONE c) e ∈ t.out))
  ∧ (∀ (c : Fin 8) (k : Nat) (s : State), Yields (.dmaDrainBurst c k) s (forN (min k (s.host.mps / 4)) (fun _ s => s.dmaDrainWord c) s))
  ∧ (∀ (c : Fin 8) (e : SiloWord) (l : List SiloWord) (x : DmaDesc) (d : List DmaDesc) (s : State), s.dmaMoves c = true →
      s.flag (R.DMA_CFG_DIR c) = false → (s.dma c).descs = x :: d → (s.silo (s.get (R.DMA_CFG_SILO c))).words = e :: l →
      (s.dma c).passed + 4 < x.len → e.tag = 4 → e.last = false → 4 ≤ (s.silo (s.get (R.DMA_CFG_SILO c))).head → 4 ≤ s.host.mps →
      Gives (.dmaDrainBurst c 1) s (fun t => (t.dma c).passed = (s.dma c).passed + 4 ∧ (t.dma c).descs = x :: d
        ∧ .dmaWrite (x.addr + (s.dma c).passed) e.data ∈ t.out))
  ∧ (∀ (c : Fin 8) (s : State), s.dmaMoves c = true → s.flag (R.DMA_CFG_DIR c) = false → 0 < (s.dma c).passed →
      s.get (R.DMA_CFG_TIMEOUT c) ≠ 0 → (s.silo (s.get (R.DMA_CFG_SILO c))).words = [] →
      Yields (.dmaDrainTimeout c) s ((s.dmaComplete c false false false).raise (R.DMA_EVENT_TIMEOUT c)))
  ∧ (∀ (c : Fin 8) (x : DmaDesc) (l : List DmaDesc) (bs : List (BitVec 8)) (s y : State), s.dmaMoves c = true →
      s.flag (R.DMA_CFG_DIR c) = true → (s.dma c).descs = x :: l → x.pktStart = false → (s.dma c).truncated = false →
      (s.silo (s.get (R.DMA_CFG_SILO c))).pkt = none → bs ≠ [] → bs.length + (s.dma c).passed < x.len → bs.length ≤ s.readMax →
      bs.length ≤ s.siloStreamRoom (s.get (R.DMA_CFG_SILO c)) → s.flag (R.SILO_S_CFG_PKT_MODE (s.get (R.DMA_CFG_SILO c))) = false →
      y = s.setDma c { s.dma c with opened := true } →
      Gives (.dmaFillBurst c bs) s (fun t => (t.dma c).passed = (s.dma c).passed + bs.length ∧ (t.dma c).descs = x :: l
        ∧ t.silos.q = (y.siloData (s.get (R.DMA_CFG_SILO c)) bs 0).2.silos.q))
  ∧ (∀ (c : Fin 8) (s x : State), s.on .host = true → (s.dma c).descs ≠ [] → (s.dma c).stopped = false → x = s.dmaStopFill c →
      Yields (.dmaCompletionError c) s ((((x.setDma c { x.dma c with stopped := true }).raise (R.SYS_DMA_ERR_CH.bit c)).raise
        R.SYS_EVENT_DMA_ERR).raise (R.DMA_EVENT_ERR c)))
  ∧ (∀ (c : Fin 8) (s : State), s.on .host = true → (s.dma c).descs ≠ [] → (s.dma c).stopped = false →
      Gives (.dmaCompletionError c) s (fun t => (t.dma c).stopped = true ∧ t.flag (R.SYS_DMA_ERR_CH.bit c) = true
        ∧ t.flag R.SYS_EVENT_DMA_ERR = true ∧ t.flag (R.DMA_EVENT_ERR c) = true))

/-! ## Serial ports (chapter 11) -/

/-- Unit commands, indexes and frames (R296 to R300, R310, R313 to R316): START is refused by its RESULT or arms the unit, STOP fades it to
IDLE, frames are received and sent, windows that stay empty are counted, and a channel-status capture is armed.
The clauses in which nothing happens where the moment of a row has not come are the model's choice (log entry 7).
Where the spec leaves a detail open, its clauses rest on log entries 190, 192, 193, 197, the model's reading. -/
def Obligations.PortUnitsAct : Prop :=
  (∀ (n : Fin 26) (w : BitVec 32) (s : State), s.NoAbort → s.on .ports = true → w.toNat.testBit 4 = false → s.unitState n ≠ 0 →
      Gives (.portStart n w) s (fun t => t.get (R.PORT_U_STATUS_RESULT n) = 6 ∧ t.flag (unitEvent n 1) = true ∧ t.ports = s.ports))
  ∧ (∀ (n : Fin 26) (w : BitVec 32) (s : State), s.NoAbort → s.on .ports = true → w.toNat.testBit 4 = false → s.unitState n = 0 →
      s.unitBad n = true →
      Gives (.portStart n w) s (fun t => t.get (R.PORT_U_STATUS_RESULT n) = 1 ∧ t.flag (unitEvent n 1) = true ∧ t.ports = s.ports))
  ∧ (∀ (n : Fin 26) (w : BitVec 32) (s : State), s.NoAbort → s.on .ports = true → w.toNat.testBit 4 = false →
      w.toNat.testBit 3 = false → w.toNat.testBit 2 = false → s.unitState n = 0 → s.unitBad n = false → s.usesAdpll1 n = false →
      s.clkMode n ≠ 1 →
      Gives (.portStart n w) s (fun t => t.get (R.PORT_U_STATUS_RESULT n) = 0 ∧ t.unitState n = 1 ∧ t.mon n = 1
        ∧ (t.unit n).start = some s.cmdBoundary ∧ t.flag (unitEvent n 0) = true))
  ∧ (∀ (n : Fin 26) (w : BitVec 32) (s : State), s.NoAbort → s.on .ports = true → w.toNat.testBit 4 = false → s.unitState n = 3 →
      Gives (.portStop n w) s (fun t => t.get (R.PORT_U_STATUS_RESULT n) = 6 ∧ t.flag (unitEvent n 1) = true ∧ t.ports = s.ports))
  ∧ (∀ (n : Fin 26) (w : BitVec 32) (s : State), s.NoAbort → s.on .ports = true → w.toNat.testBit 4 = false → s.unitState n = 2 →
      w.toNat.testBit 2 = false → w.toNat.testBit 5 = false →
      Gives (.portStop n w) s (fun t => t.unitState n = 3 ∧ (t.unit n).stop = some (s.cmdBoundary + 64)
        ∧ (t.unit n).fadeFrom = s.cmdBoundary ∧ t.get (R.PORT_U_STATUS_RESULT n) = 0))
  ∧ (∀ (n : Fin 26) (w : BitVec 32) (s y : State), s.NoAbort → s.on .ports = true → w.toNat.testBit 4 = false → s.unitState n = 0 →
      y = s.wr (R.PORT_U_CTRL n) ((R.PORT_U_CTRL_CMD n).inWord w 1 &&& 0x2C) → y.unitBad n = false →
      (y.usesAdpll1 n = true → y.adpll 1 = 2) → (y.clkMode n = 1 → (y.unitSrcs n).length ≤ y.srcFree.length) →
      Gives (.portStart n w) s (fun t => t.get (R.PORT_U_STATUS_RESULT n) = 0 ∧ t.unitState n = 1 ∧ t.mon n = 1
        ∧ t.flag (R.PORT_U_STATUS_WAIT_TRIG n) = w.toNat.testBit 3))
  ∧ (∀ (n : Fin 26) (w : BitVec 32) (s : State), s.NoAbort → s.on .ports = true → w.toNat.testBit 4 = false → s.unitState n = 1 →
      Gives (.portStop n w) s (fun t => (t.unit n).cancelled = true ∧ t.unitState n = 1 ∧ t.get (R.PORT_U_STATUS_RESULT n) = 0))
  ∧ (∀ (n : Fin 26) (w : BitVec 32) (s : State), s.NoAbort → s.on .ports = true → w.toNat.testBit 4 = false → s.unitState n = 2 →
      Gives (.portStop n w) s (fun t => t.unitState n = 3 ∧ t.flag (unitEvent n 0) = true ∧ t.get (R.PORT_U_STATUS_RESULT n) = 0
        ∧ (t.unit n).stop.isSome = true))
  ∧ (∀ (n : Fin 26) (w : BitVec 32) (s : State), s.NoAbort → s.on .ports = true → w.toNat % 4 = 0 →
      Gives (.portClearCounters n w) s (fun t => (∀ k : Fin 7, t.rd (R.PORT_U_CNT n k) = 0) ∧ t.rd (R.PORT_U_WRAP n) = 0
        ∧ t.ports = s.ports))
  ∧ (∀ (n : Fin 26) (i : Nat) (s : State), s.unitState n = 1 → (s.unit n).start = some i → (s.unit n).cancelled = false →
      i ≤ s.time.index →
      Gives (.portStartIndex n) s (fun t => t.unitState n = 2 ∧ t.flag (unitEvent n 0) = true ∧ t.ports = s.ports))
  ∧ (∀ (n : Fin 26) (i : Nat) (s : State), s.unitState n = 3 → (s.unit n).stop = some i → i + s.unitDrain n ≤ s.time.index → s.clkMode n ≠ 1 →
      Gives (.portStopIndex n) s (fun t => t.unitState n = 0 ∧ t.mon n = 0 ∧ t.unit n = { blocks := (s.unit n).blocks }))
  ∧ (∀ (n : Fin 26) (u : Nat) (slots : List PortSlot) (f96 : Bool) (s : State), s.on .ports = true → isTdm n = true → s.rxEn n = true →
      s.unitState n = 2 → s.mon n = 2 → s.clkMode n = 0 → (s.unit n).lastRx = some u → (s.unit n).glitches = [] →
      Gives (.portFrameRx n u slots false f96) s (fun t => t.get (R.PORT_U_CNT_COUNT n 2) = (s.get (R.PORT_U_CNT_COUNT n 2) + 1) % 2 ^ 32
        ∧ t.flag (unitEvent n 5) = true ∧ (t.unit n).rx = (s.unit n).rx))
  ∧ (∀ (n : Fin 26) (u : Nat) (slots : List PortSlot) (f96 : Bool) (s : State), s.on .ports = true → isTdm n = true → s.rxEn n = true →
      s.unitState n = 2 → s.mon n = 2 → s.clkMode n = 0 → (s.unit n).lastRx ≠ some u → (s.unit n).rx = [] →
      (s.unit n).glitches = [] →
      Gives (.portFrameRx n u slots false f96) s (fun t => (t.unit n).rx = [(u, slots)] ∧ (t.unit n).lastRx = some u ∧ t.regs = s.regs))
  ∧ (∀ (n : Fin 26) (u : Nat) (slots : List PortSlot) (f96 : Bool) (s : State), s.on .ports = true → s.rxEn n = true →
      s.unitState n ≠ 0 → s.mon n = 2 → s.clkMode n = 1 →
      Gives (.portFrameRx n u slots false f96) s (fun t => (t.unit n).rxPast = ((s.time.index, slots) :: (s.unit n).rxPast).take 400))
  ∧ (∀ (n : Fin 26) (u : Nat) (slots : List PortSlot) (glitch f96 : Bool) (s : State), s.on .ports = true → s.unitState n ≠ 0 →
      Yields (.portFrameRx n u slots glitch f96) s (s.frameIn n u slots glitch f96))
  ∧ (∀ (n : Fin 26) (u : Nat) (slots : List PortSlot) (glitch f96 : Bool) (s : State), s.unitState n = 0 → isTdm n = true →
      Yields (.portFrameRx n u slots glitch f96) s s)
  ∧ (∀ (n : Fin 26) (u : Nat) (s : State), s.unitState n = 0 → Yields (.portFrameTx n u) s s)
  ∧ (∀ (n : Fin 26) (u : Nat) (s : State), s.on .ports = true → s.txEn n = true → isTdm n = true → s.unitState n = 1 → s.owns = true →
      Gives (.portFrameTx n u) s (fun t => t.out.any (fun o => decide (o = .portFrame n ((s.slotsOut n (List.replicate (s.unitCh n) 0) (s.unit n).lfsr).1)))
        ∧ (t.unit n).lastTx = some u))
  ∧ (∀ (n : Fin 26) (u i : Nat) (s : State), s.on .ports = true → s.txEn n = true → s.unitState n ≠ 0 →
      s.mon n = 2 ∨ s.clkMode n = 1 ∨ s.unitState n = 1 → i = (if s.clkMode n = 0 then u % 192 else (s.unit n).sent) →
      Gives (.portFrameTx n u) s (fun t => (t.unit n).lastTx = some u ∧ (t.unit n).sent = (i + 1) % 192
        ∧ (s.owns = true → t.out.any (fun o => match o with | .portFrame m _ => m == n.val | _ => false) = true)))
  ∧ (∀ (n : Fin 26) (s : State), s.on .ports = true → s.clkMode n = 0 → s.mon n = 2 → 2 ≤ s.unitState n → s.txEn n = true →
      s.txMaster n = false → (isTdm n && s.pcfg n 9 9 == 1) = false →
      Gives (.portWindowEmpty n false) s (fun t => t.get (R.PORT_U_CNT_COUNT n 3) = (s.get (R.PORT_U_CNT_COUNT n 3) + 1) % 2 ^ 32
        ∧ t.flag (unitEvent n 5) = true ∧ t.ports = s.ports))
  ∧ (∀ (n : Fin 26) (s : State), s.on .ports = true → s.clkMode n = 0 → s.mon n = 2 → s.unitState n = 2 → s.rxEn n = true →
      (isTdm n && s.pcfg n 9 9 == 1) = false →
      Gives (.portWindowEmpty n true) s (fun t => t.get (R.PORT_U_CNT_COUNT n 0) = (s.get (R.PORT_U_CNT_COUNT n 0) + 1) % 2 ^ 32
        ∧ t.flag (unitEvent n 4) = true ∧ t.ports = s.ports))
  ∧ (∀ (m : Fin 2) (w : BitVec 32) (s : State), s.NoAbort → s.on .ports = true →
      Gives (.madiCsCaptureArm m w) s (fun t => t.flag (R.PORT_MADI_CS_CAP_ARM m) = true ∧ t.flag (R.PORT_MADI_CS_CAP_VALID m) = false
        ∧ t.get (R.PORT_MADI_CS_CAP_CHANNEL m) = w.toNat % 64 ∧ (t.unit (24 + m)).cap = none))

/-- Clock monitors and locks (R304, R305, R309, R311, R312), and the common start trigger (R317).
The clauses in which nothing happens where the moment of a row has not come are the model's choice (log entry 7).
Where the spec leaves a detail open, its clauses rest on log entries 191, 195, 196, 198, the model's reading. -/
def Obligations.MonitorsAndCommonStart : Prop :=
  (∀ (n : Fin 26) (rate : Nat) (s : State), s.on .ports = true → s.mon n = 1 → s.clockStands n = true → s.rateCfg n ≠ 7 → nearCode rate = s.rateCfg n →
      Gives (.monAcquireOk n rate) s (fun t => t.mon n = 2 ∧ t.flag (unitEvent n 3) = true ∧ (t.unit n).rxFifo = []
        ∧ t.get (R.PORT_U_RATE_MEAS_RATE n) = min rate (2 ^ 22 - 1)))
  ∧ (∀ (n : Fin 26) (rate : Nat) (s : State), s.on .ports = true → s.mon n = 1 → s.clockStands n = true → s.rateCfg n = 7 → s.clkMode n = 1 →
      480000 ≤ rate → rate ≤ 3200000 →
      Gives (.monAcquireOk n rate) s (fun t => t.mon n = 2 ∧ (t.unit n).rate = nearCode rate))
  ∧ (∀ (n : Fin 26) (rate : Nat) (s : State), s.mon n ≠ 1 → Yields (.monAcquireOk n rate) s s)
  ∧ (∀ (n : Fin 26) (s : State), s.on .ports = true → s.mon n = 2 → s.get (R.PORT_U_CNT16_FAULT_CNT n) < 65535 →
      Gives (.monLoss n) s (fun t => t.mon n = 3 ∧ t.flag (unitEvent n 3) = true
        ∧ t.get (R.PORT_U_CNT16_FAULT_CNT n) = s.get (R.PORT_U_CNT16_FAULT_CNT n) + 1 ∧ t.unitState n = s.unitState n))
  ∧ (∀ (n : Fin 26) (rate : Nat) (s : State), s.on .ports = true → s.mon n = 2 → s.clkMode n ≠ 1 →
      nearCode rate ≠ (if s.rateCfg n = 7 then (s.unit n).rate else s.rateCfg n) →
      Gives (.monRate n rate) s (fun t => t.mon n = 5 ∧ t.flag (unitEvent n 3) = true
        ∧ t.get (R.PORT_U_RATE_MEAS_RATE n) = min rate (2 ^ 22 - 1)))
  ∧ (∀ (n : Fin 26) (rate : Nat) (s : State), s.on .ports = true → s.mon n = 3 ∨ s.mon n = 4 →
      Gives (.monClockReturn n rate) s (fun t => t.mon n = 1 ∧ t.flag (unitEvent n 3) = true))
  ∧ (∀ (n : Fin 26) (rate ch : Nat) (f96 : Bool) (s : State), s.on .ports = true → isAesRx n = true → s.unitState n ≠ 0 →
      28000 ≤ rate → rate ≤ 216000 →
      Gives (.receiverLockAcquired n rate ch f96) s (fun t => t.flag (R.PORT_AESRX_RXSTAT_LOCK (n - 8)) = true
        ∧ t.get (R.PORT_U_RATE_MEAS_RATE n) = rate * 16 ∧ t.get (R.PORT_AESRX_RXSTAT_RATE_DET (n - 8)) = nearCode (rate * 16)))
  ∧ (∀ (n : Fin 26) (rate ch : Nat) (f96 : Bool) (s : State), s.on .ports = true → isMadi n = true → s.unitState n ≠ 0 → ch < 128 →
      Gives (.receiverLockAcquired n rate ch f96) s (fun t => t.flag (R.PORT_MADI_RXSTAT_LOCK (n - 24)) = true
        ∧ t.get (R.PORT_MADI_RXSTAT_CH_DET (n - 24)) = ch ∧ t.flag (R.PORT_MADI_RXSTAT_FRAME96_DET (n - 24)) = f96))
  ∧ (∀ (w : BitVec 32) (s : State), s.NoAbort → s.on .ports = true → w.toNat.testBit 3 = false → s.ports.trig.isSome = true →
      Gives (.commonStartGo w) s (fun t => t.get R.PORT_START_STATUS_RESULT = 1 ∧ t.ports = s.ports))
  ∧ (∀ (w : BitVec 32) (s : State), s.NoAbort → s.on .ports = true → w.toNat.testBit 3 = false → s.ports.trig = none →
      bitsOf w.toNat 2 1 = 1 →
      Gives (.commonStartGo w) s (fun t => t.ports.trig = some (some s.nextBoundary) ∧ t.flag R.PORT_START_STATUS_WAITING = true
        ∧ t.get R.PORT_START_STATUS_RESULT = 0 ∧ t.flag R.PORT_START_STATUS_LATE = false))
  ∧ (∀ (w : BitVec 32) (s : State), s.NoAbort → s.on .ports = true → w.toNat.testBit 0 = false → s.ports.trig.isSome = true →
      Gives (.commonStartCancel w) s (fun t => t.ports = { s.ports with trig := none } ∧ t.flag R.PORT_START_STATUS_WAITING = false
        ∧ t.get R.PORT_START_STATUS_RESULT = 2))
  ∧ (∀ (at_ : Nat) (s : State), s.ports.trig = some (some at_) → at_ ≤ s.time.index → s.on .ports = true → s.atBoundary = true →
      Gives .commonStartFire s (fun t => t.ports.trig = none ∧ t.flag R.PORT_START_STATUS_WAITING = false
        ∧ t.get R.PORT_START_STATUS_RESULT = 0
        ∧ t.get64 R.PORT_FIRED_LO R.PORT_FIRED_HI = s.time.index % 2 ^ 64))
  ∧ (∀ (s : State), s.ports.trig = none → Yields .commonStartFire s s)

/-! ## Analogue inputs and outputs (chapter 12) -/

/-- Inputs and phantom power (R322 to R324, R326, R329 to R332).
The clauses in which nothing happens where the moment of a row has not come are the model's choice (log entry 7).
Where the spec leaves a detail open, its clauses rest on log entries 42, 200, 206, the model's reading. -/
def Obligations.InputsAct : Prop :=
  (∀ (i : Fin 16) (w : BitVec 32) (s : State), s.NoAbort → s.on (ainDom i) = true → s.ainState i = 0 → w.toNat.testBit 0 = true →
      Gives (.ainCfgWrite i w) s (fun t => t.ainState i = 1 ∧ t.flag (R.ANA_IN_EVENT_STATE i) = true ∧ t.rd (R.ANA_IN_CFG i) = w &&& 0x1FFF
        ∧ (t.ain i).range = (R.ANA_IN_CFG_RANGE i).ofWord w ∧ t.flag (R.ANA_IN_STATUS_MATCH_OK i) = false))
  ∧ (∀ (i : Fin 16) (w : BitVec 32) (s : State), s.NoAbort → s.on (ainDom i) = true → s.ainState i = 2 → w.toNat.testBit 0 = false →
      (s.ain i).fade = none →
      Gives (.ainCfgWrite i w) s (fun t => t.ainState i = 2 ∧ (t.ain i).fade = some (false, 0)))
  ∧ (∀ (i : Fin 16) (s : State), s.on (ainDom i) = true → s.ainState i = 1 → (s.ain i).hold = false →
      Gives (.ainSettleDone i) s (fun t => t.ainState i = 2 ∧ (t.ain i).fade = some (true, 0) ∧ t.flag (R.ANA_IN_EVENT_STATE i) = true))
  ∧ (∀ (i : Fin 16) (h l : Int) (s : State), s.on (ainDom i) = true → s.ainState i ≠ 0 → s.force i = 0 →
      s.flag (R.ANA_IN_STATUS_PATH i) = false → l.natAbs < 2 ^ 23 - 1 →
      Gives (.combinerSample i h l true) s (fun t => t.flag (R.ANA_IN_STATUS_PATH i) = true ∧ (t.ain i).w = 8
        ∧ t.flag (R.ANA_IN_EVENT_XO i) = true ∧ t.get (R.ANA_IN_XO_CNT_COUNT i) = (s.get (R.ANA_IN_XO_CNT_COUNT i) + 1) % 2 ^ 32
        ∧ (t.ain i).pipe.head? = some { h := s.matchedH i h, l, w := 8 }))
  ∧ (∀ (i : Fin 16) (h l : Int) (s : State), s.on (ainDom i) = true → s.ainState i ≠ 0 → s.flag (R.ANA_IN_STATUS_PATH i) = false →
      s.force i ≠ 0 ∨ (s.matchedH i h).natAbs < tUp → l.natAbs < 2 ^ 23 - 1 →
      Gives (.combinerSample i h l false) s (fun t => t.flag (R.ANA_IN_STATUS_PATH i) = false ∧ (t.ain i).c = 0
        ∧ (t.ain i).pipe.head? = some { h := s.matchedH i h, l, w := (s.ain i).w }
        ∧ t.rd (R.ANA_IN_XO_CNT i) = s.rd (R.ANA_IN_XO_CNT i)))
  ∧ (∀ (i : Fin 16) (h l : Int) (s : State), s.on (ainDom i) = true → s.ainState i ≠ 0 → 2 ^ 23 - 1 ≤ l.natAbs →
      Gives (.combinerSample i h l true) s (fun t => t.flag (R.ANA_IN_STATUS_CLIP i) = true ∧ t.flag (R.ANA_IN_EVENT_CLIP i) = true
        ∧ (t.ain i).clip = true))
  ∧ (∀ (i : Fin 16) (h l : Int) (s : State), s.on (ainDom i) = true → s.ainState i ≠ 0 → s.force i = 0 →
      s.flag (R.ANA_IN_STATUS_PATH i) = true → (s.ain i).c + 1 = s.holdN i → l.natAbs < tDn (s.get (R.ANA_IN_CFG_XO_DN i)) →
      Gives (.combinerSwitchDown i h l) s (fun t => t.flag (R.ANA_IN_STATUS_PATH i) = false ∧ (t.ain i).w = 0 ∧ (t.ain i).c = 0))
  ∧ (∀ (i : Fin 16) (gain : BitVec 16) (s : State), s.on (ainDom i) = true → s.ainState i ≠ 0 →
      Gives (.matchOk i gain) s (fun t => t.flag (R.ANA_IN_STATUS_MATCH_OK i) = true ∧ t.get (R.ANA_IN_MATCH_GAIN i) = gain.toNat
        ∧ t.ana = s.ana))
  ∧ (∀ (w : BitVec 32) (s : State), s.NoAbort → w &&& 0xFFFF = s.rd R.ANA_PHANTOM →
      Gives (.phantomWrite w) s (fun t => t.rd R.ANA_PHANTOM = w &&& 0xFFFF ∧ t.ana = s.ana ∧ t.pending = s.pending))
  ∧ (∀ (i : Fin 16) (w : BitVec 32) (s : State), s.NoAbort → ((w &&& 0xFFFF) ^^^ s.rd R.ANA_PHANTOM).toNat.testBit i = true →
      s.ainState i = 2 → (s.ain i).fade = none → s.ana.phSend = [] →
      Gives (.phantomWrite w) s (fun t => t.rd R.ANA_PHANTOM = w &&& 0xFFFF ∧ (t.ain i).hold = true
        ∧ (t.ain i).fade = some (false, 0) ∧ i.val ∈ t.ana.phSend))
  ∧ (∀ (s : State), s.flag R.ANA_PH_CFG_REFRESH = true → s.flag R.PWR_STALK_STATUS_SAFE = false → s.pins.aReleased = true →
      Yields .phantomRefresh s ((s.emit (.phantom s.phantomWord)).emit (.phantomPins (phantomHalves s.phantomWord))))
  ∧ (∀ (s : State), s.flag R.ANA_PH_CFG_REFRESH = false → Yields .phantomRefresh s s)
  ∧ (∀ (i : Fin 16) (s : State), (s.ain i).hold = true → i.val ∉ s.ana.phSend → s.ainState i = 2 → s.ainDiffers i = false →
      (s.ain i).rated = false → Gives (.phantomSettleDone i) s (fun t => (t.ain i).hold = false ∧ (t.ain i).fade = some (true, 0)))
  ∧ (∀ (i : Fin 16) (s : State), (s.ain i).hold = true → i.val ∉ s.ana.phSend →
      Gives (.phantomSettleDone i) s (fun t => (t.ain i).hold = false))
  ∧ (∀ (i : Fin 16) (mv : Nat) (s : State), s.on (ainDom i) = true →
      Gives (.phantomMonitorSample i mv) s (fun t => (t.ain i).ph = s.phClass i mv
        ∧ (t.ain i).agree = if s.phClass i mv = (s.ain i).ph then min 4 ((s.ain i).agree + 1) else 1))
  ∧ (∀ (i : Fin 16) (mv : Nat) (s : State), s.on (ainDom i) = true → s.phClass i mv = (s.ain i).ph → 3 ≤ (s.ain i).agree →
      (s.ain i).hold = false →
      Gives (.phantomMonitorSample i mv) s (fun t => t.get (R.ANA_IN_STATUS_PH i) = (s.phClass i mv)
        ∧ (t.ain i).agree = 4))

/-- Line outputs, headphones and relay drivers (R334 to R338).
The clauses in which nothing happens where the moment of a row has not come are the model's choice (log entry 7).
Where the spec leaves a detail open, its clauses rest on log entries 201, 202, 203, 204, the model's reading. -/
def Obligations.OutputsAct : Prop :=
  (∀ (n : Fin 18) (w : BitVec 32) (s x : State), s.NoAbort → s.on .aout = true → s.outState n = 0 →
      x = (s.put (R.ANA_O_STATUS_SC n) 0).setAout n { s.aout n with want := some true, stopReq := false, offReq := false } →
      Yields (.outputStart n w) s (x.anaSettle.markDirty (R.ANA_O_CTRL n)))
  ∧ (∀ (n : Fin 18) (w : BitVec 32) (s x : State), s.NoAbort → s.on .aout = true → s.outState n = 2 →
      x = (s.setAout n { s.aout n with fade := none, want := none, offReq := false }).setOutState n 3 →
      Yields (.outputStart n w) s (x.anaSettle.markDirty (R.ANA_O_CTRL n)))
  ∧ (∀ (n : Fin 18) (w : BitVec 32) (s x : State), s.NoAbort → s.on .aout = true → s.outState n = 4 →
      x = (s.setAout n { s.aout n with fade := fadeOutFrom (s.aout n).fade, grouped := false }).setOutState n 5 →
      Yields (.outputStop n w) s (x.anaSettle.markDirty (R.ANA_O_CTRL n)))
  ∧ (∀ (n : Fin 18) (w : BitVec 32) (s : State), s.NoAbort → s.on .aout = true → s.outState n = 1 →
      Gives (.outputStop n w) s (fun t => t.aout n = { s.aout n with stopReq := true } ∧ t.outState n = 1))
  ∧ (∀ (n : Fin 18) (w : BitVec 32) (s x : State), s.NoAbort → s.on .aout = true → s.outState n = 2 →
      x = s.setAout n { s.aout n with want := some false, offReq := true } →
      Yields (.outputOff n w) s (x.anaSettle.markDirty (R.ANA_O_CTRL n)))
  ∧ (∀ (n : Fin 18) (w : BitVec 32) (s x : State), s.NoAbort → s.on .aout = true → s.outState n = 4 →
      x = (s.setAout n { s.aout n with fade := fadeOutFrom (s.aout n).fade, grouped := false, offReq := true, want := some false }).setOutState n 5 →
      Yields (.outputOff n w) s (x.anaSettle.markDirty (R.ANA_O_CTRL n)))
  ∧ (∀ (n : Fin 18) (s x : State), s.on .aout = true → s.outState n = 1 → (s.aout n).stopReq = false →
      x = (s.setAout n { s.aout n with fade := none, stopReq := false }).setOutState n 3 →
      Yields (.outputCmRampDone n) s x.anaSettle)
  ∧ (∀ (n : Fin 18) (s x : State), s.on .aout = true → s.outState n = 6 →
      x = (s.setAout n { s.aout n with offReq := false, fade := none }).setOutState n 0 →
      Yields (.outputCmRampDone n) s x.anaSettle)
  ∧ (∀ (n : Fin 18) (k : Nat) (s x : State), s.on .aout = true → (s.aout n).fade = some (true, k) → 64 ≤ k → s.outState n = 3 →
      x = (s.setAout n { s.aout n with fade := none }).setOutState n 4 →
      Yields (.outputFadeDone n) s x.anaSettle)
  ∧ (∀ (n : Fin 18) (k : Nat) (s x : State), s.on .aout = true → (s.aout n).fade = some (false, k) → 64 ≤ k → s.outState n = 5 →
      (s.aout n).offReq = false → x = (s.setAout n { s.aout n with fade := none }).setOutState n 2 →
      Yields (.outputFadeDone n) s x.anaSettle)
  ∧ (∀ (n : Fin 18) (s : State), (s.aout n).fade = none → Yields (.outputFadeDone n) s s)
  ∧ (∀ (k : Fin 4) (s x : State), x = { s with ana := { s.ana with relayWait := dropFrom s.ana.relayWait k } } →
      Yields (.relayTExpire k) s x.anaSettle)
  ∧ (∀ (k : Fin 4) (w : BitVec 32) (s x : State), s.NoAbort →
      x = s.wr (R.ANA_MUTE k) ((w &&& 0xF) ||| (s.rd (R.ANA_MUTE k) &&& 0x10)) →
      Yields (.relayDriverWrite k w) s (x.anaSettle.markDirty (R.ANA_MUTE k)))
  ∧ (∀ (h : Fin 2) (s x : State), s.on .aout = true → s.outState (16 + h) ≠ 0 →
      x = ((s.setAout (16 + h) { s.aout (16 + h) with fade := none, want := none, stopReq := false, offReq := false, grouped := false }).setOutState
        (16 + h) 0).raise (R.ANA_O_STATUS_SC (16 + h)) →
      Yields (.hpShortShutdown h) s ((x.raise (R.ANA_O_EVENT_SC (16 + h))).countSat (R.ANA_O_CNT_SC_CNT (16 + h))).anaSettle)
  ∧ (∀ (h : Fin 2) (level : Bool) (s : State), s.on .aout = true → level ≠ s.hpPin h → (s.aout (16 + h)).unstable = false →
      Gives (.hpdetEdge h level) s (fun t => t.hpPin h = level ∧ (t.aout (16 + h)).unstable = true
        ∧ t.outState (16 + h) = s.outState (16 + h)))
  ∧ (∀ (h : Fin 2) (s : State), s.on .aout = true → (s.aout (16 + h)).unstable = true →
      Gives (.hpdetDebounceDone h) s (fun t => (t.aout (16 + h)).unstable = false
        ∧ t.flag (R.ANA_O_STATUS_JACK (16 + h)) = s.inserted h (s.hpPin h)))
  ∧ (∀ (h : Fin 2) (s : State), (s.aout (16 + h)).unstable = false → Yields (.hpdetDebounceDone h) s s)

/-! ## The loudspeaker power stage (chapter 13) -/

/-- Channel commands and states (R350 to R358): START is refused in the order of Table 13.3 or ramps up, STOP fades, OFF and a cleared EN
lead to OFF, over-current shuts down, faults are classified and retried, and the ninth leads to LATCHED until CLEAR.
Where the spec leaves a detail open, its clauses rest on log entries 212, 213, 214, 218, the model's reading. -/
def Obligations.PowerChannelsAct : Prop :=
  (∀ (p : Fin 4) (w : BitVec 32) (s : State), s.NoAbort → s.on .pstage = true → s.psState p ≠ 3 → s.psState p ≠ 4 → s.psRefusal p ≠ 0 →
      Gives (.psStart p w) s (fun t => t.get (R.PSC_STATUS_RESULT p) = s.psRefusal p ∧ t.psState p = s.psState p ∧ t.ps = s.ps
        ∧ t.flag ((R.PSC_EVENT_EVENT p).bit 1) = true))
  ∧ (∀ (p : Fin 4) (w : BitVec 32) (s : State), s.NoAbort → s.on .pstage = true → s.psState p = 0 → s.psRefusal p = 0 →
      s.ps.relock = none → s.flag R.PWR_STALK_STATUS_SAFE = false →
      Gives (.psStart p w) s (fun t => t.get (R.PSC_STATUS_RESULT p) = 0 ∧ t.psState p = 1 ∧ t.flag ((R.PSC_EVENT_EVENT p).bit 0) = true
        ∧ (t.psCh p).pilot = 0 ∧ (t.psCh p).fault = .none ∧ t.flag (R.PSC_STATUS_RE_VALID p) = false))
  ∧ (∀ (p : Fin 4) (w : BitVec 32) (s : State), s.NoAbort → s.on .pstage = true → s.psState p = 2 → s.psRefusal p = 0 →
      s.ps.relock = none → s.flag R.PWR_STALK_STATUS_SAFE = false →
      Gives (.psStart p w) s (fun t => t.psState p = 3 ∧ (t.psCh p).fade = none ∧ (t.psCh p).periods = 0))
  ∧ (∀ (p : Fin 4) (w : BitVec 32) (s : State), s.NoAbort → s.on .pstage = true → s.psState p = 4 → (s.psCh p).fade = none →
      Gives (.psStop p w) s (fun t => t.psState p = 5 ∧ (t.psCh p).fade = some (false, 0) ∧ t.get (R.PSC_STATUS_RESULT p) = 0))
  ∧ (∀ (p : Fin 4) (w : BitVec 32) (s : State), s.NoAbort → s.on .pstage = true → s.psState p = 4 → (s.psCh p).fade = none →
      Gives (.psOff p w) s (fun t => t.psState p = 5 ∧ (t.psCh p).fade = some (false, 0) ∧ (t.psCh p).offReq = true))
  ∧ (∀ (p : Fin 4) (w : BitVec 32) (s : State), s.NoAbort → s.on .pstage = true → s.psState p = 2 →
      Gives (.psOff p w) s (fun t => t.psState p = 6 ∧ t.get (R.PSC_STATUS_RESULT p) = 0))
  ∧ (∀ (w : BitVec 32) (s : State), s.NoAbort → s.on .pstage = true → w.toNat % 16 = 15 →
      Gives (.psEnableWrite w) s (fun t => t.get R.PS_CTRL_EN = 15 ∧ t.ps = s.ps))
  ∧ (∀ (p : Fin 4) (w : BitVec 32) (s : State), s.NoAbort → s.on .pstage = true → w.toNat % 16 = 15 - 2 ^ p.val → s.psState p = 2 →
      Gives (.psEnableWrite w) s (fun t => t.get R.PS_CTRL_EN = 15 - 2 ^ p.val ∧ t.psState p = 6))
  ∧ (∀ (p : Fin 4) (w : BitVec 32) (s : State), s.NoAbort → s.on .pstage = true → w.toNat.testBit p = true → s.psState p = 9 →
      Gives (.psClear w) s (fun t => t.psState p = 0 ∧ (t.psCh p).retries = [] ∧ t.get (R.PSC_STATUS_FAULT p) = 0
        ∧ t.get (R.PSC_STATUS_RETRIES p) = 0))
  ∧ (∀ (p : Fin 4) (va vb : Nat) (s : State), s.on .pstage = true → s.psState p = 1 → (s.psCh p).stopReq = false →
      30 * s.get R.PS_PVDD_V ≤ va * 8 → 30 * s.get R.PS_PVDD_V ≤ vb * 8 → va * 8 ≤ 50 * s.get R.PS_PVDD_V →
      vb * 8 ≤ 50 * s.get R.PS_PVDD_V →
      Gives (.psCmRampDone p va vb) s (fun t => t.psState p = 3 ∧ (t.psCh p).fade = none ∧ (t.psCh p).periods = 0))
  ∧ (∀ (p : Fin 4) (va vb : Nat) (s x : State), s.on .pstage = true → s.psState p = 1 → va * 8 < 30 * s.get R.PS_PVDD_V →
      x = s.psShutdown p (some 2) → Yields (.psCmRampDone p va vb) s x)
  ∧ (∀ (p : Fin 4) (va vb : Nat) (s : State), s.on .pstage = true → s.psState p = 6 →
      Gives (.psCmRampDone p va vb) s (fun t => t.psState p = 0 ∧ t.psCh p = { s.psCh p with pace := 2, half := 0, drive := .zero }))
  ∧ (∀ (p : Fin 4) (k : Nat) (s : State), s.on .pstage = true → s.psState p = 3 → (s.psCh p).fade = some (true, k) → 64 ≤ k →
      Gives (.psFadeDone p) s (fun t => t.psState p = 4 ∧ (t.psCh p).fade = none))
  ∧ (∀ (p : Fin 4) (k : Nat) (s : State), s.on .pstage = true → s.psState p = 5 → (s.psCh p).fade = some (false, k) → 64 ≤ k →
      Gives (.psFadeDone p) s (fun t => t.psState p = if (s.psCh p).offReq then 6 else 2))
  ∧ (∀ (p : Fin 4) (ma : Nat) (s : State), s.on .pstage = true → s.psState p = 4 → ma < s.ilimMa p → (s.psCh p).limited = 0 →
      Gives (.psSwitchingPeriod p ma) s (fun t => t.psState p = 4 ∧ t.psCh p = { s.psCh p with periods := (s.psCh p).periods + 1 }))
  ∧ (∀ (p : Fin 4) (ma : Nat) (s : State), s.on .pstage = true → s.psState p = 4 → s.ilimMa p ≤ ma →
      ones64 ((2 * (s.psCh p).limited + 1) % 2 ^ 64) < 16 →
      Gives (.psSwitchingPeriod p ma) s (fun t => t.psState p = 4 ∧ (t.psCh p).periods = (s.psCh p).periods + 1
        ∧ t.flag ((R.PSC_EVENT_EVENT p).bit 2) = true
        ∧ t.get (R.PSC_ILIM_CNT_COUNT p) = (s.get (R.PSC_ILIM_CNT_COUNT p) + 1) % 2 ^ 32))
  ∧ (∀ (p : Fin 4) (ma : Nat) (s : State), s.on .pstage = true → s.psState p = 4 → s.ilimMa p ≤ ma → (s.psCh p).limited = 2 ^ 15 - 1 →
      Gives (.psSwitchingPeriod p ma) s (fun t => t.psState p = 8 ∧ t.flag ((R.PSC_EVENT_EVENT p).bit 3) = true
        ∧ t.flag ((R.PSC_EVENT_EVENT p).bit 2) = true ∧ t.get (R.PSC_SHUT_CNT_COUNT p) = (s.get (R.PSC_SHUT_CNT_COUNT p) + 1) % 2 ^ 32
        ∧ t.get (R.PSC_ILIM_CNT_COUNT p) = (s.get (R.PSC_ILIM_CNT_COUNT p) + 1) % 2 ^ 32))
  ∧ (∀ (p : Fin 4) (va vb : F32) (s : State), s.on .pstage = true → s.psState p = 8 → (s.psCh p).fault = .classify →
      (s.psCh p).unmeasured = false → (s.psCh p).meas = some (va, vb) →
      Gives (.psClassifyDone p) s (fun t => t.get (R.PSC_STATUS_FAULT p) = s.psClass p va vb ∧ (t.psCh p).fault = .ramp
        ∧ t.flag ((R.PSC_EVENT_EVENT p).bit 4) = true))
  ∧ (∀ (p : Fin 4) (s : State), s.on .pstage = true → s.psState p = 8 → (s.psCh p).fault = .classify → (s.psCh p).unmeasured = true →
      Gives (.psClassifyDone p) s (fun t => t.get (R.PSC_STATUS_FAULT p) = 5 ∧ (t.psCh p).fault = .ramp))
  ∧ (∀ (p : Fin 4) (s : State), s.on .pstage = true → s.psState p = 8 → (s.psCh p).fault = .rest → (s.psCh p).retries.length = 8 →
      s.ps.relock = none →
      Gives (.psRetryDue p) s (fun t => t.psState p = 9 ∧ t.flag ((R.PSC_EVENT_EVENT p).bit 5) = true ∧ (t.psCh p).fault = .none))
  ∧ (∀ (p : Fin 4) (s : State), s.on .pstage = true → s.psState p = 8 → (s.psCh p).fault = .rest → (s.psCh p).retries.length < 8 →
      s.ps.relock = none →
      Gives (.psRetryDue p) s (fun t => t.psState p = 1 ∧ (t.psCh p).retries = 0 :: (s.psCh p).retries
        ∧ t.get (R.PSC_STATUS_RETRIES p) = (s.psCh p).retries.length + 1))
  ∧ (∀ (p : Fin 4) (s x : State), s.on .pstage = true → switching (s.psState p) = true → x = (s.psEvent p 13).psShutdown p (some 6) →
      Yields (.psLoopFault p) s x)

/-- Switching frequency, supply, pilot and temperature (R346 to R349, R351, R352, R361 to R364, R383).
Where the spec leaves a detail open, its clauses rest on log entries 215, 216, 217, the model's reading. -/
def Obligations.PowerStageWatches : Prop :=
  (∀ (j : Fin 8) (w : BitVec 32) (s x : State), s.NoAbort → s.on .pstage = true → x = (s.wr (R.PS_AM j) (w &&& 0xFFF)).kEval →
      Yields (.psKConfigWrite (some j) w) s (x.markDirty (R.PS_AM j)))
  ∧ (∀ (w : BitVec 32) (s : State), s.NoAbort → s.on .pstage = true → s.ams = [] → s.ps.relock = none →
      s.get R.PS_STATUS_K_NOW = max 15 (min 20 (R.PS_CFG_K.ofWord w)) →
      Gives (.psKConfigWrite none w) s (fun t => t.get R.PS_STATUS_K_NEXT = s.get R.PS_STATUS_K_NOW ∧ t.flag R.PS_STATUS_K_PENDING = false
        ∧ t.get R.PS_STATUS_CLEAR = 255 ∧ t.flag R.PS_STATUS_AM_CONFLICT = false ∧ t.ps = s.ps))
  ∧ (∀ (w : BitVec 32) (s x : State), s.NoAbort → s.on .pstage = true → x = (s.wr R.PS_CFG (w &&& 0x3FFFF)).kEval →
      Yields (.psKConfigWrite none w) s (x.markDirty R.PS_CFG))
  ∧ (∀ (k : Nat) (s : State), s.on .pstage = true → s.ps.relock = some k → (∀ p : Fin 4, (s.psCh p).waits = false) →
      Gives .psKRelockDone s (fun t => t.get R.PS_STATUS_K_NOW = k % 32 ∧ t.ps = { s.ps with relock := none }
        ∧ t.flag (R.PS_EVENT_EVENT.bit 0) = true))
  ∧ (∀ (s : State), s.on .pstage = true → s.flag R.PS_STATUS_K_PENDING = true → (∀ p : Fin 4, kHeld (s.psState p) = false) →
      Gives .psKPendingApply s (fun t => t.ps = { s.ps with relock := some (s.get R.PS_STATUS_K_NEXT) }
        ∧ t.flag R.PS_STATUS_K_PENDING = false))
  ∧ (∀ (v : BitVec 12) (p : Fin 4) (s : State), s.on .pstage = true → v.toNat < 1080 ∨ 3750 < v.toNat → s.psState p = 4 →
      Gives (.pvddFault v) s (fun t => t.psState p = 2 ∧ (t.psCh p).fade = none ∧ t.flag R.PS_STATUS_PVDD_OK = false
        ∧ t.get R.PS_PVDD_V = v.toNat ∧ t.flag (R.PS_EVENT_EVENT.bit (if v.toNat < 1080 then 3 else 4)) = true))
  ∧ (∀ (v : BitVec 12) (s : State), s.on .pstage = true →
      Gives (.pvddOkChange v) s (fun t => t.get R.PS_PVDD_V = v.toNat
        ∧ t.flag R.PS_STATUS_PVDD_OK = (decide (1150 ≤ v.toNat) && decide (v.toNat ≤ 3700)) ∧ t.ps = s.ps))
  ∧ (∀ (p : Fin 4) (s : State), s.on .pstage = true → s.psState p = 4 → s.flag (R.PSC_CFG_PILOT_EN p) = true → (s.psCh p).pilot = 0 →
      (s.psCh p).level = 0 →
      Gives (.pilotCycleStart p) s (fun t => (t.psCh p).pilot = 1 ∧ (t.psCh p).goal = 1 ∧ (t.psCh p).amp = max 20 (min 500 (s.get (R.PSC_PILOT_AMP p))) ∧ (t.psCh p).vals = [] ∧ t.regs = s.regs))
  ∧ (∀ (p : Fin 4) (s x : State), s.on .pstage = true → (s.psCh p).pilot = 1 ∨ (s.psCh p).pilot = 3 →
      x = s.setPsCh p { s.psCh p with pilot := (s.psCh p).pilot + 1 } →
      Yields (.pilotSettleDone p) s (x.prioAdd (s.get R.PS_CFG_MCV) p (16 + p)))
  ∧ (∀ (p : Fin 4) (s : State), s.on .pstage = true → (s.psCh p).pilot = 5 → (s.psCh p).spoiled = true →
      Gives (.pilotMeasureDone p) s (fun t => (t.psCh p).pilot = 0 ∧ (t.psCh p).vals = [] ∧ t.regs = s.regs))
  ∧ (∀ (p : Fin 4) (vp ip vm im : F32) (s : State), s.on .pstage = true → (s.psCh p).pilot = 5 → (s.psCh p).spoiled = false →
      (s.psCh p).vals = [vp, ip, vm, im] → (fop (fsub ip im).v).m ≠ 0 → s.flag (R.PSC_CFG_TLIM_EN p) = false →
      Gives (.pilotMeasureDone p) s (fun t => t.rd (R.PSC_RE_MEAS p) = (fdiv (fsub vp vm).v (fsub ip im).v).v
        ∧ t.flag (R.PSC_STATUS_RE_VALID p) = true ∧ t.flag ((R.PSC_EVENT_EVENT p).bit 11) = true ∧ (t.psCh p).pilot = 0))
  ∧ (∀ (ta : Int) (td : Option Int) (p : Fin 4) (s : State), s.pins.inReset = false → s.on .pstage = true → 123000 ≤ ta → s.flag R.PS_STATUS_DIE_HOT = false →
      s.psState p = 4 → (s.psCh p).fade = none →
      Gives (.dieTempSample ta td) s (fun t => t.meas.temp = ta ∧ t.flag R.PS_STATUS_DIE_HOT = true ∧ t.flag (R.PS_EVENT_EVENT.bit 6) = true
        ∧ t.psState p = 5 ∧ (t.psCh p).fade = some (false, 0)))
  ∧ (∀ (ta : Int) (s : State), s.pins.inReset = false → s.on .pstage = false → s.on .meas = false →
      Gives (.dieTempSample ta none) s (fun t => t.meas.temp = ta ∧ t.regs = s.regs))

/-! ## The measurement converters (chapter 14) -/

/-- Triggers, phases and results (R368 to R375): GO and automatic triggers begin a set with the factors in force or are missed, a
conversion passes through DELAY, SETTLE, INTEGRATE and RUNDOWN, and the last one writes the result registers at once. Scan,
checks, references and open-wire currents (R379 to R381, R384).
The clauses in which nothing happens where the moment of a row has not come are the model's choice (log entry 7).
Where the spec leaves a detail open, its clauses rest on log entries 220, 221, 222, 223, 224, 226, the model's reading. -/
def Obligations.ConvertersAct : Prop :=
  (∀ (c : Fin 4) (w : BitVec 32) (s : State), s.NoAbort → s.on .meas = true → w.toNat.testBit 2 = false → (s.mcv c).set.isSome = true →
      s.get (R.MCVC_CNT_MISS_CNT c) < 65535 →
      Gives (.mcvGo c w) s (fun t => t.get (R.MCVC_CNT_MISS_CNT c) = s.get (R.MCVC_CNT_MISS_CNT c) + 1
        ∧ t.flag ((R.MCVC_EVENT_EVENT c).bit 1) = true ∧ t.meas = s.meas))
  ∧ (∀ (c : Fin 4) (w : BitVec 32) (s : State), s.NoAbort → s.on .meas = true → w.toNat.testBit 2 = false → s.mcv c = {} →
      s.fbSettled c = true →
      Gives (.mcvGo c w) s (fun t => t.mcv c = { serving := 4, phase := .delay, set := some (s.newSet c .host (s.rd (R.MCVC_CFG c)) true) }
        ∧ t.get (R.MCVC_STATUS_STATE c) = 1 ∧ t.get (R.MCVC_STATUS_SERVING c) = 4))
  ∧ (∀ (c : Fin 4) (w : BitVec 32) (s : State), s.NoAbort → s.on .meas = true → w.toNat.testBit 2 = false → (s.mcv c).set = none →
      (s.mcv c).reserved = none →
      Gives (.mcvGo c w) s (fun t => (t.mcv c).set.map (fun x => (x.kind, x.cfg, x.delay)) = some (.host, s.rd (R.MCVC_CFG c), true)
        ∧ t.get (R.MCVC_CNT_MISS_CNT c) = s.get (R.MCVC_CNT_MISS_CNT c)))
  ∧ (∀ (c : Fin 4) (w : BitVec 32) (s : State), s.NoAbort → s.on .meas = true → w.toNat.testBit 2 = false → w.toNat.testBit 0 = false →
      Gives (.mcvRunWrite c w) s (fun t => t.rd (R.MCVC_CTRL c) = w &&& 2 ∧ t.meas = s.meas))
  ∧ (∀ (c : Fin 4) (w : BitVec 32) (s : State), s.NoAbort → s.on .meas = true → w.toNat.testBit 0 = false →
      s.flag R.MCV_REF_STATUS_BUF_READY = false →
      Gives (.mcvCal c w) s (fun t => t.flag ((R.MCVC_EVENT_EVENT c).bit 5) = true ∧ t.meas = s.meas))
  ∧ (∀ (c : Fin 4) (w : BitVec 32) (s : State), s.NoAbort → s.on .meas = true → w.toNat.testBit 0 = false →
      s.flag R.MCV_REF_STATUS_BUF_READY = true → s.flag R.MCV_REF_STATUS_BUF_FAULT = false → (s.mcv c).set.isSome = true →
      Gives (.mcvCal c w) s (fun t => t.mcv c = { s.mcv c with calReq := true } ∧ t.flag ((R.MCVC_EVENT_EVENT c).bit 5)
        = s.flag ((R.MCVC_EVENT_EVENT c).bit 5)))
  ∧ (∀ (c : Fin 4) (w : BitVec 32) (s : State), s.NoAbort → s.on .meas = true → w.toNat.testBit 0 = false →
      s.flag R.MCV_REF_STATUS_BUF_READY = true → s.flag R.MCV_REF_STATUS_BUF_FAULT = false → (s.mcv c).set = none →
      (s.mcv c).reserved = none → (s.mcv c).serving ≠ 6 →
      Gives (.mcvCal c w) s (fun t => (t.mcv c).set.map (·.kind) = some .cal ∧ (t.mcv c).calReq = false))
  ∧ (∀ (c : Fin 4) (s : State), s.on .meas = true → s.flag (R.MCVC_CTRL_RUN c) = true → s.trigOf c = 1 →
      Yields (.mcvTimerTrigger c) s (s.mcvTrigger c))
  ∧ (∀ (c : Fin 4) (s : State), s.flag (R.MCVC_CTRL_RUN c) = false → Yields (.mcvTimerTrigger c) s s)
  ∧ (∀ (c : Fin 4) (s : State), s.on .meas = true → s.flag (R.MCVC_CTRL_RUN c) = true → s.trigOf c = 2 →
      s.get (R.PSC_STATUS_STATE (s.get (R.MCVC_CFG_PSEL c))) = 4 → Yields (.mcvPwmTrigger c) s (s.mcvTrigger c))
  ∧ (∀ (c : Fin 4) (s : State), s.on .meas = true → s.flag (R.MCVC_CTRL_RUN c) = true → s.trigOf c = 2 →
      s.get (R.PSC_STATUS_STATE (s.get (R.MCVC_CFG_PSEL c))) = 0 → Yields (.mcvPwmTrigger c) s (s.mcvMiss c))
  ∧ (∀ (m : Fin 2) (level : Bool) (s : State), s.on .meas = true → level ≠ (s.mtrig m).level → (s.mtrig m).unstable = false →
      Gives (.mtrigEdge m level) s (fun t => t.mtrig m = { s.mtrig m with level, unstable := true } ∧ t.regs = s.regs))
  ∧ (∀ (m : Fin 2) (s : State), s.on .meas = true → (s.mtrig m).unstable = true →
      Gives (.mtrigAccept m) s (fun t => t.mtrig m = { s.mtrig m with unstable := false, accepted := (s.mtrig m).level }))
  ∧ (∀ (m : Fin 2) (s : State), s.on .meas = true → s.mtrig m = { level := true, accepted := false, unstable := true } →
      s.flag (R.MCVC_CTRL_RUN (2 + m)) = false →
      Gives (.mtrigAccept m) s (fun t => t.mtrig m = { level := true, accepted := true, unstable := false } ∧ t.regs = s.regs))
  ∧ (∀ (c : Fin 4) (x : McvSet) (s : State), (s.mcv c).set = some x → x.delay = true → (s.mcv c).phase = .delay →
      Gives (.mcvDelayDone c) s (fun t => t.mcv c = { s.mcv c with set := some { x with delay := false }, phase := .settle }))
  ∧ (∀ (c : Fin 4) (s : State), (s.mcv c).phase = .settle → s.flag R.MCV_REF_STATUS_BUF_READY = true →
      s.flag R.MCV_REF_STATUS_BUF_FAULT = false → (s.mcv c).serving = 1 →
      Gives (.mcvSettleDone c) s (fun t => (t.mcv c).phase = .integrate ∧ (t.mcv c).useFb = false
        ∧ (t.mcv c).tint = mainsCycle (s.get R.MCV_MAINS_FREQ) ∧ t.flag (R.MCVC_STATUS_REF_FB c) = false))
  ∧ (∀ (c : Fin 4) (s : State), (s.mcv c).phase = .settle → (s.mcv c).serving ≠ 5 →
      Gives (.mcvSettleDone c) s (fun t => (t.mcv c).phase = .integrate ∧ (t.mcv c).useFb =
        (!s.flag R.MCV_REF_STATUS_BUF_READY || s.flag R.MCV_REF_STATUS_BUF_FAULT || (s.mcv c).channel == 30)))
  ∧ (∀ (c : Fin 4) (s : State), (s.mcv c).phase = .integrate →
      Gives (.mcvIntegrateDone c) s (fun t => t.mcv c = { s.mcv c with phase := .rundown }))
  ∧ (∀ (c : Fin 4) (code : Int) (x : McvSet) (s : State), (s.mcv c).phase = .rundown → (s.mcv c).serving = 4 →
      (s.mcv c).set = some x → x.kind = .host → (s.mcv c).channel < 24 → -0x500000 ≤ code → code ≤ 0x500000 →
      x.codes.length + 1 < 2 ^ avgOf x.cfg →
      Gives (.mcvRundownDone c code) s (fun t => t.mcv c = { s.mcv c with set := some { x with codes := x.codes ++ [code] }, phase := .settle }
        ∧ t.rd (R.MCVC_RES_LO c) = s.rd (R.MCVC_RES_LO c)))
  ∧ (∀ (c : Fin 4) (code : Int) (x y : McvSet) (s : State), (s.mcv c).phase = .rundown → (s.mcv c).serving = 4 →
      (s.mcv c).set = some x → x.kind = .host → -0x500000 ≤ code → code ≤ 0x500000 → 2 ^ avgOf x.cfg ≤ x.codes.length + 1 →
      (s.mcv c).calReq = false → s.meas.plaus = [] → y = { x with codes := x.codes ++ [code] } →
      Gives (.mcvRundownDone c code) s (fun t => (t.mcv c).set = none ∧ t.rd (R.MCVC_RES_LO c) = (s.setResult c y).1
        ∧ t.flag ((R.MCVC_EVENT_EVENT c).bit 0) = true
        ∧ t.get (R.MCVC_DONE_CNT_COUNT c) = (s.get (R.MCVC_DONE_CNT_COUNT c) + 1) % 2 ^ 32
        ∧ t.get (R.MCVC_RES_HI_SEQ c) = (s.get (R.MCVC_RES_HI_SEQ c) + 1) % 256 ∧ t.flag (R.MCVC_RES_HI_VALID c) = true))
  ∧ (∀ (c i : Nat) (l : List Nat) (s : State), s.on .meas = true → s.flag R.MCV_OW_CFG_SCAN_EN = true → c = s.get R.MCV_OW_CFG_SCAN_MCV →
      s.mcv c = {} → s.fbSettled c = true →
      sel 16 (fun i => (s.get R.MCV_OW_STATUS_ON).testBit i && decide (15 < i)) ++ sel 16 (s.get R.MCV_OW_STATUS_ON).testBit = i :: l →
      Gives .mcvScanStart s (fun t => t.mcv c = { scan := some i, serving := 6, phase := .settle }))
  ∧ (∀ (s : State), s.flag R.MCV_OW_CFG_SCAN_EN = false → Yields .mcvScanStart s s)
  ∧ (∀ (k : Fin 2) (s x : State), s.on .meas = true → s.flag (R.MCV_PLAUS_CFG_EN k) = true →
      s.get (R.MCV_PLAUS_CFG_A k) ≠ s.get (R.MCV_PLAUS_CFG_B k) → (s.plausSt k).on = none →
      x = s.setPlaus k { fails := (s.plausSt k).fails, on := some (s.get (R.MCV_PLAUS_CFG_A k), s.get (R.MCV_PLAUS_CFG_B k)) } →
      Yields (.plausTick k) s ((x.mcvFree (s.get (R.MCV_PLAUS_CFG_A k))).mcvFree (s.get (R.MCV_PLAUS_CFG_B k))))
  ∧ (∀ (k : Fin 2) (s : State), s.flag (R.MCV_PLAUS_CFG_EN k) = false → Yields (.plausTick k) s s)
  ∧ (∀ (k : Fin 2) (a b : Nat) (s : State), (s.plausSt k).on = some (a, b) → (s.mcv a).reserved ≠ some k.val →
      Yields (.plausReserveTimeout k) s (s.plausSkip k))
  ∧ (∀ (k : Fin 2) (s : State), (s.plausSt k).on = none → Yields (.plausReserveTimeout k) s s)
  ∧ (∀ (w : BitVec 32) (s : State), s.NoAbort → s.on .meas = true → w.toNat.testBit 0 = false →
      Gives (.refBufEnable w) s (fun t => t.flag R.MCV_REF_CTRL_BUF_EN = false ∧ t.flag R.MCV_REF_STATUS_BUF_READY = false
        ∧ t.flag R.MCV_REF_STATUS_BUF_FAULT = false ∧ t.meas = s.meas))
  ∧ (∀ (w : BitVec 32) (s : State), s.NoAbort → s.on .meas = true → w.toNat.testBit 0 = true →
      Gives (.refBufEnable w) s (fun t => t.flag R.MCV_REF_CTRL_BUF_EN = true
        ∧ t.flag R.MCV_REF_STATUS_BUF_READY = s.flag R.MCV_REF_STATUS_BUF_READY ∧ t.meas = s.meas))
  ∧ (∀ (s : State), s.on .meas = true → s.flag R.MCV_REF_CTRL_BUF_EN = true →
      Gives .refBufReady s (fun t => t.flag R.MCV_REF_STATUS_BUF_READY = true ∧ t.flag (R.MCV_EVENT_EVENT.bit 0) = true ∧ t.meas = s.meas))
  ∧ (∀ (c : Fin 4) (s : State), s.on .meas = true → (s.mcv c).serving ≠ 0 →
      Gives (.fallbackSettled c) s (fun t => t.fbSettled c = true ∧ t.meas = s.meas))
  ∧ (∀ (c : Fin 4) (s : State), s.on .meas = true → Gives (.fallbackSettled c) s (fun t => t.fbSettled c = true))
  ∧ (∀ (i : Fin 16) (s : State), i.val ∈ s.meas.owRamp → i.val ∈ s.meas.owOn →
      Gives (.owRampDone i) s (fun t => t.meas = { s.meas with owRamp := dropFrom s.meas.owRamp i }
        ∧ (t.get R.MCV_OW_STATUS_ON).testBit i = true))
  ∧ (∀ (i : Fin 16) (s : State), i.val ∉ s.meas.owRamp → Yields (.owRampDone i) s s)

/-! ## Twin operation (chapter 15) -/

/-- Roles, the interlock and the vote (R391, R393, R395 to R402, R411, R450): commands of TWIN.CTRL, the twin link, heartbeats, OWN_IN, the
guard and the timers.
The clauses in which nothing happens where the moment of a row has not come are the model's choice (log entry 7).
Where the spec leaves a detail open, its clauses rest on log entries 230, 232, 234, 235, 237, the model's reading. -/
def Obligations.TwinRolesAct : Prop :=
  (∀ (w : BitVec 32) (s : State), s.NoAbort → s.twinState = 0 → s.regionsResult ≠ 0 →
      Gives (.twinModeTwin w) s (fun t => t.twinState = 0 ∧ t.get R.TWIN_IMG_STATUS_RESULT = s.regionsResult
        ∧ t.flag (R.TWIN_EVENT_EVENT.bit 9) = true))
  ∧ (∀ (w : BitVec 32) (s : State), s.NoAbort → s.twinState = 0 → s.regionsResult = 0 → s.ownIn = false →
      Gives (.twinModeTwin w) s (fun t => t.twinState = 1))
  ∧ (∀ (w : BitVec 32) (s : State), s.NoAbort → s.twinState = 0 → s.regionsResult = 0 → s.ownIn = true →
      Gives (.twinModeTwin w) s (fun t => t.twinState = 3))
  ∧ (∀ (w : BitVec 32) (s : State), s.NoAbort → s.ownIn = true →
      Gives (.twinModeSolo w) s (fun t => t.get R.TWIN_IMG_STATUS_RESULT = 4 ∧ t.twinState = s.twinState))
  ∧ (∀ (w : BitVec 32) (s : State), s.NoAbort → s.ownIn = false → s.twinState = 0 →
      Gives (.twinModeSolo w) s (fun t => t.twinState = 0 ∧ t.twin.written = true ∧ t.twin.ownOut = true))
  ∧ (∀ (w : BitVec 32) (s : State), s.NoAbort → s.ownIn = false → s.twinState ≠ 0 →
      Gives (.twinModeSolo w) s (fun t => t.twinState = 0))
  ∧ (∀ (s : State), s.twinState = 0 → Yields .twinLinkTrained s s)
  ∧ (∀ (s : State), s.pins.inReset = false → s.twinState = 2 → Gives .twinLinkTrained s (fun t => t.tlink = true ∧ t.twinState = 2))
  ∧ (∀ (s : State), s.pins.inReset = false → s.twinState = 2 →
      Gives .twinLinkDown s (fun t => t.tlink = false ∧ (t.chan 0).heard = false ∧ t.twinState = 2))
  ∧ (∀ (c : Fin 3) (hb : TwinHb) (ofs : Int) (s : State), s.hbAccepts c hb = false → Yields (.twinHeartbeatRx c hb ofs) s s)
  ∧ (∀ (c : Fin 3) (hb : TwinHb) (ofs : Int) (s : State), s.twinState = 2 → s.hbAccepts c hb = true → hb.flags.testBit 0 = s.ownIn →
      s.get (R.TWIN_HB_CNT_RX c) < 2 ^ 16 - 1 →
      Gives (.twinHeartbeatRx c hb ofs) s (fun t => (t.chan c).last = some hb.seq ∧ (t.chan c).heard = true ∧ (t.chan c).mismatch = 0
        ∧ t.twin.peerState = hb.state ∧ t.get R.TWIN_HEALTH_PEER = hb.health % 2 ^ 12
        ∧ t.get (R.TWIN_HB_CNT_RX c) = s.get (R.TWIN_HB_CNT_RX c) + 1 ∧ t.twinState = 2))
  ∧ (∀ (c : Fin 3) (hb : TwinHb) (ofs : Int) (s : State), s.twinState = 1 → s.hbAccepts c hb = true → [2, 4, 5, 7].contains hb.state = true →
      Gives (.twinHeartbeatRx c hb ofs) s (fun t => t.twinState = 3))
  ∧ (∀ (s x : State), s.twinState ≠ 0 → s.twin.silence = false → s.flag R.TWIN_CFG_HB_A_EN = false → s.flag R.TWIN_CFG_HB_B_EN = false →
      s.tlink = true → x = (s.setChan 0 { s.chan 0 with sent := ((s.chan 0).sent + 1) % 2 ^ 16 }).emit
        (twinLanes (twinBytes 1 ((s.hbFields (s.chan 0).sent).flatMap (fun e => (beBytes e.1 e.2).reverse)))) →
      Yields .heartbeatSend s x)
  ∧ (∀ (s : State), s.twinState = 0 → Yields .heartbeatSend s s)
  ∧ (∀ (c : Fin 3) (s : State), s.twinState = 2 → s.chanEnabled c = true → s.get (R.TWIN_HB_CNT_MISS c) < 2 ^ 16 - 1 →
      Gives (.heartbeatMiss c) s (fun t => (t.chan c).heard = false
        ∧ t.get (R.TWIN_HB_CNT_MISS c) = s.get (R.TWIN_HB_CNT_MISS c) + 1 ∧ t.twinState = 2))
  ∧ (∀ (c : Fin 3) (s x : State), s.twinState = 3 → s.chanEnabled c = true →
      x = ((s.setChan c { s.chan c with heard := false, mismatch := 0 }).countSat (R.TWIN_HB_CNT_MISS c)).twinCheck →
      Yields (.heartbeatMiss c) s x)
  ∧ (∀ (s : State), s.twinState = 0 → Yields .ownInRise s (s.raise R.TWIN_STATUS_OWN_IN))
  ∧ (∀ (s : State), s.twinState = 1 → Gives .ownInRise s (fun t => t.twinState = 3))
  ∧ (∀ (s : State), s.twinState = 2 → s.twin.guard = true → s.preferred = false → s.owns = false →
      Gives .ownInRise s (fun t => t.twin.ownOut = false ∧ t.twin.guard = false ∧ t.twin.want = true
        ∧ t.flag R.TWIN_STATUS_OWN_BLOCKED = true ∧ t.flag (R.TWIN_EVENT_EVENT.bit 4) = true ∧ t.twinState = 2))
  ∧ (∀ (s : State), s.twinState = 2 → s.twin.guard = false → s.owns = true → s.preferred = true →
      Gives .ownInRise s (fun t => t.flag (R.TWIN_EVENT_EVENT.bit 5) = true ∧ t.twinState = 2 ∧ t.owns = true))
  ∧ (∀ (s : State), s.twinState = 2 → s.twin.guard = false → s.owns = true → s.preferred = false →
      Gives .ownInRise s (fun t => t.twinState = 3))
  ∧ (∀ (s : State), s.twin.want = true → s.twin.guard = false → s.owns = false →
      Gives .ownInFall s (fun t => t.ownIn = false ∧ t.twin.ownOut = true ∧ t.twin.guard = true ∧ t.twin.want = false
        ∧ t.flag R.TWIN_STATUS_OWN_BLOCKED = false))
  ∧ (∀ (s : State), s.twin.want = false → Yields .ownInFall s (s.clr R.TWIN_STATUS_OWN_IN))
  ∧ (∀ (s x : State), s.twin.guard = true → s.ownIn = false → s.twin.take = none →
      x = { s with twin := { s.twin with guard := false } } → Yields .ownGuardExpire s (x.ownSet true))
  ∧ (∀ (s : State), s.twin.guard = false → s.twin.take = none → Yields .ownGuardExpire s s)
  ∧ (∀ (s : State), s.twinState = 1 → (∀ c : Fin 3, (s.chan c).heard = false) → s.ownIn = false → s.twin.guard = false → s.owns = false →
      Gives .pairingTimeout s (fun t => t.twinState = 2 ∧ t.twin.ownOut = true ∧ t.twin.guard = true))
  ∧ (∀ (s : State), s.twinState = 1 → (∀ c : Fin 3, (s.chan c).heard = false) →
      Gives .pairingTimeout s (fun t => t.twinState = 2 ∧ t.twin.warm = false))
  ∧ (∀ (c : Fin 3) (s : State), s.twinState = 4 → s.ownIn = true → s.chanAlive c = true → (s.chan c).state = 2 →
      Gives .takeoverYieldTimeout s (fun t => t.twinState = 3))
  ∧ (∀ (s : State), s.twin.silence = false → Yields .warmTwinSilenceEnd s s)
  ∧ (∀ (s x : State), s.twin.silence = true → x = { s with twin := { s.twin with silence := false, warm := true } } →
      Yields .warmTwinSilenceEnd s x.enterPairing)
  ∧ (∀ (c : Fin 3) (s : State), s.twinState = 1 → s.twin.warm = true → s.chanAlive c = true → (s.chan c).state = 3 →
      Gives .warmPairingResume s (fun t => t.twinState = 2 ∧ t.twin.warm = false))

/-- Handovers (R393, R408, R409, R411): SWAP, CANCEL, the frames of a handover, its index H and its timers.
The clauses in which nothing happens where the moment of a row has not come are the model's choice (log entry 7).
Where the spec leaves a detail open, its clauses rest on log entries 231, 236, 238, 239, the model's reading. -/
def Obligations.TwinHandoversAct : Prop :=
  (∀ (w : BitVec 32) (s : State), s.NoAbort → s.twinState = 2 → s.mayYield = false →
      Gives (.twinSwap w) s (fun t => t.twinState = 2 ∧ t.flag (R.TWIN_EVENT_EVENT.bit 7) = true))
  ∧ (∀ (w : BitVec 32) (s : State), s.NoAbort → s.twinState = 2 → s.mayYield = true → (∀ c : Fin 3, s.chanAlive c = true) →
      w.toNat.testBit 4 = false →
      Gives (.twinSwap w) s (fun t => t.twinState = 7 ∧ t.twin.yieldAt = none))
  ∧ (∀ (w : BitVec 32) (s : State), s.NoAbort → s.twinState = 7 → w.toNat.testBit 2 = false →
      Gives (.twinCancel w) s (fun t => t.twinState = 2 ∧ t.twin.yieldAt = none ∧ t.flag (R.TWIN_EVENT_EVENT.bit 7) = true))
  ∧ (∀ (w : BitVec 32) (s x : State), s.NoAbort → s.twinState = 6 → w.toNat.testBit 2 = false →
      x = (((s.wr R.TWIN_CTRL (R.TWIN_CTRL_CANCEL.inWord (R.TWIN_CTRL_MODE.inWord w 1) 1 &&& 0xB)).handoverSend 3 0).twinEvent 7) →
      Yields (.twinCancel w) s (x.enterStandby.twinCheck.markDirty R.TWIN_CTRL))
  ∧ (∀ (s : State), s.mayYield = true →
      Gives .handoverRequestRx s (fun t => t.twinState = 7 ∧ t.twin.yieldAt = none))
  ∧ (∀ (s : State), s.mayYield = false → s.twinState ≠ 0 → Yields .handoverRequestRx s (s.twinEvent 7))
  ∧ (∀ (s : State), s.twinState = 0 → Yields .handoverRequestRx s s)
  ∧ (∀ (h : Nat) (s : State), s.twinState = 7 →
      Gives (.handoverReadyRx h) s (fun t => t.twin = { s.twin with yieldAt := some h } ∧ t.regs = s.regs))
  ∧ (∀ (h : Nat) (s : State), s.twinState ≠ 7 → Yields (.handoverReadyRx h) s s)
  ∧ (∀ (s : State), s.twinState = 7 →
      Gives .handoverCancelRx s (fun t => t.twinState = 2 ∧ t.flag (R.TWIN_EVENT_EVENT.bit 7) = true))
  ∧ (∀ (s : State), s.twinState = 6 → Gives .handoverCancelRx s (fun t => t.twinState = 3))
  ∧ (∀ (s : State), s.twinState ≠ 6 → s.twinState ≠ 7 → Yields .handoverCancelRx s s)
  ∧ (∀ (s x : State), s.twinState = 3 → s.tlink = true → s.flag R.TWIN_STATUS_IMG_VALID = true → s.inhibited = false →
      x = s.enterPrepare (s.twin.peerState == 5) → Yields .handoverSwapReqRx s x)
  ∧ (∀ (s : State), s.twinState = 3 → s.flag R.TWIN_STATUS_IMG_VALID = false → Yields .handoverSwapReqRx s (s.twinEvent 7))
  ∧ (∀ (s : State), s.twinState = 5 → s.healthy = true →
      Gives .checkingEnd s (fun t => t.twinState = 2 ∧ t.twin.byHealth = false))
  ∧ (∀ (s : State), s.twinState = 5 → s.healthy = false → s.twin.byHealth = true →
      Gives .checkingEnd s (fun t => t.twinState = 2 ∧ t.flag (R.TWIN_EVENT_EVENT.bit 8) = true))
  ∧ (∀ (s : State), s.twinState = 6 → s.twin.take = none → Gives .prepareTimeout s (fun t => t.twinState = 3))
  ∧ (∀ (s : State), s.twinState = 7 → s.twin.yieldAt = none →
      Gives .prepareTimeout s (fun t => t.twinState = 2 ∧ t.flag (R.TWIN_EVENT_EVENT.bit 7) = true))
  ∧ (∀ (h : Nat) (s x : State), s.twinState = 7 → s.twin.yieldAt = some h → h ≤ s.time.index →
      x = ((s.twinEvent 6).countSat R.TWIN_CNT_HANDOVERS).standbyState → Yields .handoverIndexH s x.standbyActs)
  ∧ (∀ (s : State), s.twinState = 5 → s.healthy = false → s.twin.byHealth = false → s.twin.failed = false →
      s.flag R.TWIN_STATUS_PEER_HEALTHY = true → s.peerImage = true → s.mayYield = false →
      Gives .checkingEnd s (fun t => t.twinState = 2 ∧ t.flag (R.TWIN_EVENT_EVENT.bit 7) = true ∧ t.flag (R.TWIN_EVENT_EVENT.bit 8) = true))
  ∧ (∀ (h : Nat) (s : State), s.twin.yieldAt = some h → s.time.index < h → Yields .handoverIndexH s s)
  ∧ (∀ (s x : State), s.twinState = 3 → s.preferred = true → s.get R.TWIN_CFG_REVERT_HOLD ≠ 0 → s.twin.failed = false →
      s.twin.peerState = 2 → s.flag R.TWIN_STATUS_PEER_HEALTHY = true → s.tlink = true → s.flag R.TWIN_STATUS_IMG_VALID = true →
      s.healthy = true → s.inhibited = false → x = (s.handoverSend 1 0).enterPrepare false → Yields .revertHoldExpire s x)
  ∧ (∀ (s : State), s.preferred = false → Yields .revertHoldExpire s s)
  ∧ (∀ (s : State), s.twinState = 2 → s.mayYield = true → s.get R.TWIN_CFG_NET_YIELD ≠ 0 → s.linkIsUp 0 = false → s.linkIsUp 1 = false →
      s.flag R.TWIN_STATUS_PEER_HEALTHY = true → s.get R.TWIN_HEALTH_PEER / 2 % 4 ≠ 0 →
      Gives .netYieldExpire s (fun t => t.twinState = 7 ∧ t.twin.yieldAt = none))
  ∧ (∀ (s : State), s.linkIsUp 0 = true → Yields .netYieldExpire s s)

/-- The state image (R402 to R407): pushes of the active unit, pages and commits at the standby, and the restore of a takeover.
The clauses in which nothing happens where the moment of a row has not come are the model's choice (log entry 7).
Where the spec leaves a detail open, its clauses rest on log entries 240, 241, 242, 244, 245, the model's reading. -/
def Obligations.ImageTravels : Prop :=
  (∀ (s : State), s.pushes = true → s.tlink = true → s.twin.sent = none → s.atBoundary = true → s.time.begun = true →
      Gives .imagePush s (fun t => t.get R.TWIN_IMG_SEQ_PUSH = (s.get R.TWIN_IMG_SEQ_PUSH + 1) % 2 ^ 16
        ∧ t.twin.sent = some ((s.get R.TWIN_IMG_SEQ_PUSH + 1) % 2 ^ 16, s.twin.dirty.take 127, s.time.index / 8 % 2 ^ 32)
        ∧ t.twin.dirty = s.twin.dirty.drop 127))
  ∧ (∀ (s : State), s.pushes = true → s.tlink = true → s.atBoundary = false →
      Yields .imagePush s { s with twin := { s.twin with pushDue := true } })
  ∧ (∀ (s : State), s.pushes = false → Yields .imagePush s s)
  ∧ (∀ (push : BitVec 16) (l : List (Nat × Nat)) (k : Nat) (s : State), s.pushes = true → s.tlink = true →
      s.twin.sent = some (push.toNat, l, k) →
      Gives (.twinAckRx push) s (fun t => t.twin = { s.twin with sent := none, unacked := s.twin.unacked.filter (fun e => e.2 != k) }
        ∧ t.get R.TWIN_IMG_SEQ_ACKED = push.toNat))
  ∧ (∀ (push : BitVec 16) (s : State), s.twin.sent = none → Yields (.twinAckRx push) s s)
  ∧ (∀ (words : List (BitVec 32)) (s : State), Yields (.twinPageRx false words) s s)
  ∧ (∀ (words : List (BitVec 32)) (s : State), s.takesImage = true → words.length = 256 → (pageKey words).1 = 1 →
      bitsOf ((words[3]?).getD 0).toNat 31 16 = pageCrc words → bitsOf ((words[3]?).getD 0).toNat 15 0 ≠ s.twin.stagedPush →
      Gives (.twinPageRx true words) s (fun t => t.twin.staged = [words] ∧ t.twin.commit = none ∧ t.twin.store = s.twin.store
        ∧ t.twin.stagedPush = bitsOf ((words[3]?).getD 0).toNat 15 0 ∧ t.regs = s.regs))
  ∧ (∀ (words : List (BitVec 32)) (s : State), s.takesImage = true → words.length = 256 → (pageKey words).1 = 1 →
      bitsOf ((words[3]?).getD 0).toNat 31 16 = pageCrc words → bitsOf ((words[3]?).getD 0).toNat 15 0 = s.twin.stagedPush →
      s.twin.commit = none → (putPage s.twin.staged words).length ≤ 128 →
      Yields (.twinPageRx true words) s { s with twin := { s.twin with staged := putPage s.twin.staged words } })
  ∧ (∀ (push pages total : BitVec 16) (s : State), s.twinState = 3 → s.tlink = true → s.twin.stagedPush = push.toNat →
      s.twin.staged.length = pages.toNat →
      Gives (.twinCommitRx push pages total) s (fun t => t.twin.store = s.twin.staged.foldl putPage s.twin.store ∧ t.twin.staged = []
        ∧ t.twin.commit = none ∧ t.twin.total = total.toNat ∧ t.get R.TWIN_IMG_SEQ_PUSH = push.toNat))
  ∧ (∀ (push pages total : BitVec 16) (s : State), s.takesImage = true → s.twin.stagedPush = push.toNat →
      s.twin.staged.length < pages.toNat →
      Gives (.twinCommitRx push pages total) s (fun t => t.twin.store = s.twin.store
        ∧ t.twin.commit = some (push.toNat, pages.toNat, total.toNat) ∧ t.regs = s.regs))
  ∧ (∀ (tk : TwinTake) (k j : Fin 32) (s x : State), s.twinState = 4 ∨ s.twinState = 6 → s.twin.take = some tk → tk.restored = false → tk.ran = false →
      s.regions.find? (fun i => tk.next ≤ i) = some k.val → s.regionOn k = true → k.val < j.val → s.flag (R.REGION_BASE_EN j) = true →
      (s.restoreRegion k).regions = s.regions → x = (s.restoreRegion k).setTake { tk with next := k.val + 1 } →
      Yields .takeoverRegionRestore s x)
  ∧ (∀ (tk : TwinTake) (s : State), s.twinState = 4 ∨ s.twinState = 6 → s.twin.take = some tk → tk.restored = false → tk.ran = false →
      (∀ k : Fin 32, s.flag (R.REGION_BASE_EN k) = true → k.val < tk.next) →
      Yields .takeoverRegionRestore s (s.takeMem tk))
  ∧ (∀ (s : State), s.twin.take = none → Yields .takeoverRegionRestore s s)
  ∧ (∀ (tm : BitVec 16) (tk : TwinTake) (s x y : State), s.twinState = 4 → s.owns = true → s.twin.take = some tk → tk.ran = true →
      tk.start = none → s.arming = false → y = (if s.leftOut tk.record then s.unitsRefused else s) →
      x = (y.startWrite 3).setTake { tk with start := some s.nextBoundary, time := tm.toNat } → Yields (.takeoverArmStart tm) s x)

/-! ## Management (chapter 16) -/

/-- The mailbox and the management processor's control and start (R414 to R417, R426 to R431, R444): a command sets BUSY, and its end answers
STATUS, TAG, RLEN and the response.
The clauses in which nothing happens where the moment of a row has not come are the model's choice (log entry 7).
Where the spec leaves a detail open, its clauses rest on log entries 252, 253, 254, 255, the model's reading. -/
def Obligations.MailboxAndProcessor : Prop :=
  (∀ (p : Fin 4) (w : BitVec 32) (s : State), s.NoAbort → s.flag R.MP_MB_STATUS_BUSY = false →
      Gives (.mbGetInfo p w) s (fun t => t.mgmt = { s.mgmt with cmd := some (1, R.MP_MB_CMD_LEN.ofWord w, R.MP_MB_CMD_TAG.ofWord w) }
        ∧ t.flag R.MP_MB_STATUS_BUSY = true ∧ t.flag R.MP_MB_STATUS_REFUSED = false ∧ t.get R.MP_MB_STATUS_PORT = p))
  ∧ (∀ (p : Fin 4) (w : BitVec 32) (s : State), s.NoAbort → s.flag R.MP_MB_STATUS_BUSY = false →
      Gives (.mbLogRead p w) s (fun t => t.mgmt = { s.mgmt with cmd := some (2, R.MP_MB_CMD_LEN.ofWord w, R.MP_MB_CMD_TAG.ofWord w) }
        ∧ t.flag R.MP_MB_STATUS_BUSY = true ∧ t.flag R.MP_MB_STATUS_REFUSED = false ∧ t.get R.MP_MB_STATUS_PORT = p))
  ∧ (∀ (p : Fin 4) (w : BitVec 32) (s : State), s.NoAbort → s.flag R.MP_MB_STATUS_BUSY = false →
      Gives (.mbLogMark p w) s (fun t => t.mgmt = { s.mgmt with cmd := some (3, R.MP_MB_CMD_LEN.ofWord w, R.MP_MB_CMD_TAG.ofWord w) }
        ∧ t.flag R.MP_MB_STATUS_BUSY = true ∧ t.flag R.MP_MB_STATUS_REFUSED = false ∧ t.get R.MP_MB_STATUS_PORT = p))
  ∧ (∀ (p : Fin 4) (w : BitVec 32) (s : State), s.NoAbort → s.flag R.MP_MB_STATUS_BUSY = false →
      Gives (.mbFwBegin p w) s (fun t => t.mgmt = { s.mgmt with cmd := some (16, R.MP_MB_CMD_LEN.ofWord w, R.MP_MB_CMD_TAG.ofWord w) }
        ∧ t.flag R.MP_MB_STATUS_BUSY = true ∧ t.flag R.MP_MB_STATUS_REFUSED = false ∧ t.get R.MP_MB_STATUS_PORT = p))
  ∧ (∀ (p : Fin 4) (w : BitVec 32) (s : State), s.NoAbort → s.flag R.MP_MB_STATUS_BUSY = false →
      Gives (.mbFwWrite p w) s (fun t => t.mgmt = { s.mgmt with cmd := some (17, R.MP_MB_CMD_LEN.ofWord w, R.MP_MB_CMD_TAG.ofWord w) }
        ∧ t.flag R.MP_MB_STATUS_BUSY = true ∧ t.flag R.MP_MB_STATUS_REFUSED = false ∧ t.get R.MP_MB_STATUS_PORT = p))
  ∧ (∀ (p : Fin 4) (w : BitVec 32) (s : State), s.NoAbort → s.flag R.MP_MB_STATUS_BUSY = false →
      Gives (.mbFwVerify p w) s (fun t => t.mgmt = { s.mgmt with cmd := some (18, R.MP_MB_CMD_LEN.ofWord w, R.MP_MB_CMD_TAG.ofWord w) }
        ∧ t.flag R.MP_MB_STATUS_BUSY = true ∧ t.flag R.MP_MB_STATUS_REFUSED = false ∧ t.get R.MP_MB_STATUS_PORT = p))
  ∧ (∀ (p : Fin 4) (w : BitVec 32) (s : State), s.NoAbort → s.flag R.MP_MB_STATUS_BUSY = false →
      Gives (.mbFwActivate p w) s (fun t => t.mgmt = { s.mgmt with cmd := some (19, R.MP_MB_CMD_LEN.ofWord w, R.MP_MB_CMD_TAG.ofWord w) }
        ∧ t.flag R.MP_MB_STATUS_BUSY = true ∧ t.flag R.MP_MB_STATUS_REFUSED = false ∧ t.get R.MP_MB_STATUS_PORT = p))
  ∧ (∀ (p : Fin 4) (w : BitVec 32) (s : State), s.NoAbort → s.flag R.MP_MB_STATUS_BUSY = false →
      Gives (.mbFwConfirm p w) s (fun t => t.mgmt = { s.mgmt with cmd := some (20, R.MP_MB_CMD_LEN.ofWord w, R.MP_MB_CMD_TAG.ofWord w) }
        ∧ t.flag R.MP_MB_STATUS_BUSY = true ∧ t.flag R.MP_MB_STATUS_REFUSED = false ∧ t.get R.MP_MB_STATUS_PORT = p))
  ∧ (∀ (p : Fin 4) (w : BitVec 32) (s : State), s.NoAbort → s.flag R.MP_MB_STATUS_BUSY = false →
      mbOps.contains (w.toNat % 256) = false →
      Gives (.mbUnknownOp p w) s (fun t => t.flag R.MP_MB_STATUS_BUSY = true ∧ t.get R.MP_MB_STATUS_PORT = p
        ∧ t.mgmt = { s.mgmt with cmd := some (w.toNat % 256, R.MP_MB_CMD_LEN.ofWord w, R.MP_MB_CMD_TAG.ofWord w) }))
  ∧ (∀ (p : Fin 4) (w : BitVec 32) (s : State), s.NoAbort → s.flag R.MP_MB_STATUS_BUSY = true →
      Gives (.mbGetInfo p w) s (fun t => t.mgmt = s.mgmt ∧ t.flag R.MP_MB_STATUS_REFUSED = true
        ∧ t.flag (R.MP_EVENT_EVENT.bit 1) = true))
  ∧ (∀ (ok : Bool) (bad : BitVec 32) (len tag : Nat) (op : Nat) (s : State), s.mpRuns = true → s.mgmt.cmd = some (op, len, tag) → mbOps.contains op = false → tag < 256 →
      Gives (.mbCommandDone ok bad) s (fun t => t.flag R.MP_MB_STATUS_BUSY = false ∧ t.get R.MP_MB_STATUS_STATUS = 1
        ∧ t.get R.MP_MB_STATUS_TAG = tag ∧ t.get R.MP_MB_STATUS_RLEN = 0 ∧ t.mgmt.cmd = none))
  ∧ (∀ (ok : Bool) (bad : BitVec 32) (len tag : Nat) (op : Nat) (s : State), s.mpRuns = true → s.mgmt.cmd = some (op, len, tag) → mbOps.contains op = true → 16 < len → tag < 256 →
      Gives (.mbCommandDone ok bad) s (fun t => t.flag R.MP_MB_STATUS_BUSY = false ∧ t.get R.MP_MB_STATUS_STATUS = 2
        ∧ t.get R.MP_MB_STATUS_TAG = tag ∧ t.get R.MP_MB_STATUS_RLEN = 0 ∧ t.mgmt.cmd = none))
  ∧ (∀ (ok : Bool) (bad : BitVec 32) (len tag : Nat) (s : State), s.mpRuns = true → s.mgmt.cmd = some (1, len, tag) → len ≤ 16 → tag < 256 →
      Gives (.mbCommandDone ok bad) s (fun t => t.flag R.MP_MB_STATUS_BUSY = false ∧ t.get R.MP_MB_STATUS_STATUS = 0
        ∧ t.get R.MP_MB_STATUS_TAG = tag ∧ t.get R.MP_MB_STATUS_RLEN = 4 ∧ t.mgmt.cmd = none
        ∧ t.rd (R.MP_MB_RSP 0) = s.rd R.MP_FW_VER ∧ t.rd (R.MP_MB_RSP 2) = Config.freeWord s.mgmt.build))
  ∧ (∀ (ok : Bool) (bad : BitVec 32) (len tag : Nat) (s : State), s.mpRuns = true → s.mgmt.cmd = some (2, len, tag) → len ≤ 16 → (s.rd (R.MP_MB_ARG 1)).toNat = 0 → tag < 256 →
      Gives (.mbCommandDone ok bad) s (fun t => t.flag R.MP_MB_STATUS_BUSY = false ∧ t.get R.MP_MB_STATUS_STATUS = 2
        ∧ t.get R.MP_MB_STATUS_TAG = tag ∧ t.get R.MP_MB_STATUS_RLEN = 0 ∧ t.mgmt.cmd = none))
  ∧ (∀ (ok : Bool) (bad : BitVec 32) (len tag : Nat) (e : LogEntry) (s : State), s.mpRuns = true → s.mgmt.cmd = some (2, len, tag) → len ≤ 16 → (s.rd (R.MP_MB_ARG 1)).toNat = 1 →
      s.logFind (s.rd (R.MP_MB_ARG 0)).toNat = some e → tag < 256 →
      Gives (.mbCommandDone ok bad) s (fun t => t.flag R.MP_MB_STATUS_BUSY = false ∧ t.get R.MP_MB_STATUS_STATUS = 0
        ∧ t.get R.MP_MB_STATUS_TAG = tag ∧ t.get R.MP_MB_STATUS_RLEN = 8 ∧ t.mgmt.cmd = none
        ∧ (List.range 8).map (fun k => t.rd (R.MP_MB_RSP k)) = e.words))
  ∧ (∀ (ok : Bool) (bad : BitVec 32) (len tag : Nat) (s : State), s.mpRuns = true → s.mgmt.cmd = some (3, len, tag) → len ≤ 16 → (s.rd (R.MP_MB_ARG 2)).toNat < 2 ^ 16 → tag < 256 →
      Gives (.mbCommandDone ok bad) s (fun t => t.flag R.MP_MB_STATUS_BUSY = false ∧ t.get R.MP_MB_STATUS_STATUS = 0
        ∧ t.get R.MP_MB_STATUS_TAG = tag ∧ t.get R.MP_MB_STATUS_RLEN = 1 ∧ t.mgmt.cmd = none
        ∧ t.rd (R.MP_MB_RSP 0) = t.rd R.MP_LOG_HEAD ∧ t.get R.MP_LOG_HEAD_SEQ = (s.get R.MP_LOG_HEAD_SEQ + 1) % 2 ^ 32))
  ∧ (∀ (ok : Bool) (bad : BitVec 32) (len tag : Nat) (s : State), s.mpRuns = true → s.mgmt.cmd = some (3, len, tag) → len ≤ 16 → 2 ^ 16 ≤ (s.rd (R.MP_MB_ARG 2)).toNat → tag < 256 →
      Gives (.mbCommandDone ok bad) s (fun t => t.flag R.MP_MB_STATUS_BUSY = false ∧ t.get R.MP_MB_STATUS_STATUS = 2
        ∧ t.get R.MP_MB_STATUS_TAG = tag ∧ t.get R.MP_MB_STATUS_RLEN = 0 ∧ t.mgmt.cmd = none
        ∧ t.mgmt.ring = s.mgmt.ring))
  ∧ (∀ (bad : BitVec 32) (len tag : Nat) (s : State), s.mpRuns = true → s.mgmt.cmd = some (0x10, len, tag) → len ≤ 16 →
      256 ≤ (s.rd (R.MP_MB_ARG 0)).toNat → (s.rd (R.MP_MB_ARG 0)).toNat ≤ 786688 →
      Gives (.mbCommandDone true bad) s (fun t => t.get R.MP_MB_STATUS_STATUS = 0 ∧ t.rd (R.MP_MB_RSP 0) = BitVec.ofNat 32 s.inactive
        ∧ t.mgmt.begun = some (s.inactive, (s.rd (R.MP_MB_ARG 0)).toNat) ∧ t.mgmt.verified = false ∧ t.fwSlot s.inactive = {}
        ∧ t.fwSlot (1 - s.inactive) = s.fwSlot (1 - s.inactive)))
  ∧ (∀ (ok : Bool) (bad : BitVec 32) (len tag : Nat) (s : State), s.mpRuns = true → s.mgmt.cmd = some (0x11, len, tag) → len ≤ 16 → s.mgmt.begun = none → tag < 256 →
      Gives (.mbCommandDone ok bad) s (fun t => t.flag R.MP_MB_STATUS_BUSY = false ∧ t.get R.MP_MB_STATUS_STATUS = 3
        ∧ t.get R.MP_MB_STATUS_TAG = tag ∧ t.get R.MP_MB_STATUS_RLEN = 0 ∧ t.mgmt.cmd = none))
  ∧ (∀ (bad : BitVec 32) (len tag size : Nat) (k : Fin 2) (s : State), s.mpRuns = true → s.mgmt.cmd = some (0x11, len, tag) → len ≤ 16 →
      s.mgmt.begun = some (k.val, size) → (s.rd (R.MP_MB_ARG 1)).toNat = 4 → (s.rd (R.MP_MB_ARG 0)).toNat % 4 = 0 →
      (s.rd (R.MP_MB_ARG 0)).toNat + 4 ≤ size →
      Gives (.mbCommandDone true bad) s (fun t => t.get R.MP_MB_STATUS_STATUS = 0 ∧ t.mgmt.verified = false
        ∧ (t.fwSlot k).word (s.rd (R.MP_MB_ARG 0)).toNat = s.rd (R.MP_XFER 0)))
  ∧ (∀ (bad : BitVec 32) (len tag : Nat) (size : Nat) (k : Fin 2) (s : State), s.mpRuns = true → s.mgmt.cmd = some (0x12, len, tag) → len ≤ 16 → s.mgmt.begun = some (k.val, size) →
      s.imageStatus (s.fwSlot k) = 4 → tag < 256 →
      Gives (.mbCommandDone true bad) s (fun t => t.flag R.MP_MB_STATUS_BUSY = false ∧ t.get R.MP_MB_STATUS_STATUS = 4
        ∧ t.get R.MP_MB_STATUS_TAG = tag ∧ t.get R.MP_MB_STATUS_RLEN = 0 ∧ t.mgmt.cmd = none
        ∧ t.mgmt.verified = false ∧ t.fwSlot k = s.fwSlot k))
  ∧ (∀ (bad : BitVec 32) (len tag : Nat) (size : Nat) (k : Fin 2) (s : State), s.mpRuns = true → s.mgmt.cmd = some (0x12, len, tag) → len ≤ 16 → s.mgmt.begun = some (k.val, size) →
      s.imageStatus (s.fwSlot k) = 0 → tag < 256 →
      Gives (.mbCommandDone true bad) s (fun t => t.flag R.MP_MB_STATUS_BUSY = false ∧ t.get R.MP_MB_STATUS_STATUS = 0
        ∧ t.get R.MP_MB_STATUS_TAG = tag ∧ t.get R.MP_MB_STATUS_RLEN = 2 ∧ t.mgmt.cmd = none
        ∧ t.mgmt.verified = true ∧ t.fwState k = 1))
  ∧ (∀ (bad : BitVec 32) (len tag size : Nat) (k : Fin 2) (s : State), s.mpRuns = true → s.mgmt.cmd = some (0x12, len, tag) → len ≤ 16 →
      s.mgmt.begun = some (k.val, size) → tag < 256 →
      Gives (.mbCommandDone false bad) s (fun t => t.flag R.MP_MB_STATUS_BUSY = false ∧ t.get R.MP_MB_STATUS_STATUS = 7
        ∧ t.get R.MP_MB_STATUS_TAG = tag ∧ t.get R.MP_MB_STATUS_RLEN = 0 ∧ t.mgmt = { s.mgmt with cmd := none, verified := false }))
  ∧ (∀ (bad : BitVec 32) (len tag : Nat) (size : Nat) (k : Fin 2) (s : State), s.mpRuns = true → s.mgmt.cmd = some (0x13, len, tag) → len ≤ 16 → s.mgmt.begun = some (k.val, size) →
      s.mgmt.verified = true → tag < 256 →
      Gives (.mbCommandDone true bad) s (fun t => t.flag R.MP_MB_STATUS_BUSY = false ∧ t.get R.MP_MB_STATUS_STATUS = 0
        ∧ t.get R.MP_MB_STATUS_TAG = tag ∧ t.get R.MP_MB_STATUS_RLEN = 0 ∧ t.mgmt.cmd = none
        ∧ t.mgmt.begun = none ∧ t.fwState k = 2))
  ∧ (∀ (bad : BitVec 32) (len tag size : Nat) (k : Fin 2) (s : State), s.mpRuns = true → s.mgmt.cmd = some (0x13, len, tag) → len ≤ 16 →
      s.mgmt.begun = some (k.val, size) → s.mgmt.verified = true → tag < 256 →
      Gives (.mbCommandDone false bad) s (fun t => t.get R.MP_MB_STATUS_STATUS = 7 ∧ t.get R.MP_MB_STATUS_TAG = tag
        ∧ t.mgmt.begun = s.mgmt.begun ∧ t.mgmt.verified = true))
  ∧ (∀ (ok : Bool) (bad : BitVec 32) (len tag : Nat) (s : State), s.mpRuns = true → s.mgmt.cmd = some (0x14, len, tag) → len ≤ 16 → s.flag R.MP_STATUS_TRIAL = false → tag < 256 →
      Gives (.mbCommandDone ok bad) s (fun t => t.flag R.MP_MB_STATUS_BUSY = false ∧ t.get R.MP_MB_STATUS_STATUS = 3
        ∧ t.get R.MP_MB_STATUS_TAG = tag ∧ t.get R.MP_MB_STATUS_RLEN = 0 ∧ t.mgmt.cmd = none
        ∧ t.fwSlot 0 = s.fwSlot 0 ∧ t.fwSlot 1 = s.fwSlot 1))
  ∧ (∀ (bad : BitVec 32) (len tag : Nat) (k : Fin 2) (s : State), s.mpRuns = true → s.mgmt.cmd = some (0x14, len, tag) → len ≤ 16 → s.flag R.MP_STATUS_TRIAL = true →
      s.get R.MP_STATUS_SLOT = k.val → s.get R.MP_FW_SVN_IMG ≤ s.fuseSvn → s.mgmt.svnDue = 0 → tag < 256 →
      Gives (.mbCommandDone true bad) s (fun t => t.flag R.MP_MB_STATUS_BUSY = false ∧ t.get R.MP_MB_STATUS_STATUS = 0
        ∧ t.get R.MP_MB_STATUS_TAG = tag ∧ t.get R.MP_MB_STATUS_RLEN = 0 ∧ t.mgmt.cmd = none
        ∧ t.fwState k = 4 ∧ t.fwState (1 - k.val) = 1 ∧ t.flag R.MP_STATUS_TRIAL = false))
  ∧ (∀ (ok : Bool) (bad : BitVec 32) (s : State), s.mgmt.cmd = none → Yields (.mbCommandDone ok bad) s s)
  ∧ (∀ (w : BitVec 32) (s : State), s.NoAbort → w.toNat.testBit 1 = false → s.get R.MP_STATUS_STATE ≠ 2 → s.mgmt.cmd = none →
      Gives (.mpHalt w) s (fun t => t.get R.MP_STATUS_STATE = 2 ∧ t.mgmt = { s.mgmt with before := s.get R.MP_STATUS_STATE }
        ∧ t.flag R.MP_CTRL_HALT = true))
  ∧ (∀ (w : BitVec 32) (op len tag : Nat) (s : State), s.NoAbort → w.toNat.testBit 1 = false → s.get R.MP_STATUS_STATE ≠ 2 →
      s.mgmt.cmd = some (op, len, tag) → tag < 256 →
      Gives (.mpHalt w) s (fun t => t.get R.MP_STATUS_STATE = 2 ∧ t.mgmt.cmd = none ∧ t.get R.MP_MB_STATUS_STATUS = 9
        ∧ t.flag R.MP_MB_STATUS_BUSY = false ∧ t.get R.MP_MB_STATUS_TAG = tag))
  ∧ (∀ (w : BitVec 32) (s : State), s.NoAbort → w.toNat.testBit 0 = false →
      Gives (.mpRestart w) s (fun t => t.get R.MP_STATUS_STATE = 0 ∧ t.mgmt.booting = true ∧ t.mgmt.cmd = none ∧ t.mgmt.begun = none
        ∧ t.mgmt.verified = false ∧ t.get R.MP_LOG_HEAD_SEQ = 0))
  ∧ (∀ (pc : BitVec 32) (s : State), s.pins.inReset = false → Gives (.mpWatchdogExpire pc) s (fun t => t.get R.MP_STATUS_STATE = 0 ∧ t.mgmt.booting = true
        ∧ t.mgmt.wdog = some pc ∧ t.flag (R.MP_EVENT_EVENT.bit 13) = true ∧ (t.rd R.SYS_RESET_CAUSE).toNat.testBit 5 = true))
  ∧ (∀ (bad : BitVec 32) (s : State), s.pins.inReset = false → s.mgmt.booting = true → s.get R.MP_STATUS_STATE = 0 → s.mgmt.recovery = true →
      Gives (.mpBootDone bad) s (fun t => t.mgmt = { s.mgmt with booting := false, recovery := false, serving := true }
        ∧ t.get R.MP_STATUS_STATE = 0))
  ∧ (∀ (bad : BitVec 32) (s : State), s.pins.inReset = false → s.mgmt.booting = true → s.get R.MP_STATUS_STATE = 0 → s.mgmt.recovery = false →
      s.fwState 0 = 0 → s.fwState 1 = 0 →
      Gives (.mpBootDone bad) s (fun t => t.mgmt = { s.mgmt with booting := false } ∧ t.get R.MP_STATUS_STATE = 3))
  ∧ (∀ (bad : BitVec 32) (s : State), s.pins.inReset = false → s.mgmt.booting = true → s.get R.MP_STATUS_STATE = 0 → s.mgmt.recovery = false →
      s.fwState 0 = 4 → s.fwState 1 = 0 → s.imageStatus s.mgmt.slotA = 0 → s.mgmt.svnDue = 0 →
      (∀ n : Fin 16, s.get (R.MP_GPIO_CFG_ACTION n) ≠ 1) →
      Gives (.mpBootDone bad) s (fun t => t.get R.MP_STATUS_STATE = 1 ∧ t.get R.MP_STATUS_SLOT = 0 ∧ t.flag R.MP_STATUS_TRIAL = false
        ∧ t.flag R.MP_STATUS_FALLBACK = false ∧ t.mgmt.boots = (s.mgmt.boots + 1) % 2 ^ 16 ∧ t.mgmt.booting = false
        ∧ t.rd R.MP_FW_VER = s.mgmt.slotA.word 8))

/-- Sensors, the flash copy of the log, and GPIO edges (R418 to R423). Fuses (R432 to R434): a bit only goes from 0 to 1.
The clauses in which nothing happens where the moment of a row has not come are the model's choice (log entry 7).
Where the spec leaves a detail open, its clauses rest on log entries 251, 258, 259, 260, 261, the model's reading. -/
def Obligations.SensorsPinsAndFuses : Prop :=
  (∀ (temps supplies : List (BitVec 16)) (s : State), s.mpRuns = false → Yields (.sensorPoll temps supplies) s s)
  ∧ (∀ (r : BitVec 16) (s : State), s.mpRuns = true →
      Gives (.sensorPoll [r] []) s (fun t => t.get (R.MP_TEMP_T 0) = r.toNat ∧ t.flag (R.MP_TEMP_VALID 0) = true))
  ∧ (∀ (r : BitVec 16) (s : State), s.mpRuns = true → look 0 s.mgmt.breach 0 = 1 → (s.rd R.MP_ALARM_STATUS).toNat.testBit 0 = false →
      8 * sgn 8 (s.get (R.MP_TEMP_THR_WARN 0)) ≤ r.toInt →
      Gives (.sensorPoll [r] []) s (fun t => t.get (R.MP_TEMP_T 0) = r.toNat ∧ (t.rd R.MP_ALARM_STATUS).toNat.testBit 0 = true
        ∧ t.flag (R.MP_EVENT_EVENT.bit 8) = true))
  ∧ (∀ (s : State), s.mgmt.uncopied = 0 → Yields .logFlashCopy s s)
  ∧ (∀ (e : LogEntry) (k : Nat) (s : State), s.mpRuns = true → s.mgmt.uncopied = k + 1 → s.mgmt.ring[k]? = some e →
      s.mgmt.flash.length < 8192 →
      Gives .logFlashCopy s (fun t => t.mgmt = { s.mgmt with flash := e :: s.mgmt.flash, uncopied := k } ∧ t.regs = s.regs))
  ∧ (∀ (e : LogEntry) (k : Nat) (s : State), s.mpRuns = true → s.mgmt.uncopied = k + 1 → s.mgmt.ring[k]? = some e →
      8192 ≤ s.mgmt.flash.length →
      Gives .logFlashCopy s (fun t => t.mgmt = { s.mgmt with flash := e :: s.mgmt.flash.take (s.mgmt.flash.length - 128), uncopied := k }))
  ∧ (∀ (n : Fin 16) (level : Bool) (tm : Nat) (s : State), (s.pin n).level = level → Yields (.gpioEdge n level tm) s s)
  ∧ (∀ (n : Fin 16) (level : Bool) (tm : Nat) (s : State), s.pins.inReset = false → (s.pin n).level ≠ level → s.pinIn n = true → (s.pin n).running = false →
      s.get (R.MP_GPIO_CFG_DEB n) ≠ 0 →
      Gives (.gpioEdge n level tm) s (fun t => t.pin n = { s.pin n with level, running := true } ∧ t.regs = s.regs))
  ∧ (∀ (n : Fin 16) (level : Bool) (tm : Nat) (s : State), s.pins.inReset = false → (s.pin n).level ≠ level → s.pinIn n = true → (s.pin n).running = true →
      s.get (R.MP_GPIO_CFG_DEB n) ≠ 0 → s.get (gpioOvf n) < 2 ^ 16 - 1 →
      Gives (.gpioEdge n level tm) s (fun t => t.pin n = { s.pin n with level } ∧ t.get (gpioOvf n) = s.get (gpioOvf n) + 1
        ∧ (s.get (gpioOvf n) = 0 → t.flag (R.MP_EVENT_EVENT.bit 18) = true)))
  ∧ (∀ (n : Fin 16) (level : Bool) (tm : Nat) (s : State), s.pins.inReset = false → (s.pin n).level ≠ level → s.pinIn n = true → (s.pin n).settled ≠ level →
      s.get (R.MP_GPIO_CFG_DEB n) = 0 → s.mpRuns = false →
      Gives (.gpioEdge n level tm) s (fun t => t.pin n = { level, settled := level, running := false } ∧ t.mgmt.evts = s.mgmt.evts))
  ∧ (∀ (n : Fin 16) (tm : Nat) (s : State), (s.pin n).running = false → Yields (.gpioDebounceAccept n tm) s s)
  ∧ (∀ (n : Fin 16) (tm : Nat) (s : State), (s.pin n).running = true → (s.pin n).level ≠ (s.pin n).settled → s.mpRuns = true →
      s.get (R.MP_GPIO_CFG_ACTION n) = 0 → s.get (R.MP_GPIO_CFG_REC n) = 3 → s.mgmt.evts.length < 32 →
      Gives (.gpioDebounceAccept n tm) s (fun t => (t.pin n).settled = (s.pin n).level ∧ (t.pin n).running = false
        ∧ t.mgmt.evts = s.mgmt.evts ++ [{ pin := n, edge := (s.pin n).level != s.flag (R.MP_GPIO_CFG_POL n), ns := tm - s.get (R.MP_GPIO_CFG_DEB n) * 100000, lost := s.mgmt.lost }]
        ∧ t.mgmt.lost = false ∧ t.flag (R.MP_EVENT_EVENT.bit 16) = true))
  ∧ (∀ (p : Fin 4) (w : BitVec 32) (s : State), s.NoAbort → s.fuseRefusal p (w.toNat % 64) ≠ 0 →
      Gives (.fuseProg p w) s (fun t => t.get R.FUSE_STATUS_RESULT = s.fuseRefusal p (w.toNat % 64)
        ∧ t.flag (R.FUSE_EVENT_EVENT.bit 1) = true ∧ t.mgmt = s.mgmt))
  ∧ (∀ (p : Fin 4) (w : BitVec 32) (s : State), s.NoAbort → s.fuseRefusal p (w.toNat % 64) = 0 →
      Gives (.fuseProg p w) s (fun t => t.flag R.FUSE_STATUS_BUSY = true ∧ t.mgmt = { s.mgmt with fusing := [(w.toNat % 64, s.rd R.FUSE_DATA)] }))
  ∧ (∀ (bad : BitVec 32) (s : State), s.flag R.FUSE_STATUS_BUSY = false → Yields (.fuseProgDone bad) s s)
  ∧ (∀ (n : Fin 24) (v : BitVec 32) (s : State), s.flag R.FUSE_STATUS_BUSY = true → s.mgmt.fusing = [(n.val, v)] →
      Gives (.fuseProgDone 0) s (fun t => t.rd (R.FUSE_WORD n) = s.rd (R.FUSE_WORD n) ||| v ∧ t.flag R.FUSE_STATUS_BUSY = false
        ∧ t.get R.FUSE_STATUS_RESULT = 0 ∧ t.flag (R.FUSE_EVENT_EVENT.bit 0) = true ∧ t.mgmt.fusing = []))
  ∧ (∀ (n : Fin 24) (v bad : BitVec 32) (s : State), s.flag R.FUSE_STATUS_BUSY = true → s.mgmt.fusing = [(n.val, v)] →
      v &&& bad &&& ~~~ s.rd (R.FUSE_WORD n) ≠ 0 →
      Gives (.fuseProgDone bad) s (fun t => t.rd (R.FUSE_WORD n) = s.rd (R.FUSE_WORD n) ||| (v &&& ~~~ bad)
        ∧ t.get R.FUSE_STATUS_RESULT = 6 ∧ t.flag (R.FUSE_EVENT_EVENT.bit 1) = true))
  ∧ (∀ (w : BitVec 32) (s : State), s.NoAbort → bitsOf (s.rd R.MP_ALARM_STATUS).toNat 31 24 = 0 → s.flag R.FUSE_STATUS_BUSY = false →
      Gives (.fuseLock w) s (fun t => t.flag R.FUSE_STATUS_BUSY = true
        ∧ t.mgmt = { s.mgmt with fusing := [(24, w &&& 7), (25, w &&& 0x78)] }))
  ∧ (∀ (w : BitVec 32) (s : State), s.NoAbort → bitsOf (s.rd R.MP_ALARM_STATUS).toNat 31 24 ≠ 0 →
      Gives (.fuseLock w) s (fun t => t.get R.FUSE_STATUS_RESULT = 4 ∧ t.flag (R.FUSE_EVENT_EVENT.bit 1) = true ∧ t.mgmt = s.mgmt))

/-! ## Frames -/

/-- Frames of chapters 1 to 4: every word of the map outside those named reads as before, and every part of the state but the named ones is unchanged.
Where the spec leaves a detail open, its clauses rest on log entries 7, 9, the model's reading. -/
def Obligations.ClockFrames : Prop :=
  (∀ (n : Fin 8) (r : Fin 4) (s : State), s.q n = 5 ∨ s.get (R.REF_RATE_RATE n) ≠ 7 →
      Framed (.refRateRecover n r) s [R.REF_STATUS n, R.VET_STATUS] (fun x => { s with vet := x.vet }))
  ∧ (∀ (n : Fin 8) (r : Fin 4) (s : State),
      Framed (.refRateRecover n r) s ([R.REF_CNT n, R.VET_STATUS, R.VET_EVENT, R.VET_FREQ_WORD, R.VET_HOLD_REMAIN, R.VET_OFFSET_LO,
          R.VET_OFFSET_HI, R.VET_REALIGN_STATUS] ++ logRegs ++ (List.range 8).map R.REF_STATUS)
        (fun x => { s with vet := x.vet, mgmt := x.mgmt }))
  ∧ (∀ (n : Fin 8) (s : State), 
      Framed (.refGlitchRecover n) s [R.REF_STATUS n, R.VET_STATUS] (fun x => { s with vet := x.vet }))
  ∧ (∀ (s : State), 
      Framed .formerWindowExpire s ((List.range 8).map R.REF_STATUS) (fun x => { s with vet := x.vet }))
  ∧ (∀ (s : State), 
      Framed .switchMeasureEnd s [] (fun x => { s with vet := x.vet }))
  ∧ (∀ (s : State), Framed .gearStep s [R.VET_STATUS] (fun _ => s))
  ∧ (∀ (w : BitVec 32) (s : State), s.NoAbort → s.vetState = 2 → 
      FramedWrite (.freeWordWrite w) s R.VET_FREE_WORD [R.VET_FREE_WORD]
        (fun _ => s))
  ∧ (∀ (w : BitVec 32) (s : State), s.NoAbort → 
      FramedWrite (.hostWordWrite w) s R.VET_HOST_WORD [R.VET_HOST_WORD, R.VET_FREQ_WORD]
        (fun x => { s with vet := x.vet }))
  ∧ (∀ (s : State), 
      Framed .snap s [R.VET_SNAP_IDX_LO, R.VET_SNAP_IDX_HI, R.VET_SNAP_SEC_LO, R.VET_SNAP_SEC_HI, R.VET_SNAP_NS] (fun _ => s))
  ∧ (∀ (w : BitVec 32) (s : State), s.NoAbort → 
      FramedWrite (.realignStepRef w) s R.VET_REALIGN ([R.VET_REALIGN, R.VET_REALIGN_STATUS, R.VET_EVENT] ++ logRegs)
        (fun x => { s with vet := x.vet, mgmt := x.mgmt }))
  ∧ (∀ (w : BitVec 32) (s : State), s.NoAbort → 
      FramedWrite (.realignSlewRef w) s R.VET_REALIGN ([R.VET_REALIGN, R.VET_REALIGN_STATUS, R.VET_EVENT] ++ logRegs)
        (fun x => { s with vet := x.vet, mgmt := x.mgmt }))
  ∧ (∀ (w : BitVec 32) (s : State), s.NoAbort → 
      FramedWrite (.realignStepValue w) s R.VET_REALIGN ([R.VET_REALIGN, R.VET_REALIGN_STATUS, R.VET_EVENT] ++ logRegs)
        (fun x => { s with vet := x.vet, mgmt := x.mgmt }))
  ∧ (∀ (s : State), 
      Framed .realignTimedDue s [] (fun x => { s with vet := x.vet }))
  ∧ (∀ (s : State), 
      Framed .realignComplete s ([R.VET_REALIGN_STATUS, R.VET_EVENT, R.VET_FREQ_WORD, R.VET_OFFSET_LO, R.VET_OFFSET_HI] ++ logRegs) (fun x => { s with vet := x.vet, mgmt := x.mgmt }))
  ∧ (∀ (n : Fin 3) (s : State), n ≠ 0 ∨ s.vet.suspended = false →
      Framed (.adpllLock n) s ([R.SYN_STATUS, R.SYN_EVENT] ++ (List.range 12).map R.CKOUT_STATUS)
        (fun x => { s with syn := x.syn, out := x.out }))
  ∧ (∀ (s : State), s.vet.suspended = true →
      Framed (.adpllLock 0) s ([R.SYN_STATUS, R.SYN_EVENT, R.VET_STATUS, R.VET_EVENT, R.VET_FREQ_WORD, R.VET_HOLD_REMAIN, R.VET_OFFSET_LO,
          R.VET_OFFSET_HI, R.VET_REALIGN_STATUS] ++ logRegs ++ (List.range 8).map R.REF_STATUS ++ (List.range 12).map R.CKOUT_STATUS)
        (fun x => { s with syn := x.syn, vet := x.vet, mgmt := x.mgmt, out := x.out }))
  ∧ (∀ (n : Fin 3) (e : Int) (s : State), n ≠ 0 → 
      Framed (.adpllPhaseErrorCoast n e) s ([R.SYN_STATUS, R.SYN_EVENT, R.SYN_COAST_CNT] ++ logRegs) (fun x => { s with mgmt := x.mgmt, syn := x.syn, drawn := x.drawn }))
  ∧ (∀ (xo : Bool) (s : State), 
      Framed (.oscRestored xo) s [R.SYN_STATUS] (fun x => { s with syn := x.syn }))
  ∧ (∀ (ppb : Nat) (s : State), 
      Framed (.oscFreqCompare ppb) s ([R.SYN_EVENT] ++ logRegs) (fun x => { s with mgmt := x.mgmt }))
  ∧ (∀ (s : State), Framed .fwApply s [] (fun x => { s with syn := x.syn }))
  ∧ (∀ (w : BitVec 32) (s : State), s.NoAbort → 
      FramedWrite (.adpll1Apply w) s R.SYN_ADPLL1_CTRL ([R.SYN_ADPLL1_CTRL, R.SYN_STATUS] ++ (List.range 12).map R.CKOUT_STATUS)
        (fun x => { s with syn := x.syn, out := x.out }))
  ∧ (∀ (w : BitVec 32) (s : State), s.NoAbort → 
      FramedWrite (.oscCfgWrite w) s R.SYN_OSC_CFG [R.SYN_OSC_CFG, R.SYN_STATUS, R.SYN_EVENT]
        (fun _ => s))
  ∧ (∀ (n : Fin 12) (w : BitVec 32) (s : State), s.NoAbort → 
      FramedWrite (.ckoutDisable n w) s (R.CKOUT_CFG n) [R.CKOUT_CFG n, R.CKOUT_STATUS n]
        (fun x => { s with syn := x.syn, out := x.out }))
  ∧ (∀ (n : Fin 12) (w : BitVec 32) (s : State), s.NoAbort → 
      FramedWrite (.ckoutDivWrite n w) s (R.CKOUT_DIV n) [R.CKOUT_DIV n, R.CKOUT_STATUS n]
        (fun x => { s with syn := x.syn, out := x.out }))
  ∧ (∀ (n : Fin 12) (w : BitVec 32) (s : State), s.NoAbort → 
      FramedWrite (.ckoutDelayWrite n w) s (R.CKOUT_DELAY n) [R.CKOUT_DELAY n]
        (fun x => { s with syn := x.syn, out := x.out }))
  ∧ (∀ (n : Fin 12) (s : State), 
      Framed (.ckoutStart n) s [R.CKOUT_STATUS n] (fun x => { s with syn := x.syn, out := x.out }))
  ∧ (∀ (w : BitVec 32) (s : State), s.NoAbort → 
      FramedWrite (.syncArm w) s R.SYN_SYNC_CTRL [R.SYN_SYNC_CTRL, R.SYN_SYNC_STATUS]
        (fun x => { s with syn := x.syn }))
  ∧ (∀ (eye : BitVec 8) (s : State), 
      Framed (.stalkMarginRetrain eye) s [R.PWR_STALK_STATUS, R.PWR_STALK_ERR, R.PWR_STALK_EVT_CNT] (fun x => { s with link := x.link }))
  ∧ (∀ (s : State), 
      Framed .stalkCrcBurstRetrain s [R.PWR_STALK_STATUS, R.PWR_STALK_ERR, R.PWR_STALK_EVT_CNT] (fun x => { s with link := x.link }))
  ∧ (∀ (s : State), Framed .d3hotEnter s [R.SYS_PCIE_STATUS] (fun _ => s))
  ∧ (∀ (s : State), Framed .d0Return s [R.SYS_PCIE_STATUS] (fun _ => s))
  ∧ (∀ (speed width : BitVec 2) (s : State), 
      Framed (.pcieLinkUp speed width) s [R.SYS_PCIE_STATUS] (fun _ => s))
  ∧ (∀ (on : Bool) (mps mrrs : Fin 6) (s : State), 
      Framed (.busMasterEnableChange { bme := on, mps := mps, mrrs := mrrs }) s [R.SYS_PCIE_STATUS]
        (fun x => { s with host := { s.host with mps := x.host.mps, mrrs := x.host.mrrs } }))
  ∧ (∀ (s : State), s.host.qspi ≠ .read ∨ s.host.qspiWord = none →
      Framed .qspiCsRise s [] (fun x => { s with host := x.host, out := x.out, drawn := x.drawn }))
  ∧ (∀ (p : Fin 4) (s : State), s.host.held = [] → 
      Framed (.guardTimeout p) s [R.SYS_EVENT, R.SYS_GUARD_ADDR, R.SYS_ERR_CNT] (fun x => { s with host := x.host }))
  ∧ (∀ (cls : Fin 16) (all : Bool) (idx : BitVec 8) (s : State), 
      Framed (.abortBadClass cls all idx) s [R.SYS_ABORT_STATUS, R.SYS_EVENT] (fun _ => s))
  ∧ (∀ (us : Nat) (s : State), s.host.held = [] → 
      Framed (.abortComplete us) s [R.SYS_EVENT, R.SYS_ABORT_STATUS] (fun x => { s with host := x.host }))
  ∧ (∀ (s : State), 
      Framed .aDieResetRelease s [R.PWR_STALK_STATUS] (fun x => { s with pins := x.pins }))

/-- Frames of chapters 5 to 10, on the same terms.
Where the spec leaves a detail open, its clauses rest on log entries 7, 9, the model's reading. -/
def Obligations.FlowAndSiloFrames : Prop :=
  (∀ (x : Fin 2) (w : BitVec 32) (s : State), s.NoAbort → 
      FramedWrite (.ptpRatesWrite x w) s (R.NET_PTP_RATES x) [R.NET_PTP_RATES x]
        (fun _ => s))
  ∧ (∀ (rdata : BitVec 16) (s : State), 
      Framed (.mdioDone rdata) s [R.NETC_MDIO_STATUS, R.NETC_MDIO_CMD] (fun _ => s))
  ∧ (∀ (w : BitVec 32) (s : State), s.NoAbort → 
      FramedWrite (.mdioCommand w) s R.NETC_MDIO_CMD [R.NETC_MDIO_STATUS, R.NETC_MDIO_CMD]
        (fun x => { s with net := x.net, out := x.out }))
  ∧ (∀ (x : Fin 2) (s : State), 
      Framed (.txTimestampCapture x) s [R.NET_EVENT x] (fun x => { s with net := x.net }))
  ∧ (∀ (x : Fin 2) (s : State), (s.port x).busy = true ∨ (s.port x).queue = [] →
      Framed (.announceSend x) s ([R.NET_CNT_WRAP x, R.NET_EVENT x] ++ (List.range 16).map (R.NET_CNT x)) (fun x => { s with net := x.net, drawn := x.drawn, out := x.out }))
  ∧ (∀ (x : Fin 2) (s : State), (s.port x).busy = true ∨ (s.port x).queue = [] →
      Framed (.syncSend x) s ([R.NET_CNT_WRAP x, R.NET_EVENT x] ++ (List.range 16).map (R.NET_CNT x)) (fun x => { s with net := x.net, drawn := x.drawn, out := x.out }))
  ∧ (∀ (x : Fin 2) (s : State), 
      Framed (.igmpV2Timeout x) s [R.NETC_IGMP_STATUS] (fun x => { s with net := x.net }))
  ∧ (∀ (n : Fin 256) (x : Fin 2) (s : State), 
      Framed (.flowRxPortSilent n x) s [R.FLOW_RX_STATUS n, R.FLOW_EVENT] (fun x => { s with flow := x.flow }))
  ∧ (∀ (n : Fin 256) (s : State), 
      Framed (.flowMonitorTick n) s [R.FLOW_RXC_MON n] (fun x => { s with flow := x.flow }))
  ∧ (∀ (w : BitVec 32) (s : State), s.NoAbort → 
      FramedWrite (.flowCsCaptureArm w) s R.FLOW_CS_CAP [R.FLOW_CS_CAP, R.FLOW_EVENT]
        (fun x => { s with flow := x.flow }))
  ∧ (∀ (n : Fin 256) (w : BitVec 32) (s : State), s.NoAbort → 
      FramedWrite (.flowRxStop n w) s (R.FLOW_RX_CTRL n) ([R.FLOW_RX_CTRL n, R.FLOW_RX_STATUS n, R.FLOW_EVENT, R.FLOW_CS_CAP, R.FLOW_RXC_WRAP n] ++ (List.range 14).map (R.FLOW_RXC_CNT n))
        (fun x => { s with flow := x.flow }))
  ∧ (∀ (rx : Bool) (n : Fin 256) (s : State), 
      Framed (.flowStartIndex rx n) s [R.FLOW_RX_STATUS n, R.FLOW_TX_STATUS n, R.FLOW_EVENT]
        (fun x => { s with flow := x.flow, route := x.route }))
  ∧ (∀ (w : BitVec 32) (s : State), s.NoAbort → 
      FramedWrite (.routeCommitGo w) s R.ROUTE_COMMIT ([R.ROUTE_COMMIT, R.ROUTE_COMMIT_STATUS, R.ROUTE_EVENT] ++ logRegs)
        (fun x => { s with route := x.route, mgmt := x.mgmt }))
  ∧ (∀ (w : BitVec 32) (s : State), s.NoAbort → 
      FramedWrite (.routeCancel w) s R.ROUTE_COMMIT ([R.ROUTE_COMMIT, R.ROUTE_COMMIT_STATUS, R.ROUTE_EVENT] ++ logRegs)
        (fun x => { s with route := x.route, mgmt := x.mgmt }))
  ∧ (∀ (n : Fin 4096) (s : State), s.NoAbort → 
      Framed (.muteSet n) s [] (fun x => { s with route := x.route }))
  ∧ (∀ (n : Fin 4096) (s : State), s.NoAbort → 
      Framed (.muteClr n) s [] (fun x => { s with route := x.route }))
  ∧ (∀ (w : BitVec 32) (s : State), s.NoAbort → 
      FramedWrite (.toneWrite w) s R.ROUTE_TONE [R.ROUTE_TONE]
        (fun x => { s with route := x.route }))
  ∧ (∀ (n : Fin 128) (ratio : BitVec 32) (s : State), 
      Framed (.srcLock n ratio) s [R.ROUTE_EVENT, R.ROUTE_SRC_STATUS n, R.ROUTE_SRC_RATIO n] (fun x => { s with route := x.route }))
  ∧ (∀ (n : Fin 128) (ratio : BitVec 32) (s : State), 
      Framed (.srcRateChange n ratio) s [R.ROUTE_EVENT, R.ROUTE_SRC_STATUS n, R.ROUTE_SRC_RATIO n] (fun x => { s with route := x.route }))
  ∧ (∀ (n : Fin 16) (w : BitVec 32) (s : State), s.NoAbort → 
      FramedWrite (.laneStart n w) s (R.LANE_CTRL n)
        ([R.LANE_CTRL n, R.LANE_EVENT n, R.SPELT_RUN, R.SPELT_XP_USED] ++ (List.range 16).map R.LANE_STATUS ++ logRegs)
        (fun x => { s with spelt := x.spelt, mgmt := x.mgmt }))
  ∧ (∀ (n : Fin 16) (w : BitVec 32) (s : State), s.NoAbort → 
      FramedWrite (.laneStop n w) s (R.LANE_CTRL n)
        ([R.LANE_CTRL n, R.LANE_EVENT n, R.SPELT_RUN, R.SPELT_XP_USED, R.LANE_DBG_STATUS n] ++ (List.range 16).map R.LANE_STATUS ++ logRegs)
        (fun x => { s with spelt := x.spelt, mgmt := x.mgmt }))
  ∧ (∀ (n : Fin 16) (w : BitVec 32) (s : State), s.NoAbort → 
      FramedWrite (.laneSwap n w) s (R.LANE_CTRL n)
        ([R.LANE_CTRL n, R.LANE_EVENT n, R.SPELT_RUN, R.SPELT_XP_USED] ++ (List.range 16).map R.LANE_STATUS ++ logRegs)
        (fun x => { s with spelt := x.spelt, mgmt := x.mgmt }))
  ∧ (∀ (n : Fin 16) (w : BitVec 32) (s : State), s.NoAbort → 
      FramedWrite (.laneCancelSwap n w) s (R.LANE_CTRL n)
        ([R.LANE_CTRL n, R.LANE_EVENT n, R.SPELT_RUN, R.SPELT_XP_USED] ++ (List.range 16).map R.LANE_STATUS ++ logRegs)
        (fun x => { s with spelt := x.spelt, mgmt := x.mgmt }))
  ∧ (∀ (e : Fin 16384) (w : BitVec 32) (s : State), s.NoAbort → 
      FramedWrite (.crosspointWrite e w) s (R.SPELT_XP e) [R.SPELT_XP e]
        (fun x => { s with spelt := x.spelt }))
  ∧ (∀ (q : Fin 32) (w : BitVec 32) (s : State), s.NoAbort → 
      FramedWrite (.dqStop q w) s (R.DQ_CFG q) [R.DQ_CFG q, R.DQ_STATUS q]
        (fun x => { s with spelt := x.spelt }))
  ∧ (∀ (q : Fin 32) (l : Fin 64) (w : BitVec 32) (s : State), s.NoAbort → 
      FramedWrite (.dqTapWrite q l w) s (R.DQTAP q l) [R.DQTAP q l]
        (fun x => { s with spelt := x.spelt }))
  ∧ (∀ (w : BitVec 32) (s : State), s.NoAbort → 
      FramedWrite (.memEnable w) s R.MEM_CTRL [R.MEM_CTRL, R.MEM_STATUS, R.MEM_EVENT]
        (fun x => { s with spelt := x.spelt }))
  ∧ (∀ (w : BitVec 32) (s : State), s.NoAbort → 
      FramedWrite (.memRetrain w) s R.MEM_CTRL [R.MEM_CTRL, R.MEM_STATUS, R.MEM_EVENT]
        (fun x => { s with spelt := x.spelt }))
  ∧ (∀ (s : State), 
      Framed .memRetrainDone s [R.MEM_STATUS, R.MEM_EVENT] (fun _ => s))
  ∧ (∀ (cls : Fin 4) (late : Bool) (s : State), 
      Framed (.dramBurstComplete cls late) s [R.MEM_EVENT, R.MEM_LATE_CNT, R.MEM_BURSTS_LO, R.MEM_BURSTS_HI] (fun x => { s with spelt := x.spelt, flow := x.flow, drawn := x.drawn }))
  ∧ (∀ (n : Fin 64) (w : BitVec 32) (s : State), s.NoAbort → 
      FramedWrite (.siloClose n w) s (R.SILO_S_CTRL n) ([R.SILO_S_CTRL n, R.SILO_S_STATUS n, R.SILO_S_VIS n, R.SILO_S_FREE n, R.SILO_S_IN_CNT n, R.SILO_S_EVENT n, R.SILO_S_ERR_CNT n,
        R.SILO_S_OUT_CNT n] ++ (List.range 8).map R.DMA_EVENT)
        (fun x => { s with silos := x.silos }))
  ∧ (∀ (c : Fin 8) (w : BitVec 32) (s : State), s.NoAbort → 
      FramedWrite (.dmaDescSubmit c w) s (R.DMA_DESC c) [R.DMA_DESC c, R.DMA_EVENT c, R.DMA_STATUS c]
        (fun x => { s with silos := x.silos }))

/-- Frames of chapters 11 to 14, on the same terms.
Where the spec leaves a detail open, its clauses rest on log entries 7, 9, the model's reading. -/
def Obligations.PortAndAnalogFrames : Prop :=
  (∀ (n : Fin 26) (s : State), 
      Framed (.portStartIndex n) s [R.PORT_U_STATUS n, R.PORT_U_EVENT n] (fun x => { s with ports := x.ports, route := x.route }))
  ∧ (∀ (n : Fin 26) (s : State), 
      Framed (.portStopIndex n) s ([R.PORT_U_STATUS n, R.PORT_U_EVENT n, R.PORT_MADI_CS_CAP (n.val - 24), R.ROUTE_SRC_POOL, R.ROUTE_EVENT]
          ++ (List.range 128).map R.ROUTE_SRC_STATUS ++ (List.range 128).map R.ROUTE_SRC_RATIO)
        (fun x => { s with ports := x.ports, route := x.route }))
  ∧ (∀ (n : Fin 26) (u : Nat) (s : State), 
      Framed (.portFrameTx n u) s ([R.PORT_U_STATUS n, R.PORT_U_EVENT n, R.PORT_U_WRAP n, R.PORT_AESTX_TXSTAT (n.val - 16)]
          ++ (List.range 7).map (R.PORT_U_CNT n))
        (fun x => { s with ports := x.ports, route := x.route, out := x.out, drawn := x.drawn }))
  ∧ (∀ (m : Fin 2) (w : BitVec 32) (s : State), s.NoAbort → 
      FramedWrite (.madiCsCaptureArm m w) s (R.PORT_MADI_CS_CAP m) [R.PORT_MADI_CS_CAP m]
        (fun x => { s with ports := x.ports }))
  ∧ (∀ (n : Fin 26) (rate : Nat) (s : State), 
      Framed (.monClockReturn n rate) s [R.PORT_U_STATUS n, R.PORT_U_EVENT n, R.PORT_U_RATE_MEAS n, R.PORT_AESRX_RXSTAT (n.val - 8)] (fun x => { s with ports := x.ports }))
  ∧ (∀ (w : BitVec 32) (s : State), s.NoAbort → 
      FramedWrite (.commonStartGo w) s R.PORT_START [R.PORT_START, R.PORT_START_STATUS, R.PORT_EVENT]
        (fun x => { s with ports := x.ports }))
  ∧ (∀ (i : Fin 16) (s : State), 
      Framed (.ainSettleDone i) s [R.ANA_IN_STATUS i, R.ANA_IN_EVENT i] (fun x => { s with ana := x.ana }))
  ∧ (∀ (i : Fin 16) (h l : Int) (s : State), 
      Framed (.combinerSwitchDown i h l) s [R.ANA_IN_STATUS i, R.ANA_IN_EVENT i, R.ANA_IN_XO_CNT i, R.ANA_IN_MATCH i]
        (fun x => { s with ana := x.ana, drawn := x.drawn }))
  ∧ (∀ (i : Fin 16) (gain : BitVec 16) (s : State), 
      Framed (.matchOk i gain) s [R.ANA_IN_STATUS i, R.ANA_IN_MATCH i] (fun x => { s with ana := x.ana }))
  ∧ (∀ (w : BitVec 32) (s : State), s.NoAbort → 
      FramedWrite (.phantomWrite w) s R.ANA_PHANTOM ([R.ANA_PHANTOM, R.MCV_OW_STATUS] ++ (List.range 16).map R.ANA_IN_STATUS ++ (List.range 16).map R.ANA_IN_EVENT)
        (fun x => { s with ana := x.ana, meas := x.meas, out := x.out }))
  ∧ (∀ (i : Fin 16) (s : State), 
      Framed (.phantomSettleDone i) s ([R.MCV_OW_STATUS] ++ (List.range 16).map R.ANA_IN_STATUS ++ (List.range 16).map R.ANA_IN_EVENT)
        (fun x => { s with ana := x.ana, meas := x.meas }))
  ∧ (∀ (i : Fin 16) (mv : Nat) (s : State), 
      Framed (.phantomMonitorSample i mv) s [R.ANA_IN_STATUS i, R.ANA_IN_EVENT i] (fun x => { s with ana := x.ana }))
  ∧ (∀ (h : Fin 2) (level : Bool) (s : State), 
      Framed (.hpdetEdge h level) s [R.ANA_O_STATUS (16 + h), R.ANA_O_CNT (16 + h)]
        (fun x => { s with ana := x.ana, pins := { s.pins with hpdet0 := x.pins.hpdet0, hpdet1 := x.pins.hpdet1 } }))
  ∧ (∀ (p : Fin 4) (s : State), 
      Framed (.psFadeDone p) s [R.PSC_STATUS p, R.PSC_EVENT p] (fun x => { s with ps := x.ps, meas := x.meas, out := x.out }))
  ∧ (∀ (p : Fin 4) (s : State), 
      Framed (.psClassifyDone p) s ([R.PSC_STATUS p, R.PSC_EVENT p] ++ logRegs) (fun x => { s with ps := x.ps, mgmt := x.mgmt, out := x.out }))
  ∧ (∀ (s : State), 
      Framed .psKPendingApply s [R.PS_STATUS] (fun x => { s with ps := x.ps }))
  ∧ (∀ (p : Fin 4) (s : State), 
      Framed (.pilotCycleStart p) s [R.PSC_STATUS p] (fun x => { s with ps := x.ps }))
  ∧ (∀ (m : Fin 2) (level : Bool) (s : State), 
      Framed (.mtrigEdge m level) s [R.MCV_MTRIG_CNT]
        (fun x => { s with meas := x.meas, pins := { s.pins with mtrig0 := x.pins.mtrig0, mtrig1 := x.pins.mtrig1 } }))
  ∧ (∀ (w : BitVec 32) (s : State), s.NoAbort → 
      FramedWrite (.refBufEnable w) s R.MCV_REF_CTRL [R.MCV_REF_CTRL, R.MCV_REF_STATUS, R.MCV_EVENT]
        (fun x => { s with meas := x.meas }))
  ∧ (∀ (s : State), 
      Framed .refBufReady s [R.MCV_REF_STATUS, R.MCV_EVENT] (fun x => { s with meas := x.meas }))

/-- Frames of chapters 15 and 16, on the same terms.
Where the spec leaves a detail open, its clauses rest on log entries 7, 9, the model's reading. -/
def Obligations.ControlFrames : Prop :=
  (∀ (s : State), s.twinState = 2 → 
      Framed .twinLinkDown s [R.TWIN_STATUS, R.TWIN_EVENT] (fun x => { s with twin := x.twin }))
  ∧ (∀ (s : State), s.twinState = 2 → 
      Framed .twinLinkTrained s [R.TWIN_STATUS, R.TWIN_EVENT] (fun x => { s with twin := x.twin }))
  ∧ (∀ (c : Fin 3) (s : State), s.twinState = 2 → 
      Framed (.heartbeatMiss c) s [R.TWIN_STATUS, R.TWIN_EVENT, R.TWIN_HB_CNT c] (fun x => { s with twin := x.twin }))
  ∧ (∀ (s : State), 
      Framed .ownInFall s [R.TWIN_STATUS, R.TWIN_EVENT] (fun x => { s with twin := x.twin }))
  ∧ (∀ (s : State), 
      Framed .pairingTimeout s ([R.TWIN_STATUS, R.TWIN_EVENT, R.TWIN_IMG_SEQ] ++ logRegs) (fun x => { s with twin := x.twin, mgmt := x.mgmt }))
  ∧ (∀ (s : State), 
      Framed .warmPairingResume s ([R.TWIN_STATUS, R.TWIN_EVENT, R.TWIN_IMG_SEQ] ++ logRegs) (fun x => { s with twin := x.twin, mgmt := x.mgmt }))
  ∧ (∀ (s : State), 
      Framed .handoverRequestRx s ([R.TWIN_STATUS, R.TWIN_EVENT, R.TWIN_IMG_SEQ] ++ logRegs) (fun x => { s with twin := x.twin, mgmt := x.mgmt }))
  ∧ (∀ (h : Nat) (s : State), 
      Framed (.handoverReadyRx h) s [] (fun x => { s with twin := x.twin }))
  ∧ (∀ (s : State), 
      Framed .checkingEnd s ([R.TWIN_STATUS, R.TWIN_EVENT, R.TWIN_IMG_SEQ] ++ logRegs) (fun x => { s with twin := x.twin, mgmt := x.mgmt, out := x.out }))
  ∧ (∀ (s : State), 
      Framed .imagePush s [R.TWIN_EVENT, R.TWIN_IMG_SEQ] (fun x => { s with twin := x.twin, out := x.out }))
  ∧ (∀ (push : BitVec 16) (s : State), 
      Framed (.twinAckRx push) s [R.TWIN_IMG_SEQ] (fun x => { s with twin := x.twin }))
  ∧ (∀ (crcOk : Bool) (words : List (BitVec 32)) (s : State), s.twinState = 3 → 
      Framed (.twinPageRx crcOk words) s [R.TWIN_IMG_SEQ, R.TWIN_STATUS] (fun x => { s with twin := x.twin, out := x.out }))
  ∧ (∀ (push pages total : BitVec 16) (s : State), s.twinState = 3 → 
      Framed (.twinCommitRx push pages total) s [R.TWIN_IMG_SEQ, R.TWIN_STATUS] (fun x => { s with twin := x.twin, out := x.out }))
  ∧ (∀ (p : Fin 4) (w : BitVec 32) (s : State), s.NoAbort → 
      FramedWrite (.mbGetInfo p w) s R.MP_MB_CMD [R.MP_MB_STATUS, R.MP_EVENT]
        (fun x => { s with mgmt := x.mgmt }))
  ∧ (∀ (p : Fin 4) (w : BitVec 32) (s : State), s.NoAbort → 
      FramedWrite (.mbLogRead p w) s R.MP_MB_CMD [R.MP_MB_STATUS, R.MP_EVENT]
        (fun x => { s with mgmt := x.mgmt }))
  ∧ (∀ (p : Fin 4) (w : BitVec 32) (s : State), s.NoAbort → 
      FramedWrite (.mbLogMark p w) s R.MP_MB_CMD [R.MP_MB_STATUS, R.MP_EVENT]
        (fun x => { s with mgmt := x.mgmt }))
  ∧ (∀ (p : Fin 4) (w : BitVec 32) (s : State), s.NoAbort → 
      FramedWrite (.mbFwBegin p w) s R.MP_MB_CMD [R.MP_MB_STATUS, R.MP_EVENT]
        (fun x => { s with mgmt := x.mgmt }))
  ∧ (∀ (p : Fin 4) (w : BitVec 32) (s : State), s.NoAbort → 
      FramedWrite (.mbFwWrite p w) s R.MP_MB_CMD [R.MP_MB_STATUS, R.MP_EVENT]
        (fun x => { s with mgmt := x.mgmt }))
  ∧ (∀ (p : Fin 4) (w : BitVec 32) (s : State), s.NoAbort → 
      FramedWrite (.mbFwVerify p w) s R.MP_MB_CMD [R.MP_MB_STATUS, R.MP_EVENT]
        (fun x => { s with mgmt := x.mgmt }))
  ∧ (∀ (p : Fin 4) (w : BitVec 32) (s : State), s.NoAbort → 
      FramedWrite (.mbFwActivate p w) s R.MP_MB_CMD [R.MP_MB_STATUS, R.MP_EVENT]
        (fun x => { s with mgmt := x.mgmt }))
  ∧ (∀ (p : Fin 4) (w : BitVec 32) (s : State), s.NoAbort → 
      FramedWrite (.mbFwConfirm p w) s R.MP_MB_CMD [R.MP_MB_STATUS, R.MP_EVENT]
        (fun x => { s with mgmt := x.mgmt }))
  ∧ (∀ (p : Fin 4) (w : BitVec 32) (s : State), s.NoAbort → 
      FramedWrite (.mbUnknownOp p w) s R.MP_MB_CMD [R.MP_MB_STATUS, R.MP_EVENT]
        (fun x => { s with mgmt := x.mgmt }))
  ∧ (∀ (w : BitVec 32) (s : State), s.NoAbort → w.toNat.testBit 1 = false → 
      FramedWrite (.mpHalt w) s R.MP_CTRL [R.MP_CTRL, R.MP_STATUS, R.MP_MB_STATUS]
        (fun x => { s with mgmt := x.mgmt }))
  ∧ (∀ (ok : Bool) (bad : BitVec 32) (s : State), s.flag R.MP_STATUS_TRIAL = false ∨ ok = false →
      Framed (.mbCommandDone ok bad) s ([R.MP_MB_STATUS, R.MP_EVENT, R.MP_STATUS] ++ logRegs ++ (List.range 16).map R.MP_MB_RSP)
        (fun x => { s with mgmt := x.mgmt, drawn := x.drawn }))
  ∧ (∀ (ok : Bool) (bad : BitVec 32) (s : State), s.NoAbort →
      Framed (.mbCommandDone ok bad) s ([R.MP_MB_STATUS, R.MP_EVENT, R.MP_STATUS, R.FUSE_DATA, R.FUSE_PROG, R.FUSE_WORD 23, R.FUSE_STATUS,
          R.FUSE_EVENT, R.SYS_EVENT, R.SYS_GUARD_ADDR, R.SYS_ERR_CNT, R.SYS_ERR_ADDR] ++ logRegs ++ (List.range 16).map R.MP_MB_RSP)
        (fun x => { s with mgmt := x.mgmt, drawn := x.drawn, host := x.host, twin := { s.twin with dirty := x.twin.dirty } }))
  ∧ (∀ (temps supplies : List (BitVec 16)) (s : State), 
      Framed (.sensorPoll temps supplies) s ([R.MP_ALARM_STATUS] ++ logRegs ++ (List.range 8).map R.MP_TEMP ++ (List.range 8).map R.MP_SUPPLY) (fun x => { s with mgmt := x.mgmt }))
  ∧ (∀ (s : State), 
      Framed .logFlashCopy s [] (fun x => { s with mgmt := x.mgmt }))
  ∧ (∀ (n : Fin 16) (level : Bool) (tm : Nat) (s : State), (s.mpRuns = true → s.get (R.MP_GPIO_CFG_ACTION n) = 0 ∨ s.get (R.MP_GPIO_CFG_ACTION n) = 5) → 
      Framed (.gpioEdge n level tm) s ([R.MP_OVF (n / 2)] ++ logRegs) (fun x => { s with mgmt := x.mgmt, drawn := x.drawn }))
  ∧ (∀ (n : Fin 16) (tm : Nat) (s : State), s.get (R.MP_GPIO_CFG_ACTION n) = 0 ∨ s.get (R.MP_GPIO_CFG_ACTION n) = 5 → 
      Framed (.gpioDebounceAccept n tm) s (logRegs) (fun x => { s with mgmt := x.mgmt, drawn := x.drawn }))
  ∧ (∀ (p : Fin 4) (w : BitVec 32) (s : State), s.NoAbort → 
      FramedWrite (.fuseProg p w) s R.FUSE_PROG [R.FUSE_PROG, R.FUSE_STATUS, R.FUSE_EVENT]
        (fun x => { s with mgmt := x.mgmt }))
  ∧ (∀ (w : BitVec 32) (s : State), s.NoAbort → 
      FramedWrite (.fuseLock w) s R.FUSE_LOCK [R.FUSE_STATUS, R.FUSE_EVENT]
        (fun x => { s with mgmt := x.mgmt }))

/-! ## The device as a whole -/

/-- A step carries out the command that has waited longest, on the state with the queue's rest; with none waiting the device stays as it
is (the model's choice, log entry 4). -/
def Obligations.StepRunsFront : Prop :=
  (∀ (c : Instr) (rest : List Instr) (s : State), s.pending = c :: rest → step s = exec c { s with pending := rest })
  ∧ (∀ (s : State), s.pending = [] → step s = .next s)

/-- No state stops the device: every step of every state ends in a next state.
Where the spec leaves a detail open, its clauses rest on log entries 4, 7, the model's reading. -/
def Obligations.EveryStepGoesOn : Prop :=
  ∀ (s : State), ∃ t, step s = .next t

/-- The reset state is sound and empty, and holds the reset values of the register map: RESET_CAUSE says power-on, only AON and HOST
are on, the crosspoints, VET.CTRL, HEALTH_MASK and TWIN.CFG stand as their tables give them, and every pin is as R442 gives it.
Where the spec leaves a detail open, its clauses rest on log entries 2, 3, the model's reading. -/
def Obligations.ResetIsSound : Prop :=
  State.reset.StoreOk ∧ State.reset.IrqOk ∧ State.reset.pending = [] ∧ State.reset.out = [] ∧ State.reset.rd R.SYS_RESET_CAUSE = 1
  ∧ State.reset.twinState = 0 ∧ State.reset.owns = true ∧ State.reset.rd (R.SPELT_XP 0) = 0x000F8000 ∧ State.reset.rd (R.SPELT_XP 16383) = 0x000F8000
  ∧ State.reset.get R.TWIN_HEALTH_MASK_MASK = 0xFFF ∧ State.reset.rd R.PWR_DOMAIN_STATE = 0x102
  ∧ State.reset.rd R.VET_CTRL = 0x0A280C06 ∧ State.reset.rd R.TWIN_CFG = 0x031E0A65
  ∧ State.reset.pinsQuiet = true

/-- From a state whose interrupt outputs stand as their sources say, every step of every command leaves them standing so (R69 to R71). -/
def Obligations.StepKeepsInterrupts : Prop :=
  ∀ (s t : State), s.IrqOk → step s = .next t → t.IrqOk

/-- R71: after any command HOST_IRQ_N is low exactly while PIN_EN is set and an enabled source is active, whatever the vector
mapping. -/
def Obligations.PinFollowsSources : Prop :=
  ∀ (c : Instr) (s t : State), exec c s = .next t →
    (t.pins.irqLow = true ↔ t.flag R.SYS_IRQ_CFG_PIN_EN = true ∧ ∃ n : Fin 48, t.enabledRaw.testBit n = true)

/-- The storage behind the map: a read gives what was written there last and a write changes no other word; a field takes its value
modulo its width and leaves every other word; each operation keeps the canonical form. -/
def Obligations.StorageReadsWrites : Prop :=
  (∀ (s : State) (a b : Nat) (w : BitVec 32), (s.wr a w).rd b = if b = a then w else s.rd b)
  ∧ (∀ (s : State) (f : Field) (v b : Nat), f.lo ≤ f.hi → f.hi < 32 → (s.put f v).get f = v % 2 ^ f.width ∧ (b ≠ f.addr → (s.put f v).rd b = s.rd b))
  ∧ (∀ (s : State) (a : Nat) (w : BitVec 32), s.StoreOk → (s.wr a w).StoreOk)
  ∧ (∀ (s : State) (f : Field) (v : Nat), s.StoreOk → (s.put f v).StoreOk ∧ (s.raise f).StoreOk ∧ (s.clr f).StoreOk ∧ (s.countSat f).StoreOk)
  ∧ (∀ (s : State) (d : Nat), s.StoreOk → (s.clearDomain d).StoreOk)

/-- R362: a measured resistance above 4 × RE_NOM sets EVENT.OPEN_LOAD and one below RE_NOM / 2 sets EVENT.LOW_LOAD, and neither changes
the channel's state. -/
def Obligations.OpenAndLowLoad : Prop :=
  ∀ (p : Fin 4) (vp ip vm im re : F32) (s : State), s.on .pstage = true → (s.psCh p).pilot = 5 → (s.psCh p).spoiled = false →
    (s.psCh p).vals = [vp, ip, vm, im] → (fop (fsub ip im).v).m ≠ 0 → re = (fdiv (fsub vp vm).v (fsub ip im).v).v →
    Gives (.pilotMeasureDone p) s (fun t =>
      t.flag ((R.PSC_EVENT_EVENT p).bit 9) = (s.flag ((R.PSC_EVENT_EVENT p).bit 9) || flt (fmul 0x40800000 (s.rd (R.PSC_RE_NOM p))).v re)
      ∧ t.flag ((R.PSC_EVENT_EVENT p).bit 10) = (s.flag ((R.PSC_EVENT_EVENT p).bit 10) || flt re (fmul 0x3F000000 (s.rd (R.PSC_RE_NOM p))).v)
      ∧ t.psState p = s.psState p)

/-- The register, vector, scalar, address, load and move instructions of a lane: outside a loop, not stepping and with no breakpoint enabled, each one
traps or changes nothing but its lane.
Where the spec leaves a detail open, its clauses rest on log entry 40, the model's reading. -/
def Obligations.LaneInstructionFrames : Prop :=
  ∀ (n : Fin 16) (f : InsnFields) (c : Instr) (s : State), s.CanGoOn n → (s.lane n).stepping = false → (∀ k : Fin 4, s.flag (R.LANE_BP_EN n k) = false) →
    c ∈
      [Instr.iNop n f, .iLdv n f, .iLds n f, .iLdvx n f, .iIns n f, .iOuts n f, .iMova n f, .iAdda n f, .iMovas n f, .iMovsa n f,
       .iMovs n f, .iMovfs n f, .iClrf n f, .iMovls n f, .iVadd n f, .iVsub n f, .iVmul n f, .iVmac n f, .iVmuls n f, .iVmacs n f,
       .iVabs n f, .iVmax n f, .iVmin n f, .iVclip n f, .iVmov n f, .iVbcst n f, .iVext n f, .iVins n f, .iVsum n f, .iVpeak n f,
       .iSadd n f, .iSsub n f, .iSmul n f, .iSmac n f, .iSmax n f, .iSmin n f, .iScmp n f, .iSiadd n f, .iSand n f, .iSor n f,
       .iSxor n f, .iSshf n f, .iSicmp n f, .iScvtf n f, .iScvti n f, .iGwamp n f, .iMix n f, .iMixv n f, .iVlog2 n f, .iVexp2 n f,
       .iGainc n f] →
    LaneOnly c s n

/-- R256: SCMP orders the canonical words of its operands as their bits order them, sign and magnitude, with +0 equal to −0: it sets Z
where they are equal and N where sA is the smaller; with a NaN it clears both and sets NV. SICMP orders signed integers. -/
def Obligations.ComparisonsSetFlags : Prop :=
  (∀ (n : Fin 16) (f : InsnFields) (a b : BitVec 32) (s : State), s.CanIssue n → f.z = 0 → f.m = 0 → f.imm = 0 → f.d = 0 →
      a = canon32 ((s.lane n).sc f.a.toNat) → b = canon32 ((s.lane n).sc f.b.toNat) →
      isNaN32 ((s.lane n).sc f.a.toNat) = false → isNaN32 ((s.lane n).sc f.b.toNat) = false →
      Gives (.iScmp n f) s (fun t =>
        (t.lane n).flag 0 = decide (a = b ∨ (a ||| b) <<< 1 = 0)
        ∧ (t.lane n).flag 1 = (if a.msb then (if b.msb then b.ult a else decide ((a ||| b) <<< 1 ≠ 0)) else !b.msb && a.ult b)))
  ∧ (∀ (n : Fin 16) (f : InsnFields) (s : State), s.CanIssue n → f.z = 0 → f.m = 0 → f.imm = 0 → f.d = 0 →
      (isNaN32 ((s.lane n).sc f.a.toNat) || isNaN32 ((s.lane n).sc f.b.toNat)) = true →
      Gives (.iScmp n f) s (fun t => (t.lane n).flag 0 = false ∧ (t.lane n).flag 1 = false ∧ (t.lane n).flag 8 = true))
  ∧ (∀ (n : Fin 16) (f : InsnFields) (s : State), s.CanIssue n → f.z = 0 → f.m = 0 → f.imm = 0 → f.d = 0 →
      Gives (.iSicmp n f) s (fun t =>
        (t.lane n).flag 0 = decide (((s.lane n).sc f.a.toNat).toInt = ((s.lane n).sc f.b.toNat).toInt)
        ∧ (t.lane n).flag 1 = decide (((s.lane n).sc f.a.toNat).toInt < ((s.lane n).sc f.b.toNat).toInt)))
end

