-- ==== Sys2Proof/Laws/Field.lean ====
section
/-!
SUPPORT. Fields of register words: what a field reads after it, or another one of the same word, has been set.
-/
namespace Sys2Proof.Machine

/-- A field that lies within a word. -/
abbrev Field.Ok (f : Field) : Prop := f.lo ≤ f.hi ∧ f.hi < 32

/-- Two fields of one word that share no bit. -/
abbrev Field.Apart (f g : Field) : Prop := f.hi < g.lo ∨ g.hi < f.lo

theorem Field.getLsbD_mask (f : Field) (h : f.Ok) (i : Nat) : f.mask.getLsbD i = (decide (f.lo ≤ i) && decide (i ≤ f.hi)) := by
  obtain ⟨h1, h2⟩ := h
  simp only [Field.mask, BitVec.getLsbD_shiftLeft, BitVec.getLsbD_ushiftRight, BitVec.getLsbD_allOnes]
  rw [Bool.eq_iff_iff]
  simp only [Bool.and_eq_true, Bool.not_eq_true', decide_eq_true_eq, decide_eq_false_iff_not]
  omega

/-- The bits of a field's value. -/
theorem Field.testBit_ofWord (f : Field) (h : f.Ok) (w : Word) (i : Nat) :
    (f.ofWord w).testBit i = (w.getLsbD (f.lo + i) && decide (f.lo + i ≤ f.hi)) := by
  simp only [Field.ofWord, BitVec.testBit_toNat, BitVec.getLsbD_ushiftRight, BitVec.getLsbD_and, Field.getLsbD_mask f h]
  simp

theorem Field.getLsbD_inWord (f : Field) (h : f.Ok) (w : Word) (v i : Nat) (hi : i < 32) :
    (f.inWord w v).getLsbD i = if f.lo ≤ i ∧ i ≤ f.hi then v.testBit (i - f.lo) else w.getLsbD i := by
  obtain ⟨h1, h2⟩ := h
  simp only [Field.inWord, BitVec.getLsbD_or, BitVec.getLsbD_and, BitVec.getLsbD_not, BitVec.getLsbD_shiftLeft,
    Field.getLsbD_mask f ⟨h1, h2⟩, BitVec.getLsbD_ofNat]
  by_cases hc : f.lo ≤ i ∧ i ≤ f.hi
  · have : i - f.lo < 32 := by omega
    simp [hc, hi, this]
  · rw [if_neg hc]
    have : (decide (f.lo ≤ i) && decide (i ≤ f.hi)) = false := by
      rw [Bool.eq_false_iff]; simpa using hc
    simp [this, hi]

theorem Field.ofWord_lt (f : Field) (h : f.Ok) (w : Word) : f.ofWord w < 2 ^ f.width := by
  apply Nat.lt_pow_two_of_testBit
  intro i hi
  rw [Field.testBit_ofWord f h]
  have : ¬ f.lo + i ≤ f.hi := by unfold Field.width at hi; omega
  simp [this]

/-- A field that has been set reads the value, taken to its width. -/
theorem Field.ofWord_inWord_same (f : Field) (h : f.Ok) (w : Word) (v : Nat) : f.ofWord (f.inWord w v) = v % 2 ^ f.width := by
  apply Nat.eq_of_testBit_eq
  intro i
  rw [Field.testBit_ofWord f h, Nat.testBit_mod_two_pow]
  by_cases hc : f.lo + i ≤ f.hi
  · have h32 : f.lo + i < 32 := by have := h.2; omega
    have hw : i < f.width := by unfold Field.width; omega
    rw [Field.getLsbD_inWord f h w v _ h32, if_pos ⟨by omega, hc⟩]
    simp [hc, hw]
  · have hw : ¬ i < f.width := by unfold Field.width; omega
    simp [hc, hw]

/-- A field that has been set to a value of its width reads it. -/
theorem Field.ofWord_inWord (f : Field) (h : f.Ok) (w : Word) {v : Nat} (hv : v < 2 ^ f.width) : f.ofWord (f.inWord w v) = v := by
  rw [Field.ofWord_inWord_same f h, Nat.mod_eq_of_lt hv]

/-- Setting a field leaves a field apart from it as it was. -/
theorem Field.ofWord_inWord_other (f g : Field) (hf : f.Ok) (hg : g.Ok) (hfg : g.Apart f) (w : Word) (v : Nat) :
    f.ofWord (g.inWord w v) = f.ofWord w := by
  apply Nat.eq_of_testBit_eq
  intro i
  rw [Field.testBit_ofWord f hf, Field.testBit_ofWord f hf]
  by_cases hc : f.lo + i ≤ f.hi
  · have h32 : f.lo + i < 32 := by have := hf.2; omega
    have : ¬ (g.lo ≤ f.lo + i ∧ f.lo + i ≤ g.hi) := by
      rcases hfg with hx | hx <;> omega
    rw [Field.getLsbD_inWord g hg w v _ h32, if_neg this]
  · simp [hc]

end Sys2Proof.Machine
end

