-- ==== Sys2Proof/Laws/RegFile.lean ====
section
/-!
SUPPORT. The storage behind the register map: reads after writes, and its canonical form under every operation.
-/
namespace Sys2Proof.Machine

theorem RegFile.wfFrom_mono (m : RegFile) : ∀ {lo lo' : Nat}, lo' ≤ lo → RegFile.wfFrom lo m = true → RegFile.wfFrom lo' m = true := by
  cases m with
  | nil => intros; rfl
  | cons c t =>
    obtain ⟨a, w⟩ := c
    intro lo lo' h hw
    simp only [RegFile.wfFrom, Bool.and_eq_true, decide_eq_true_eq] at hw ⊢
    exact ⟨⟨Nat.le_trans h hw.1.1, hw.1.2⟩, hw.2⟩

/-- Below its lower bound a canonical storage lists nothing. -/
theorem RegFile.find_below (m : RegFile) : ∀ {lo a : Nat}, RegFile.wfFrom lo m = true → a < lo → m.find a = none := by
  induction m with
  | nil => intros; rfl
  | cons c t ih =>
    obtain ⟨b, w⟩ := c
    intro lo a hw h
    simp only [RegFile.wfFrom, Bool.and_eq_true, decide_eq_true_eq] at hw
    have : a ≠ b := by omega
    simp only [RegFile.find, if_neg this]
    exact ih hw.2 (by omega)

theorem RegFile.wfFrom_filter (m : RegFile) (p : Nat × Word → Bool) : ∀ {lo : Nat}, RegFile.wfFrom lo m = true →
    RegFile.wfFrom lo (m.filter p) = true := by
  induction m with
  | nil => intros; rfl
  | cons c t ih =>
    obtain ⟨b, w⟩ := c
    intro lo hm
    simp only [RegFile.wfFrom, Bool.and_eq_true, decide_eq_true_eq] at hm
    by_cases hp : p (b, w)
    · rw [List.filter_cons_of_pos hp]
      simp only [RegFile.wfFrom, Bool.and_eq_true, decide_eq_true_eq]
      exact ⟨hm.1, ih hm.2⟩
    · rw [List.filter_cons_of_neg hp]
      exact RegFile.wfFrom_mono _ (by omega) (ih hm.2)

theorem RegFile.put_wf (m : RegFile) : ∀ {lo a : Nat} {w : Word}, RegFile.wfFrom lo m = true → lo ≤ a → w ≠ resetOf a →
    RegFile.wfFrom lo (m.put a w) = true := by
  induction m with
  | nil => intro lo a w _ h hw; simp [RegFile.put, RegFile.wfFrom, hw, h]
  | cons c t ih =>
    obtain ⟨b, x⟩ := c
    intro lo a w hm h hw
    simp only [RegFile.wfFrom, Bool.and_eq_true, decide_eq_true_eq] at hm
    obtain ⟨⟨hlo, hx⟩, ht⟩ := hm
    simp only [RegFile.put]
    split
    · simp only [RegFile.wfFrom, Bool.and_eq_true, decide_eq_true_eq]
      exact ⟨⟨h, hw⟩, ⟨by omega, hx⟩, ht⟩
    · split
      · rename_i hab
        simp only [RegFile.wfFrom, Bool.and_eq_true, decide_eq_true_eq]
        exact ⟨⟨h, hw⟩, hab ▸ ht⟩
      · simp only [RegFile.wfFrom, Bool.and_eq_true, decide_eq_true_eq]
        exact ⟨⟨hlo, hx⟩, ih ht (by omega) hw⟩

/-- A write keeps the canonical form. -/
theorem RegFile.set_wf {m : RegFile} (a : Nat) (w : Word) (h : m.wf = true) : (m.set a w).wf = true := by
  unfold RegFile.set
  split
  · exact RegFile.wfFrom_filter m _ h
  · exact RegFile.put_wf m h (Nat.zero_le a) ‹_›

/-- A clear keeps the canonical form. -/
theorem RegFile.clear_wf {m : RegFile} (p : Nat → Bool) (h : m.wf = true) : (m.clear p).wf = true :=
  RegFile.wfFrom_filter m _ h

theorem RegFile.find_filter_out (m : RegFile) (q : Nat → Bool) {a : Nat} (h : q a = false) :
    RegFile.find (m.filter (fun c => q c.1)) a = none := by
  induction m with
  | nil => rfl
  | cons c t ih =>
    obtain ⟨b, w⟩ := c
    by_cases hp : q b = true
    · have hab : a ≠ b := fun e => by rw [e, hp] at h; exact absurd h (by decide)
      rw [List.filter_cons_of_pos (by simpa using hp), RegFile.find, if_neg hab]; exact ih
    · rw [List.filter_cons_of_neg (by simpa using hp)]; exact ih

theorem RegFile.find_filter_in (m : RegFile) (q : Nat → Bool) {a : Nat} (h : q a = true) :
    RegFile.find (m.filter (fun c => q c.1)) a = m.find a := by
  induction m with
  | nil => rfl
  | cons c t ih =>
    obtain ⟨b, w⟩ := c
    by_cases hp : q b = true
    · rw [List.filter_cons_of_pos (by simpa using hp), RegFile.find, RegFile.find, ih]
    · have hab : a ≠ b := fun e => hp (e ▸ h)
      rw [List.filter_cons_of_neg (by simpa using hp), RegFile.find, if_neg hab, ih]

theorem RegFile.find_put_same (m : RegFile) (a : Nat) (w : Word) : (m.put a w).find a = some w := by
  induction m with
  | nil => simp [RegFile.put, RegFile.find]
  | cons c t ih =>
    obtain ⟨b, x⟩ := c
    simp only [RegFile.put]
    split
    · simp [RegFile.find]
    · split
      · simp [RegFile.find]
      · rename_i h; rw [RegFile.find, if_neg h, ih]

theorem RegFile.find_put_other (m : RegFile) {a b : Nat} (w : Word) (h : b ≠ a) : (m.put a w).find b = m.find b := by
  induction m with
  | nil => simp [RegFile.put, RegFile.find, h]
  | cons c t ih =>
    obtain ⟨k, x⟩ := c
    simp only [RegFile.put]
    split
    · rw [RegFile.find, if_neg h]
    · split
      · rename_i hak; rw [RegFile.find, if_neg h, RegFile.find, if_neg (hak ▸ h)]
      · rw [RegFile.find, RegFile.find, ih]

/-- A word written is read back. -/
@[simp] theorem RegFile.get_set_same (m : RegFile) (a : Nat) (w : Word) : (m.set a w).get a = w := by
  unfold RegFile.set RegFile.get
  split
  · rename_i h
    have e : RegFile.find (m.filter (fun c => c.1 != a)) a = none := RegFile.find_filter_out m (fun k => k != a) (by simp)
    rw [e, h]; rfl
  · rw [RegFile.find_put_same]; rfl

/-- A word not written keeps its value. -/
theorem RegFile.get_set_other (m : RegFile) {a b : Nat} (w : Word) (h : b ≠ a) : (m.set a w).get b = m.get b := by
  unfold RegFile.set RegFile.get
  split
  · have e : RegFile.find (m.filter (fun c => c.1 != a)) b = m.find b := RegFile.find_filter_in m (fun k => k != a) (by simp [h])
    rw [e]
  · rw [RegFile.find_put_other m w h]

/-- After a clear, a word of the set holds its reset value. -/
theorem RegFile.get_clear_in (m : RegFile) (p : Nat → Bool) {a : Nat} (h : p a = true) : (m.clear p).get a = resetOf a := by
  have e : (m.clear p).find a = none := RegFile.find_filter_out m (fun k => !p k) (by simp [h])
  simp [RegFile.get, e]

/-- After a clear, a word outside the set keeps its value. -/
theorem RegFile.get_clear_out (m : RegFile) (p : Nat → Bool) {a : Nat} (h : p a = false) : (m.clear p).get a = m.get a := by
  have e : (m.clear p).find a = m.find a := RegFile.find_filter_in m (fun k => !p k) (by simp [h])
  simp [RegFile.get, e]

end Sys2Proof.Machine
end

