-- ==== Sys2Proof/Laws/State.lean ====
section
/-!
SUPPORT. What each shared update of the state changes, field by field.
-/
namespace Sys2Proof.Machine

variable (s : State)

/-! A register write changes the storage alone -/

@[simp] theorem State.wr_pins (a : Nat) (w : Word) : (s.wr a w).pins = s.pins := rfl
@[simp] theorem State.wr_host (a : Nat) (w : Word) : (s.wr a w).host = s.host := rfl
@[simp] theorem State.wr_link (a : Nat) (w : Word) : (s.wr a w).link = s.link := rfl
@[simp] theorem State.wr_pwr (a : Nat) (w : Word) : (s.wr a w).pwr = s.pwr := rfl
@[simp] theorem State.wr_time (a : Nat) (w : Word) : (s.wr a w).time = s.time := rfl
@[simp] theorem State.wr_vet (a : Nat) (w : Word) : (s.wr a w).vet = s.vet := rfl
@[simp] theorem State.wr_syn (a : Nat) (w : Word) : (s.wr a w).syn = s.syn := rfl
@[simp] theorem State.wr_mgmt (a : Nat) (w : Word) : (s.wr a w).mgmt = s.mgmt := rfl
@[simp] theorem State.wr_silos (a : Nat) (w : Word) : (s.wr a w).silos = s.silos := rfl
@[simp] theorem State.wr_net (a : Nat) (w : Word) : (s.wr a w).net = s.net := rfl
@[simp] theorem State.wr_flow (a : Nat) (w : Word) : (s.wr a w).flow = s.flow := rfl
@[simp] theorem State.wr_route (a : Nat) (w : Word) : (s.wr a w).route = s.route := rfl
@[simp] theorem State.wr_audio (a : Nat) (w : Word) : (s.wr a w).audio = s.audio := rfl
@[simp] theorem State.wr_spelt (a : Nat) (w : Word) : (s.wr a w).spelt = s.spelt := rfl
@[simp] theorem State.wr_ports (a : Nat) (w : Word) : (s.wr a w).ports = s.ports := rfl
@[simp] theorem State.wr_ana (a : Nat) (w : Word) : (s.wr a w).ana = s.ana := rfl
@[simp] theorem State.wr_ps (a : Nat) (w : Word) : (s.wr a w).ps = s.ps := rfl
@[simp] theorem State.wr_meas (a : Nat) (w : Word) : (s.wr a w).meas = s.meas := rfl
@[simp] theorem State.wr_twin (a : Nat) (w : Word) : (s.wr a w).twin = s.twin := rfl
@[simp] theorem State.wr_drawn (a : Nat) (w : Word) : (s.wr a w).drawn = s.drawn := rfl
@[simp] theorem State.wr_out (a : Nat) (w : Word) : (s.wr a w).out = s.out := rfl
@[simp] theorem State.wr_pending (a : Nat) (w : Word) : (s.wr a w).pending = s.pending := rfl

/-! Setting a field of a register changes the storage alone -/

@[simp] theorem State.put_pins (f : Field) (v : Nat) : (s.put f v).pins = s.pins := rfl
@[simp] theorem State.put_host (f : Field) (v : Nat) : (s.put f v).host = s.host := rfl
@[simp] theorem State.put_link (f : Field) (v : Nat) : (s.put f v).link = s.link := rfl
@[simp] theorem State.put_pwr (f : Field) (v : Nat) : (s.put f v).pwr = s.pwr := rfl
@[simp] theorem State.put_time (f : Field) (v : Nat) : (s.put f v).time = s.time := rfl
@[simp] theorem State.put_vet (f : Field) (v : Nat) : (s.put f v).vet = s.vet := rfl
@[simp] theorem State.put_syn (f : Field) (v : Nat) : (s.put f v).syn = s.syn := rfl
@[simp] theorem State.put_mgmt (f : Field) (v : Nat) : (s.put f v).mgmt = s.mgmt := rfl
@[simp] theorem State.put_silos (f : Field) (v : Nat) : (s.put f v).silos = s.silos := rfl
@[simp] theorem State.put_net (f : Field) (v : Nat) : (s.put f v).net = s.net := rfl
@[simp] theorem State.put_flow (f : Field) (v : Nat) : (s.put f v).flow = s.flow := rfl
@[simp] theorem State.put_route (f : Field) (v : Nat) : (s.put f v).route = s.route := rfl
@[simp] theorem State.put_audio (f : Field) (v : Nat) : (s.put f v).audio = s.audio := rfl
@[simp] theorem State.put_spelt (f : Field) (v : Nat) : (s.put f v).spelt = s.spelt := rfl
@[simp] theorem State.put_ports (f : Field) (v : Nat) : (s.put f v).ports = s.ports := rfl
@[simp] theorem State.put_ana (f : Field) (v : Nat) : (s.put f v).ana = s.ana := rfl
@[simp] theorem State.put_ps (f : Field) (v : Nat) : (s.put f v).ps = s.ps := rfl
@[simp] theorem State.put_meas (f : Field) (v : Nat) : (s.put f v).meas = s.meas := rfl
@[simp] theorem State.put_twin (f : Field) (v : Nat) : (s.put f v).twin = s.twin := rfl
@[simp] theorem State.put_drawn (f : Field) (v : Nat) : (s.put f v).drawn = s.drawn := rfl
@[simp] theorem State.put_out (f : Field) (v : Nat) : (s.put f v).out = s.out := rfl
@[simp] theorem State.put_pending (f : Field) (v : Nat) : (s.put f v).pending = s.pending := rfl

/-! The other field operations are settings of a field -/

@[simp] theorem State.raise_eq (f : Field) : s.raise f = s.put f 1 := rfl
@[simp] theorem State.clr_eq (f : Field) : s.clr f = s.put f 0 := rfl
@[simp] theorem State.count_eq (f : Field) : s.count f = s.put f (s.get f + 1) := rfl

/-! What leaves the device changes the record alone -/

@[simp] theorem State.emit_regs (x : Output) : (s.emit x).regs = s.regs := rfl
@[simp] theorem State.emit_pins (x : Output) : (s.emit x).pins = s.pins := rfl
@[simp] theorem State.emit_host (x : Output) : (s.emit x).host = s.host := rfl
@[simp] theorem State.emit_link (x : Output) : (s.emit x).link = s.link := rfl
@[simp] theorem State.emit_pwr (x : Output) : (s.emit x).pwr = s.pwr := rfl
@[simp] theorem State.emit_time (x : Output) : (s.emit x).time = s.time := rfl
@[simp] theorem State.emit_vet (x : Output) : (s.emit x).vet = s.vet := rfl
@[simp] theorem State.emit_syn (x : Output) : (s.emit x).syn = s.syn := rfl
@[simp] theorem State.emit_mgmt (x : Output) : (s.emit x).mgmt = s.mgmt := rfl
@[simp] theorem State.emit_silos (x : Output) : (s.emit x).silos = s.silos := rfl
@[simp] theorem State.emit_net (x : Output) : (s.emit x).net = s.net := rfl
@[simp] theorem State.emit_flow (x : Output) : (s.emit x).flow = s.flow := rfl
@[simp] theorem State.emit_route (x : Output) : (s.emit x).route = s.route := rfl
@[simp] theorem State.emit_audio (x : Output) : (s.emit x).audio = s.audio := rfl
@[simp] theorem State.emit_spelt (x : Output) : (s.emit x).spelt = s.spelt := rfl
@[simp] theorem State.emit_ports (x : Output) : (s.emit x).ports = s.ports := rfl
@[simp] theorem State.emit_ana (x : Output) : (s.emit x).ana = s.ana := rfl
@[simp] theorem State.emit_ps (x : Output) : (s.emit x).ps = s.ps := rfl
@[simp] theorem State.emit_meas (x : Output) : (s.emit x).meas = s.meas := rfl
@[simp] theorem State.emit_twin (x : Output) : (s.emit x).twin = s.twin := rfl
@[simp] theorem State.emit_drawn (x : Output) : (s.emit x).drawn = s.drawn := rfl
@[simp] theorem State.emit_pending (x : Output) : (s.emit x).pending = s.pending := rfl
@[simp] theorem State.emit_out (x : Output) : (s.emit x).out = x :: s.out := rfl

/-! Reading -/

/-- Reads see the storage alone. -/
theorem State.rd_congr {s t : State} (h : s.regs = t.regs) (a : Nat) : s.rd a = t.rd a := by simp only [State.rd, h]

theorem State.get_congr {s t : State} (h : s.regs = t.regs) (f : Field) : s.get f = t.get f := by
  simp only [State.get, State.rd, h]

@[simp] theorem State.rd_emit (x : Output) (a : Nat) : (s.emit x).rd a = s.rd a := rfl
@[simp] theorem State.get_emit (x : Output) (f : Field) : (s.emit x).get f = s.get f := rfl

@[simp] theorem State.rd_wr_same (a : Nat) (w : Word) : (s.wr a w).rd a = w := RegFile.get_set_same s.regs a w

theorem State.rd_wr_other {a b : Nat} (w : Word) (h : b ≠ a) : (s.wr a w).rd b = s.rd b := RegFile.get_set_other s.regs w h

@[simp] theorem State.rd_put_same (f : Field) (v : Nat) : (s.put f v).rd f.addr = f.inWord (s.rd f.addr) v := s.rd_wr_same _ _

theorem State.rd_put_other (f : Field) (v : Nat) {b : Nat} (h : b ≠ f.addr) : (s.put f v).rd b = s.rd b := s.rd_wr_other _ h

theorem State.get_wr_other (f : Field) {a : Nat} (w : Word) (h : f.addr ≠ a) : (s.wr a w).get f = s.get f := by
  simp only [State.get, s.rd_wr_other w h]

/-- A field set reads its value, taken to its width. -/
theorem State.get_put_same (f : Field) (h : f.Ok) (v : Nat) : (s.put f v).get f = v % 2 ^ f.width := by
  simp only [State.get, s.rd_put_same, Field.ofWord_inWord_same f h]

/-- A field of another register keeps its value. -/
theorem State.get_put_reg (f g : Field) (v : Nat) (h : f.addr ≠ g.addr) : (s.put g v).get f = s.get f := by
  simp only [State.get, s.rd_put_other g v h]

/-- A field of the same register that shares no bit keeps its value. -/
theorem State.get_put_field (f g : Field) (v : Nat) (h : f.addr = g.addr) (hf : f.Ok) (hg : g.Ok) (a : g.Apart f) :
    (s.put g v).get f = s.get f := by
  simp only [State.get, h, s.rd_put_same, Field.ofWord_inWord_other f g hf hg a]

/-- A one-bit field set to 1 is set. -/
theorem State.flag_raise (f : Field) (h : f.Ok) : (s.raise f).flag f = true := by
  have hw : 1 < 2 ^ f.width := Nat.one_lt_two_pow (by unfold Field.width; have := h.1; omega)
  simp [State.flag, s.get_put_same f h, Nat.mod_eq_of_lt hw]

/-- A field cleared is clear. -/
theorem State.flag_clr (f : Field) (h : f.Ok) : (s.clr f).flag f = false := by
  simp [State.flag, s.get_put_same f h]

/-! The storage keeps its canonical form -/

theorem State.wr_wf (a : Nat) (w : Word) (h : s.regs.wf = true) : (s.wr a w).regs.wf = true := RegFile.set_wf a w h

theorem State.put_wf (f : Field) (v : Nat) (h : s.regs.wf = true) : (s.put f v).regs.wf = true := RegFile.set_wf _ _ h

theorem State.clearDomain_wf (d : Nat) (h : s.regs.wf = true) : (s.clearDomain d).regs.wf = true :=
  RegFile.clear_wf (fun a => regDomain a == d) h

/-- A domain's reset returns its registers to their reset values (R35). -/
theorem State.clearDomain_in (d : Nat) {a : Nat} (h : regDomain a = d) : (s.clearDomain d).rd a = resetOf a :=
  RegFile.get_clear_in s.regs (fun a => regDomain a == d) (by simp [h])

/-- and leaves every other domain's as they are. -/
theorem State.clearDomain_out (d : Nat) {a : Nat} (h : regDomain a ≠ d) : (s.clearDomain d).rd a = s.rd a :=
  RegFile.get_clear_out s.regs (fun a => regDomain a == d) (by simp [h])

end Sys2Proof.Machine
end

