-- ==== Sys2Proof/Laws/Irq.lean ====
section
/-!
SUPPORT. What the end of a command changes: the interrupt outputs and nothing else (R69 to R71).
-/
namespace Sys2Proof.Machine

/-- A property that every turn of a fold keeps holds after it. -/
theorem forN_keeps {σ : Type} (P : σ → Prop) (n : Nat) (f : Nat → σ → σ) (h : ∀ k x, P x → P (f k x)) (x : σ) (hx : P x) :
    P (forN n f x) := by
  induction n with
  | zero => exact hx
  | succ n ih => exact h _ _ ih

/-- A part of the state that no turn of a fold changes stands after it. -/
theorem forN_same {σ α : Type} (g : σ → α) (n : Nat) (f : Nat → σ → σ) (h : ∀ k x, g (f k x) = g x) (x : σ) :
    g (forN n f x) = g x :=
  forN_keeps (fun y => g y = g x) n f (fun k y hy => (h k y).trans hy) x rfl

variable (s : State)

/-! Sending a vector -/

@[simp] theorem State.sendVector_link (v : Nat) : (s.sendVector v).link = s.link := by
  unfold State.sendVector; split <;> (try split) <;> (try split) <;> rfl
@[simp] theorem State.sendVector_pwr (v : Nat) : (s.sendVector v).pwr = s.pwr := by
  unfold State.sendVector; split <;> (try split) <;> (try split) <;> rfl
@[simp] theorem State.sendVector_time (v : Nat) : (s.sendVector v).time = s.time := by
  unfold State.sendVector; split <;> (try split) <;> (try split) <;> rfl
@[simp] theorem State.sendVector_vet (v : Nat) : (s.sendVector v).vet = s.vet := by
  unfold State.sendVector; split <;> (try split) <;> (try split) <;> rfl
@[simp] theorem State.sendVector_syn (v : Nat) : (s.sendVector v).syn = s.syn := by
  unfold State.sendVector; split <;> (try split) <;> (try split) <;> rfl
@[simp] theorem State.sendVector_mgmt (v : Nat) : (s.sendVector v).mgmt = s.mgmt := by
  unfold State.sendVector; split <;> (try split) <;> (try split) <;> rfl
@[simp] theorem State.sendVector_silos (v : Nat) : (s.sendVector v).silos = s.silos := by
  unfold State.sendVector; split <;> (try split) <;> (try split) <;> rfl
@[simp] theorem State.sendVector_net (v : Nat) : (s.sendVector v).net = s.net := by
  unfold State.sendVector; split <;> (try split) <;> (try split) <;> rfl
@[simp] theorem State.sendVector_flow (v : Nat) : (s.sendVector v).flow = s.flow := by
  unfold State.sendVector; split <;> (try split) <;> (try split) <;> rfl
@[simp] theorem State.sendVector_route (v : Nat) : (s.sendVector v).route = s.route := by
  unfold State.sendVector; split <;> (try split) <;> (try split) <;> rfl
@[simp] theorem State.sendVector_audio (v : Nat) : (s.sendVector v).audio = s.audio := by
  unfold State.sendVector; split <;> (try split) <;> (try split) <;> rfl
@[simp] theorem State.sendVector_spelt (v : Nat) : (s.sendVector v).spelt = s.spelt := by
  unfold State.sendVector; split <;> (try split) <;> (try split) <;> rfl
@[simp] theorem State.sendVector_ports (v : Nat) : (s.sendVector v).ports = s.ports := by
  unfold State.sendVector; split <;> (try split) <;> (try split) <;> rfl
@[simp] theorem State.sendVector_ana (v : Nat) : (s.sendVector v).ana = s.ana := by
  unfold State.sendVector; split <;> (try split) <;> (try split) <;> rfl
@[simp] theorem State.sendVector_ps (v : Nat) : (s.sendVector v).ps = s.ps := by
  unfold State.sendVector; split <;> (try split) <;> (try split) <;> rfl
@[simp] theorem State.sendVector_meas (v : Nat) : (s.sendVector v).meas = s.meas := by
  unfold State.sendVector; split <;> (try split) <;> (try split) <;> rfl
@[simp] theorem State.sendVector_twin (v : Nat) : (s.sendVector v).twin = s.twin := by
  unfold State.sendVector; split <;> (try split) <;> (try split) <;> rfl
@[simp] theorem State.sendVector_drawn (v : Nat) : (s.sendVector v).drawn = s.drawn := by
  unfold State.sendVector; split <;> (try split) <;> (try split) <;> rfl
@[simp] theorem State.sendVector_pending (v : Nat) : (s.sendVector v).pending = s.pending := by
  unfold State.sendVector; split <;> (try split) <;> (try split) <;> rfl
@[simp] theorem State.sendVector_regs (v : Nat) : (s.sendVector v).regs = s.regs := by
  unfold State.sendVector; split <;> (try split) <;> (try split) <;> rfl
@[simp] theorem State.sendVector_pins (v : Nat) : (s.sendVector v).pins = s.pins := by
  unfold State.sendVector; split <;> (try split) <;> (try split) <;> rfl

/-- What neither a vector sent, nor the host ports' state, nor the pins hold stands at the end of a command. -/
theorem State.settleIrq_same {α : Type} (g : State → α) (hv : ∀ (s : State) v, g (s.sendVector v) = g s)
    (hh : ∀ (s : State) (h : HostSt), g { s with host := h } = g s)
    (hp : ∀ (s : State) (h : HostSt) (p : PinSt), g { s with host := h, pins := p } = g s) : g s.settleIrq = g s := by
  unfold State.settleIrq
  simp only
  rw [hp]
  split
  · rfl
  · apply forN_same
    intro k x
    split
    · exact hv x k
    · split
      · exact hh x _
      · rfl

@[simp] theorem State.settleIrq_link : s.settleIrq.link = s.link :=
  s.settleIrq_same (·.link) (fun x v => x.sendVector_link v) (fun _ _ => rfl) (fun _ _ _ => rfl)
@[simp] theorem State.settleIrq_pwr : s.settleIrq.pwr = s.pwr :=
  s.settleIrq_same (·.pwr) (fun x v => x.sendVector_pwr v) (fun _ _ => rfl) (fun _ _ _ => rfl)
@[simp] theorem State.settleIrq_time : s.settleIrq.time = s.time :=
  s.settleIrq_same (·.time) (fun x v => x.sendVector_time v) (fun _ _ => rfl) (fun _ _ _ => rfl)
@[simp] theorem State.settleIrq_vet : s.settleIrq.vet = s.vet :=
  s.settleIrq_same (·.vet) (fun x v => x.sendVector_vet v) (fun _ _ => rfl) (fun _ _ _ => rfl)
@[simp] theorem State.settleIrq_syn : s.settleIrq.syn = s.syn :=
  s.settleIrq_same (·.syn) (fun x v => x.sendVector_syn v) (fun _ _ => rfl) (fun _ _ _ => rfl)
@[simp] theorem State.settleIrq_mgmt : s.settleIrq.mgmt = s.mgmt :=
  s.settleIrq_same (·.mgmt) (fun x v => x.sendVector_mgmt v) (fun _ _ => rfl) (fun _ _ _ => rfl)
@[simp] theorem State.settleIrq_silos : s.settleIrq.silos = s.silos :=
  s.settleIrq_same (·.silos) (fun x v => x.sendVector_silos v) (fun _ _ => rfl) (fun _ _ _ => rfl)
@[simp] theorem State.settleIrq_net : s.settleIrq.net = s.net :=
  s.settleIrq_same (·.net) (fun x v => x.sendVector_net v) (fun _ _ => rfl) (fun _ _ _ => rfl)
@[simp] theorem State.settleIrq_flow : s.settleIrq.flow = s.flow :=
  s.settleIrq_same (·.flow) (fun x v => x.sendVector_flow v) (fun _ _ => rfl) (fun _ _ _ => rfl)
@[simp] theorem State.settleIrq_route : s.settleIrq.route = s.route :=
  s.settleIrq_same (·.route) (fun x v => x.sendVector_route v) (fun _ _ => rfl) (fun _ _ _ => rfl)
@[simp] theorem State.settleIrq_audio : s.settleIrq.audio = s.audio :=
  s.settleIrq_same (·.audio) (fun x v => x.sendVector_audio v) (fun _ _ => rfl) (fun _ _ _ => rfl)
@[simp] theorem State.settleIrq_spelt : s.settleIrq.spelt = s.spelt :=
  s.settleIrq_same (·.spelt) (fun x v => x.sendVector_spelt v) (fun _ _ => rfl) (fun _ _ _ => rfl)
@[simp] theorem State.settleIrq_ports : s.settleIrq.ports = s.ports :=
  s.settleIrq_same (·.ports) (fun x v => x.sendVector_ports v) (fun _ _ => rfl) (fun _ _ _ => rfl)
@[simp] theorem State.settleIrq_ana : s.settleIrq.ana = s.ana :=
  s.settleIrq_same (·.ana) (fun x v => x.sendVector_ana v) (fun _ _ => rfl) (fun _ _ _ => rfl)
@[simp] theorem State.settleIrq_ps : s.settleIrq.ps = s.ps :=
  s.settleIrq_same (·.ps) (fun x v => x.sendVector_ps v) (fun _ _ => rfl) (fun _ _ _ => rfl)
@[simp] theorem State.settleIrq_meas : s.settleIrq.meas = s.meas :=
  s.settleIrq_same (·.meas) (fun x v => x.sendVector_meas v) (fun _ _ => rfl) (fun _ _ _ => rfl)
@[simp] theorem State.settleIrq_twin : s.settleIrq.twin = s.twin :=
  s.settleIrq_same (·.twin) (fun x v => x.sendVector_twin v) (fun _ _ => rfl) (fun _ _ _ => rfl)
@[simp] theorem State.settleIrq_drawn : s.settleIrq.drawn = s.drawn :=
  s.settleIrq_same (·.drawn) (fun x v => x.sendVector_drawn v) (fun _ _ => rfl) (fun _ _ _ => rfl)
@[simp] theorem State.settleIrq_pending : s.settleIrq.pending = s.pending :=
  s.settleIrq_same (·.pending) (fun x v => x.sendVector_pending v) (fun _ _ => rfl) (fun _ _ _ => rfl)
@[simp] theorem State.settleIrq_regs : s.settleIrq.regs = s.regs :=
  s.settleIrq_same (·.regs) (fun x v => x.sendVector_regs v) (fun _ _ => rfl) (fun _ _ _ => rfl)
@[simp] theorem State.settleIrq_rd (a : Nat) : s.settleIrq.rd a = s.rd a := State.rd_congr s.settleIrq_regs a
@[simp] theorem State.settleIrq_get (f : Field) : s.settleIrq.get f = s.get f := State.get_congr s.settleIrq_regs f
@[simp] theorem State.settleIrq_flag (f : Field) : s.settleIrq.flag f = s.flag f := by simp [State.flag]

/-! What the sources say depends on the storage alone -/

theorem State.raw_congr {s t : State} (h : s.regs = t.regs) : s.raw = t.raw := by
  unfold State.raw State.rawOf State.rd
  rw [h]

theorem State.enabledRaw_congr {s t : State} (h : s.regs = t.regs) : s.enabledRaw = t.enabledRaw := by
  unfold State.enabledRaw State.get64 State.rd
  rw [State.raw_congr h, h]

theorem State.activeVectors_congr {s t : State} (h : s.regs = t.regs) : s.activeVectors = t.activeVectors := by
  unfold State.activeVectors
  rw [State.enabledRaw_congr h]
  simp only [State.get_congr h]

theorem State.irqPinLow_congr {s t : State} (h : s.regs = t.regs) : s.irqPinLow = t.irqPinLow := by
  unfold State.irqPinLow State.flag
  rw [State.enabledRaw_congr h, State.get_congr h]

/-- At the end of a command the interrupt outputs stand as the sources say. -/
theorem State.settleIrq_irqOk : s.settleIrq.IrqOk := by
  constructor
  · rw [State.activeVectors_congr s.settleIrq_regs]; rfl
  · rw [State.irqPinLow_congr s.settleIrq_regs]
    have h : s.settleIrq.pins.irqLow = (if s.activeVectors = s.host.irqActive then s else
      forN 64 (fun v x =>
        if s.activeVectors.testBit v && !s.host.irqActive.testBit v then x.sendVector v
        else if s.host.irqActive.testBit v && !s.activeVectors.testBit v && x.vectorMasked v then
          { x with host := { x.host with pba := x.host.pba &&& (2 ^ 64 - 1 - 2 ^ v) } }
        else x) s).irqPinLow := rfl
    rw [h]
    apply State.irqPinLow_congr
    split
    · rfl
    · apply forN_same
      intro k x
      split
      · exact x.sendVector_regs k
      · split <;> rfl

/-- A meaning that ends by `finish` answers a next state, with the interrupts settled. -/
@[simp] theorem finish_eq (t : State) : (finish s = .next t) ↔ t = s.settleIrq := by
  unfold finish
  constructor
  · intro h; injection h with h; exact h.symm
  · intro h; rw [h]

end Sys2Proof.Machine
end

