-- ==== Sys2Proof/Laws/Ops.lean ====
section
/-!
SUPPORT. The operations that every block shares: tables, folds, a host port's write, and the host ports' state at the end of a
command.
-/
namespace Sys2Proof.Machine

/-! Tables -/

@[simp] theorem look_nil {α : Type} (d : α) (k : Nat) : look d [] k = d := rfl

@[simp] theorem look_upd_same {α : Type} (d : α) (l : List (Nat × α)) (k : Nat) (x : α) : look d (upd l k x) k = x := by
  induction l with
  | nil => simp [upd, look]
  | cons e t ih =>
    obtain ⟨j, y⟩ := e
    simp only [upd]
    split
    · simp [look]
    · split
      · simp [look]
      · rename_i h; rw [look, if_neg h, ih]

theorem look_upd_other {α : Type} (d : α) (l : List (Nat × α)) {j k : Nat} (x : α) (h : k ≠ j) : look d (upd l j x) k = look d l k := by
  induction l with
  | nil => simp [upd, look, h]
  | cons e t ih =>
    obtain ⟨i, y⟩ := e
    simp only [upd]
    split
    · rw [look, if_neg h]
    · split
      · rename_i e; rw [look, if_neg h, look, if_neg (e ▸ h)]
      · rw [look, look, ih]

/-! Folds -/

/-- A part of the state that no element of a list changes stands after the fold. -/
theorem foldl_same {σ α β : Type} (g : σ → α) (f : σ → β → σ) (h : ∀ x b, g (f x b) = g x) (l : List β) (x : σ) :
    g (l.foldl f x) = g x := by
  induction l generalizing x with
  | nil => rfl
  | cons b t ih => rw [List.foldl_cons, ih, h]

variable (s : State)

/-! A host port's write (R75, R406) -/

theorem State.abortHolds_free (h : s.NoAbort) (a : Nat) : s.abortHolds a = false := by
  unfold State.abortHolds; rw [h.1]

/-- While no abort runs a write takes effect, and marks its page for the image. -/
theorem State.hostPut_free (h : s.NoAbort) (a : Nat) (w : Word) (f : State → State) : s.hostPut a w f = (f s).markDirty a := by
  unfold State.hostPut; simp [State.abortHolds_free s h a, h.2]

/-- Marking a page changes the list of dirty pages alone. -/
theorem State.markDirty_same {α : Type} (g : State → α) (h : ∀ (s : State) (d : List (Nat × Nat)), g { s with twin := { s.twin with dirty := d } } = g s)
    (a : Nat) : g (s.markDirty a) = g s := by
  unfold State.markDirty
  split
  · rfl
  · apply forN_same
    intro k x
    dsimp only
    split
    · exact h x _
    · rfl

@[simp] theorem State.markDirty_pins (a : Nat) : (s.markDirty a).pins = s.pins := s.markDirty_same (·.pins) (fun _ _ => rfl) a
@[simp] theorem State.markDirty_host (a : Nat) : (s.markDirty a).host = s.host := s.markDirty_same (·.host) (fun _ _ => rfl) a
@[simp] theorem State.markDirty_link (a : Nat) : (s.markDirty a).link = s.link := s.markDirty_same (·.link) (fun _ _ => rfl) a
@[simp] theorem State.markDirty_pwr (a : Nat) : (s.markDirty a).pwr = s.pwr := s.markDirty_same (·.pwr) (fun _ _ => rfl) a
@[simp] theorem State.markDirty_time (a : Nat) : (s.markDirty a).time = s.time := s.markDirty_same (·.time) (fun _ _ => rfl) a
@[simp] theorem State.markDirty_vet (a : Nat) : (s.markDirty a).vet = s.vet := s.markDirty_same (·.vet) (fun _ _ => rfl) a
@[simp] theorem State.markDirty_syn (a : Nat) : (s.markDirty a).syn = s.syn := s.markDirty_same (·.syn) (fun _ _ => rfl) a
@[simp] theorem State.markDirty_mgmt (a : Nat) : (s.markDirty a).mgmt = s.mgmt := s.markDirty_same (·.mgmt) (fun _ _ => rfl) a
@[simp] theorem State.markDirty_silos (a : Nat) : (s.markDirty a).silos = s.silos := s.markDirty_same (·.silos) (fun _ _ => rfl) a
@[simp] theorem State.markDirty_net (a : Nat) : (s.markDirty a).net = s.net := s.markDirty_same (·.net) (fun _ _ => rfl) a
@[simp] theorem State.markDirty_flow (a : Nat) : (s.markDirty a).flow = s.flow := s.markDirty_same (·.flow) (fun _ _ => rfl) a
@[simp] theorem State.markDirty_route (a : Nat) : (s.markDirty a).route = s.route := s.markDirty_same (·.route) (fun _ _ => rfl) a
@[simp] theorem State.markDirty_audio (a : Nat) : (s.markDirty a).audio = s.audio := s.markDirty_same (·.audio) (fun _ _ => rfl) a
@[simp] theorem State.markDirty_spelt (a : Nat) : (s.markDirty a).spelt = s.spelt := s.markDirty_same (·.spelt) (fun _ _ => rfl) a
@[simp] theorem State.markDirty_ports (a : Nat) : (s.markDirty a).ports = s.ports := s.markDirty_same (·.ports) (fun _ _ => rfl) a
@[simp] theorem State.markDirty_ana (a : Nat) : (s.markDirty a).ana = s.ana := s.markDirty_same (·.ana) (fun _ _ => rfl) a
@[simp] theorem State.markDirty_ps (a : Nat) : (s.markDirty a).ps = s.ps := s.markDirty_same (·.ps) (fun _ _ => rfl) a
@[simp] theorem State.markDirty_meas (a : Nat) : (s.markDirty a).meas = s.meas := s.markDirty_same (·.meas) (fun _ _ => rfl) a
@[simp] theorem State.markDirty_drawn (a : Nat) : (s.markDirty a).drawn = s.drawn := s.markDirty_same (·.drawn) (fun _ _ => rfl) a
@[simp] theorem State.markDirty_out (a : Nat) : (s.markDirty a).out = s.out := s.markDirty_same (·.out) (fun _ _ => rfl) a
@[simp] theorem State.markDirty_pending (a : Nat) : (s.markDirty a).pending = s.pending := s.markDirty_same (·.pending) (fun _ _ => rfl) a
@[simp] theorem State.markDirty_regs (a : Nat) : (s.markDirty a).regs = s.regs := s.markDirty_same (·.regs) (fun _ _ => rfl) a
@[simp] theorem State.markDirty_rd (a b : Nat) : (s.markDirty a).rd b = s.rd b := State.rd_congr (s.markDirty_regs a) b
@[simp] theorem State.markDirty_get (a : Nat) (f : Field) : (s.markDirty a).get f = s.get f := State.get_congr (s.markDirty_regs a) f
@[simp] theorem State.markDirty_flag (a : Nat) (f : Field) : (s.markDirty a).flag f = s.flag f := by simp [State.flag]

/-! The host ports and the pins at the end of a command -/

theorem State.sendVector_hostf {α : Type} (g : HostSt → α) (hg : ∀ (h : HostSt) b, g { h with pba := b } = g h) (v : Nat) :
    g (s.sendVector v).host = g s.host := by
  unfold State.sendVector
  split
  · rfl
  · split
    · exact hg _ _
    · split <;> rfl

/-- Everything of the host ports but the vectors and their pending bits stands at the end of a command. -/
theorem State.settleIrq_hostf {α : Type} (g : HostSt → α) (hg : ∀ (h : HostSt) a b, g { h with irqActive := a, pba := b } = g h) :
    g s.settleIrq.host = g s.host := by
  have hp : ∀ (h : HostSt) b, g { h with pba := b } = g h := fun h b => hg h h.irqActive b
  have ha : ∀ (h : HostSt) a, g { h with irqActive := a } = g h := fun h a => hg h a h.pba
  unfold State.settleIrq
  simp only
  rw [ha]
  split
  · rfl
  · refine forN_same (fun x : State => g x.host) _ _ ?_ s
    intro k x
    split
    · exact x.sendVector_hostf g hp k
    · split
      · exact hp _ _
      · rfl

@[simp] theorem State.settleIrq_host_guard : s.settleIrq.host.guard = s.host.guard := s.settleIrq_hostf (·.guard) (fun _ _ _ => rfl)
@[simp] theorem State.settleIrq_host_shadow : s.settleIrq.host.shadow = s.host.shadow := s.settleIrq_hostf (·.shadow) (fun _ _ _ => rfl)
@[simp] theorem State.settleIrq_host_qspi : s.settleIrq.host.qspi = s.host.qspi := s.settleIrq_hostf (·.qspi) (fun _ _ _ => rfl)
@[simp] theorem State.settleIrq_host_qspiAddr : s.settleIrq.host.qspiAddr = s.host.qspiAddr := s.settleIrq_hostf (·.qspiAddr) (fun _ _ _ => rfl)
@[simp] theorem State.settleIrq_host_qspiQuad : s.settleIrq.host.qspiQuad = s.host.qspiQuad := s.settleIrq_hostf (·.qspiQuad) (fun _ _ _ => rfl)
@[simp] theorem State.settleIrq_host_ana : s.settleIrq.host.ana = s.host.ana := s.settleIrq_hostf (·.ana) (fun _ _ _ => rfl)
@[simp] theorem State.settleIrq_host_abort : s.settleIrq.host.abort = s.host.abort := s.settleIrq_hostf (·.abort) (fun _ _ _ => rfl)
@[simp] theorem State.settleIrq_host_held : s.settleIrq.host.held = s.host.held := s.settleIrq_hostf (·.held) (fun _ _ _ => rfl)
@[simp] theorem State.settleIrq_host_msixMasked : s.settleIrq.host.msixMasked = s.host.msixMasked := s.settleIrq_hostf (·.msixMasked) (fun _ _ _ => rfl)
@[simp] theorem State.settleIrq_host_ratePending : s.settleIrq.host.ratePending = s.host.ratePending := s.settleIrq_hostf (·.ratePending) (fun _ _ _ => rfl)
@[simp] theorem State.settleIrq_host_warmPending : s.settleIrq.host.warmPending = s.host.warmPending := s.settleIrq_hostf (·.warmPending) (fun _ _ _ => rfl)
@[simp] theorem State.settleIrq_host_subsystem : s.settleIrq.host.subsystem = s.host.subsystem := s.settleIrq_hostf (·.subsystem) (fun _ _ _ => rfl)
@[simp] theorem State.settleIrq_host_qspiWord : s.settleIrq.host.qspiWord = s.host.qspiWord := s.settleIrq_hostf (·.qspiWord) (fun _ _ _ => rfl)
@[simp] theorem State.settleIrq_host_pcie : s.settleIrq.host.pcie = s.host.pcie := s.settleIrq_hostf (·.pcie) (fun _ _ _ => rfl)
@[simp] theorem State.settleIrq_host_mps : s.settleIrq.host.mps = s.host.mps := s.settleIrq_hostf (·.mps) (fun _ _ _ => rfl)
@[simp] theorem State.settleIrq_host_mrrs : s.settleIrq.host.mrrs = s.host.mrrs := s.settleIrq_hostf (·.mrrs) (fun _ _ _ => rfl)

/-- The pins but HOST_IRQ_N stand at the end of a command. -/
theorem State.settleIrq_pins : s.settleIrq.pins = { s.pins with irqLow := s.irqPinLow } := by
  have h : s.settleIrq.pins.irqLow = s.irqPinLow := by rw [s.settleIrq_irqOk.2]; exact State.irqPinLow_congr s.settleIrq_regs
  have e : ∀ x : State, (forN 64 (fun v x =>
        if s.activeVectors.testBit v && !s.host.irqActive.testBit v then x.sendVector v
        else if s.host.irqActive.testBit v && !s.activeVectors.testBit v && x.vectorMasked v then
          { x with host := { x.host with pba := x.host.pba &&& (2 ^ 64 - 1 - 2 ^ v) } }
        else x) x).pins = x.pins := by
    intro x
    apply forN_same
    intro k y
    split
    · exact y.sendVector_pins k
    · split <;> rfl
  have q : { s.settleIrq.pins with irqLow := s.irqPinLow } = { s.pins with irqLow := s.irqPinLow } := by
    unfold State.settleIrq
    simp only
    split
    · rfl
    · rw [e]
  rw [← q, ← h]

end Sys2Proof.Machine
end

