-- ==== Sys2Proof/Laws/Units.lean ====
section
/-!
SUPPORT. A unit's own state reads back as it was written, and the other units of its kind stand.
-/
namespace Sys2Proof.Machine

variable (s : State)

@[simp] theorem State.setSilo_silo (n : Nat) (v : SiloQ) : (s.setSilo n v).silo n = v := look_upd_same _ _ n v
@[simp] theorem State.setDma_dma (n : Nat) (v : DmaCh) : (s.setDma n v).dma n = v := look_upd_same _ _ n v
@[simp] theorem State.setLane_lane (n : Nat) (v : Lane) : (s.setLane n v).lane n = v := look_upd_same _ _ n v
@[simp] theorem State.setDq_dq (n : Nat) (v : DQueue) : (s.setDq n v).dq n = v := look_upd_same _ _ n v
@[simp] theorem State.setUnit_unit (n : Nat) (v : PortUnit) : (s.setUnit n v).unit n = v := look_upd_same _ _ n v
@[simp] theorem State.setAin_ain (n : Nat) (v : AinSt) : (s.setAin n v).ain n = v := look_upd_same _ _ n v
@[simp] theorem State.setAout_aout (n : Nat) (v : OutSt) : (s.setAout n v).aout n = v := look_upd_same _ _ n v
@[simp] theorem State.setPsCh_psCh (n : Nat) (v : PsCh) : (s.setPsCh n v).psCh n = v := look_upd_same _ _ n v
@[simp] theorem State.setMcv_mcv (n : Nat) (v : McvSt) : (s.setMcv n v).mcv n = v := look_upd_same _ _ n v
@[simp] theorem State.setPlaus_plausSt (n : Nat) (v : PlausSt) : (s.setPlaus n v).plausSt n = v := look_upd_same _ _ n v
@[simp] theorem State.setMtrig_mtrig (n : Nat) (v : MtrigSt) : (s.setMtrig n v).mtrig n = v := look_upd_same _ _ n v
@[simp] theorem State.setChan_chan (n : Nat) (v : TwinChan) : (s.setChan n v).chan n = v := look_upd_same _ _ n v
@[simp] theorem State.setSlot_slot (n : Nat) (v : VetSlot) : (s.setSlot n v).slot n = v := look_upd_same _ _ n v
@[simp] theorem State.setCk_ck (n : Nat) (v : CkOut) : (s.setCk n v).ck n = v := look_upd_same _ _ n v
@[simp] theorem State.setRxf_rxf (n : Nat) (v : RxFlow) : (s.setRxf n v).rxf n = v := look_upd_same _ _ n v
@[simp] theorem State.setTxf_txf (n : Nat) (v : TxFlow) : (s.setTxf n v).txf n = v := look_upd_same _ _ n v
@[simp] theorem State.setPin_pin (n : Nat) (v : GpioPin) : (s.setPin n v).pin n = v := look_upd_same _ _ n v

theorem State.setSilo_silo_other {j k : Nat} (v : SiloQ) (h : k ≠ j) : (s.setSilo j v).silo k = s.silo k := look_upd_other _ _ v h
theorem State.setDma_dma_other {j k : Nat} (v : DmaCh) (h : k ≠ j) : (s.setDma j v).dma k = s.dma k := look_upd_other _ _ v h
theorem State.setLane_lane_other {j k : Nat} (v : Lane) (h : k ≠ j) : (s.setLane j v).lane k = s.lane k := look_upd_other _ _ v h
theorem State.setDq_dq_other {j k : Nat} (v : DQueue) (h : k ≠ j) : (s.setDq j v).dq k = s.dq k := look_upd_other _ _ v h
theorem State.setUnit_unit_other {j k : Nat} (v : PortUnit) (h : k ≠ j) : (s.setUnit j v).unit k = s.unit k := look_upd_other _ _ v h
theorem State.setAin_ain_other {j k : Nat} (v : AinSt) (h : k ≠ j) : (s.setAin j v).ain k = s.ain k := look_upd_other _ _ v h
theorem State.setAout_aout_other {j k : Nat} (v : OutSt) (h : k ≠ j) : (s.setAout j v).aout k = s.aout k := look_upd_other _ _ v h
theorem State.setPsCh_psCh_other {j k : Nat} (v : PsCh) (h : k ≠ j) : (s.setPsCh j v).psCh k = s.psCh k := look_upd_other _ _ v h
theorem State.setMcv_mcv_other {j k : Nat} (v : McvSt) (h : k ≠ j) : (s.setMcv j v).mcv k = s.mcv k := look_upd_other _ _ v h
theorem State.setPlaus_plausSt_other {j k : Nat} (v : PlausSt) (h : k ≠ j) : (s.setPlaus j v).plausSt k = s.plausSt k := look_upd_other _ _ v h
theorem State.setMtrig_mtrig_other {j k : Nat} (v : MtrigSt) (h : k ≠ j) : (s.setMtrig j v).mtrig k = s.mtrig k := look_upd_other _ _ v h
theorem State.setChan_chan_other {j k : Nat} (v : TwinChan) (h : k ≠ j) : (s.setChan j v).chan k = s.chan k := look_upd_other _ _ v h
theorem State.setSlot_slot_other {j k : Nat} (v : VetSlot) (h : k ≠ j) : (s.setSlot j v).slot k = s.slot k := look_upd_other _ _ v h
theorem State.setCk_ck_other {j k : Nat} (v : CkOut) (h : k ≠ j) : (s.setCk j v).ck k = s.ck k := look_upd_other _ _ v h
theorem State.setRxf_rxf_other {j k : Nat} (v : RxFlow) (h : k ≠ j) : (s.setRxf j v).rxf k = s.rxf k := look_upd_other _ _ v h
theorem State.setTxf_txf_other {j k : Nat} (v : TxFlow) (h : k ≠ j) : (s.setTxf j v).txf k = s.txf k := look_upd_other _ _ v h
theorem State.setPin_pin_other {j k : Nat} (v : GpioPin) (h : k ≠ j) : (s.setPin j v).pin k = s.pin k := look_upd_other _ _ v h

end Sys2Proof.Machine
end

