-- ==== Sys2Proof/Tests/Slice0.lean ====
section
/-!
SUPPORT. The model's own tests. First, that every check of well-formedness refuses a term; then a few values the spec gives or
that follow from it by hand; then, for each statement, one theorem that shows for every clause a state and operands meeting all
the clause's hypotheses together.
-/
namespace Sys2Proof.Tests

open Sys2Proof Sys2Proof.Machine
set_option linter.unusedVariables false
set_option Elab.async false

/-- The reset state with every domain on: where most witnesses start. -/
def s0 : State := State.reset.wr R.PWR_DOMAIN_STATE 0xFFFE

/-- The state a command ends in. -/
def after : Host.Outcome State Fault Refusal → State
  | .next t => t
  | _ => State.reset

/-! ## Well-formedness: one ill-formed term for each check -/

def packet : RtpPacket := { src := 1, dst := 2, sport := 3, dport := 4, version := 2, pt := 96, seq := 5, ts := 6, ssrc := 7, payload := [] }
def beat : TwinHb := { magic := 1, pairId := 2, seq := 3, state := 4, flags := 5, health := 6, push := 7, index := 8, uid := 9 }

/-- Each check of an RTP packet refuses a term. -/
theorem test_wf_packet : ([{ packet with src := 2 ^ 32 }, { packet with dst := 2 ^ 32 }, { packet with sport := 2 ^ 16 },
    { packet with dport := 2 ^ 16 }, { packet with version := 4 }, { packet with pt := 128 }, { packet with seq := 2 ^ 16 },
    { packet with ts := 2 ^ 32 }, { packet with ssrc := 2 ^ 32 }].all fun p => !Instr.wf (.flowPacketRx 0 p 0)) = true := by decide +kernel

/-- Each check of a PTP message and of its data set refuses a term. -/
theorem test_wf_ptp : (([{ source := 2 ^ 80, seq := 0 }, { source := 0, seq := 65536 }, { source := 0, seq := 0, corr := 2 ^ 64 },
    { source := 0, seq := 0, logInterval := 129 }, { source := 0, seq := 0, req := 2 ^ 80 }, { source := 0, seq := 0, ip := 2 ^ 32 },
    { source := 0, seq := 0, mac := 2 ^ 48 }, { source := 0, seq := 0, ds := { priority1 := 256 } },
    { source := 0, seq := 0, ds := { cls := 256 } }, { source := 0, seq := 0, ds := { accuracy := 256 } },
    { source := 0, seq := 0, ds := { variance := 65536 } }, { source := 0, seq := 0, ds := { priority2 := 256 } },
    { source := 0, seq := 0, ds := { gm := 2 ^ 64 } }, { source := 0, seq := 0, ds := { steps := 65536 } }] : List PtpMsg).all
    fun m => !Instr.wf (.ptpFollowUpRx 0 m) && !Instr.wf (.ptpDelayRespRx 0 m) && !Instr.wf (.ptpSyncRx 0 m 0)
      && !Instr.wf (.ptpDelayReqRx 0 m 0) && !Instr.wf (.ptpAnnounceRx 0 m 0)) = true := by decide +kernel

/-- Each check of a heartbeat refuses a term. -/
theorem test_wf_heartbeat : ([{ beat with magic := 2 ^ 32 }, { beat with pairId := 2 ^ 32 }, { beat with seq := 65536 },
    { beat with state := 256 }, { beat with flags := 256 }, { beat with health := 65536 }, { beat with push := 65536 },
    { beat with index := 2 ^ 64 }, { beat with uid := 2 ^ 64 }].all fun b => !Instr.wf (.twinHeartbeatRx 0 b 0)) = true := by
  decide +kernel

/-- Each remaining check refuses a term. -/
theorem test_wf_rest : ([.announceReceiptTimeout 0 (2 ^ 80), .igmpQueryRx 0 { version := 1 }, .igmpQueryRx 0 { version := 3, group := 2 ^ 32 },
    .igmpQueryRx 0 { version := 3, sources := [2 ^ 32] }, .twinPageRx true [], .handoverReadyRx (2 ^ 64), .voteTick [], .voteRequalify 0 [],
    .anComplete 0 2500, .domainWakeDone 0, .domainSleepDone 0, .domainResetDone 0, .qspiUnknownOpcode 0xEB, .abortBadClass 5 false 0,
    .combinerSample 0 (2 ^ 24) 0 false, .combinerSample 0 0 (2 ^ 24) false, .combinerSwitchDown 0 (2 ^ 24) 0, .combinerSwitchDown 0 0 (2 ^ 24),
    .mcvRundownDone 0 (2 ^ 24), .sensorPoll [] (List.replicate 8 0), .sensorPoll (List.replicate 8 0) [],
    .receiverLockAcquired 0 1 65 false].all fun c : Instr => !c.wf) = true := by decide +kernel

/-- Ordinary terms pass. -/
theorem test_wf_accepts : ([.flowPacketRx 0 packet 0, .twinHeartbeatRx 0 beat 0, .ptpFollowUpRx 1 { source := 1, seq := 2 },
    .anComplete 1 1000, .domainWakeDone 5, .abortBadClass 12 false 0, .snap].all Instr.wf) = true := by decide +kernel

/-! ## Values the spec works out -/

/-- Chapter 2's example: a 1 written to 0xC2_0C04 clears PWR.ALARM.FREQ_CAP and nothing else. -/
theorem test_alias_clears_freq_cap :
    (after (execBitAliasWrite 0 0xC20C04 1 (State.reset.wr R.PWR_ALARM 0xF))).rd R.PWR_ALARM = 0xD := by decide +kernel

/-- Chapter 2's example: lanes 0 to 7 need FLOWPTP and CLK, and 0x532 asks for all three; asked for alone, SPELT_LO is refused. -/
theorem test_domain_request : (after (execDomainReqWrite 0x532 State.reset)).rd R.PWR_DOMAIN_REQ = 0x532
    ∧ (after (execDomainReqWrite 0x20 State.reset)).get R.PWR_DOMAIN_STATUS_RESULT = 1 := by decide +kernel

/-- Table 7.3 and GWAMP: the amplitudes of +6, 0, −6 and −10 dB and of off, rounded to binary32. -/
theorem test_gain_words : [0x0258, 0, 0xFDA8, 0xFC18, 0x8000].map gwamp
    = [0x3FFF64C1, 0x3F800000, 0x3F004DCE, 0x3EA1E89B, 0] := by decide +kernel

/-- binary32 rounds to nearest, ties to even (R253): 2^24 + 1 is 2^24, and 2^24 + 3 is 2^24 + 4. -/
theorem test_float_ties_to_even : (fadd 0x4B800000 0x3F800000).v = 0x4B800000 ∧ (fadd 0x4B800000 0x40400000).v = 0x4B800002 := by
  decide +kernel

/-- FIPS 180's own example: the SHA-256 of "abc". -/
theorem test_sha256_abc : sha256 [0x61, 0x62, 0x63] = 0xBA7816BF8F01CFEA414140DE5DAE2223B00361A396177A9CB410FF61F20015AD := by
  decide +kernel

/-- Two commands that wait are carried out first in, first out. -/
theorem test_queue_order :
    (after (step { State.reset with pending := [.domainReqWrite 0x20, .snap] })).pending = [.snap] := by decide +kernel

/-! ## Witnesses: the hypotheses of every clause of every statement can be met -/

namespace Wa

def slot3 (src : Nat) : State := ((s0.put (R.REF_CFG_ENABLE 3) 1).put (R.REF_CFG_SRC 3) src).put (R.REF_RATE_RATE 3) 1
def q3 (q : Nat) : State := (slot3 8).put (R.REF_STATUS_QSTATE 3) q

/-- The hypotheses of `TicksAct`, clause by clause. -/
theorem test_meets_TicksAct : ([
    (let s : State := s0.setMclk true; let x : State := { s with time := { s.time with index := (s.time.index + 1) % 2 ^ 64, shortFrame := false, begun := false } }; decide (s.on .clk = true) && decide (s.link.mclk = true)),
    (let s : State := s0; let x : State := s.realignTimed.realignApply.pulsesRise.frameEnds.frameUnits.frameTakes.frameBegins; decide (s.on .clk = true) && decide (s.atBoundary = true) && decide (s.time.begun = false)),
    (let s : State := s0; let freqs : List Int := [1, 2, 3]; let x : State := forN 8 (fun n s => s.wr (R.REF_FREQ n) (BitVec.ofInt 32 (freqs.getD n 0))) s; decide (s.on .clk = true) && decide (s.vet.suspended = false) && decide (s.vetState ≠ 3)),
    (let s : State := s0.put R.VET_STATUS_STATE 3; let freqs : List Int := [1, 2, 3]; let x : State := forN 8 (fun n s => s.wr (R.REF_FREQ n) (BitVec.ofInt 32 (freqs.getD n 0))) s; decide (s.on .clk = true) && decide (s.vet.suspended = false) && decide (s.vetState = 3) && decide (s.loopMode ≠ 2) && decide (s.get R.VET_HOLD_HOLD_TIME ≠ 0xFFFF))] : List Bool).all id = true := by decide +kernel

/-- The hypotheses of `ReferenceRowsAct`, clause by clause. -/
theorem test_meets_ReferenceRowsAct : ([
    (let s : State := q3 3; let n : Fin 8 := 3; let k : Fin 3 := 0; let w : BitVec 32 := 0x01000F08; let x : State := s.wr (R.REF_CFG n) (w &&& 0x01FF1F1F); decide (s.on .clk = true) && decide (s.NoAbort) && decide (k = 0) && decide ((s.rd (R.REF_CFG n) ^^^ (w &&& 0x01FF1F1F)) &&& 0x0100001F = 0)),
    (let s : State := q3 1; let n : Fin 8 := 3; let t : Nat := 5000000000; let x : State := (s.setSlot n { s.slot n with last := some t, glitches := ((s.slot n).glitches.map (· + 1)).filter (· < 64), line := none, lineAt := t }).setQ n 2; decide (s.on .clk = true) && decide (s.slotUsed n = true) && decide (isPtpSrc (s.src n) = false) && decide (isVideoSrc (s.src n) = false) && decide (s.badRate n = false) && decide (s.vet.suspended = false) && decide (s.q n = 1) && decide ((s.slot n).last = none)),
    (let s : State := (((((slot3 4).put (R.REF_RATE_LINES 3) 100).put (R.REF_PERIOD_NUM 3) 1).put (R.REF_PERIOD_DEN 3) 50)).put (R.REF_STATUS_QSTATE 3) 2; let n : Fin 8 := 3; let t : Nat := 5000000000; let x : State := s.setSlot n { s.slot n with last := some t, glitches := ((s.slot n).glitches.map (· + 1)).filter (· < 64), line := some 0, lineAt := t }; decide (s.on .clk = true) && decide (s.slotUsed n = true) && decide (isVideoSrc (s.src n) = true) && decide (s.badRate n = false) && decide (s.vet.suspended = false) && decide (s.q n = 2) && decide ((s.slot n).last = none)),
    (let s : State := q3 3; let n : Fin 8 := 3; decide (s.on .clk = true) && decide (s.slotUsed n = true) && decide (s.q n = 3)),
    (let s : State := q3 3; let n : Fin 8 := 3; decide (s.on .clk = true) && decide (s.vet.suspended = false) && decide (s.q n = 3)),
    (let s : State := q3 5; let n : Fin 8 := 3; let r : Fin 4 := 1; decide (s.on .clk = true) && decide (s.slotUsed n = true) && decide (s.vet.suspended = false) && decide (s.q n = 5) && decide (isVideoSrc (s.src n) = false) && decide (s.get (R.REF_RATE_RATE n) = r) && decide (s.badRate n = false)),
    (let s : State := q3 6; let n : Fin 8 := 3; decide (s.on .clk = true) && decide (s.vet.suspended = false) && decide (s.q n = 6)),
    (let s : State := q3 2; let n : Fin 8 := 3; let freq : Int := 1000; decide (s.on .clk = true) && decide (s.q n = 2) && decide (s.vet.suspended = false) && decide (s.flag (R.REF_STATUS_FORMER n) = false) && decide (within (ppm 100) freq 0 = true)),
    (let s : State := {(q3 2).put (R.REF_STATUS_FORMER 3) 1 with vet := {(q3 2).vet with formers := [3, 5]}}; let n : Fin 8 := 3; let l : List Nat := [5]; decide (s.on .clk = true) && decide (s.vet.suspended = false) && decide (s.vet.formers = n.val :: l)),
    (let s : State := ((q3 4).put (R.REF_STATUS_QSTATE 5) 3).put (R.REF_STATUS_QSTATE 7) 3; let n : Fin 8 := 3; let freqs : List Int := [0, 0, 0, 5]; let x : State := s.wr (R.REF_FREQ n) (BitVec.ofInt 32 (freqs.getD n 0)); decide (s.on .clk = true) && decide (s.q n = 4) && decide (s.vet.suspended = false) && decide (2 ≤ (sel 8 (fun m => m != n.val && s.q m == 3)).length) && decide (within (x.voteTol / 2) (x.freqOf n) (median (x.freqOf n :: (sel 8 (fun m => m != n.val && s.q m == 3)).map x.freqOf)) = true))] : List Bool).all id = true := by decide +kernel

/-- The hypotheses of `LoopRowsAct`, clause by clause. -/
theorem test_meets_LoopRowsAct : ([
    (let s : State := (q3 3).put (R.REF_STATUS_QL_EFF 3) 2; let n : Fin 8 := 3; decide (s.on .clk = true) && decide (s.vet.switch = none) && decide (s.selectable false = some n.val) && decide (s.vet.former = none)),
    (let s : State := {q3 3 with vet := {(q3 3).vet with switch := some {target := 3}}}; let sw : VetSwitch := {target := 3}; decide (s.on .clk = true) && decide (s.vet.suspended = false) && decide (s.vet.switch = some sw)),
    (let s : State := ((({q3 3 with vet := {(q3 3).vet with switch := some {target := 3, measured := true}}}).put R.VET_STATUS_STATE 2).raise R.VET_STATUS_ACTIVE_VALID).put R.VET_STATUS_ACTIVE 5; let a : Nat := 5; let sw : VetSwitch := {target := 3, measured := true}; let x : State := ((s.setSlot a { s.slot a with absorbed := s.vetOffset }).endSwitch.setVetOffset (s.wrapFor sw.target (fitAt sw.points (s.wrapFor sw.target) (s.time.index * ofsSecond / s.rate)))).activate sw.target; decide (s.on .clk = true) && decide (s.vet.suspended = false) && decide (s.atBoundary = true) && decide (s.vet.switch = some sw) && decide (sw.measured = true) && decide (s.vetState = 2) && decide (s.activeSlot = some a)),
    (let s : State := q3 3; let n : Fin 8 := 3; let x : State := s.setSlot n { s.slot n with wtrDone := true }; decide (s.on .clk = true) && decide (s.q n = 3) && decide (s.vet.suspended = false)),
    (let s : State := ((q3 3).put R.VET_STATUS_STATE 1).raise R.VET_STATUS_ACTIVE_VALID; let n : Nat := 0; decide (s.on .clk = true) && decide (s.vetState = 1) && decide (s.activeSlot = some n) && decide (s.loopMode ≠ 2) && decide (s.vet.suspended = false) && decide ((s.rd R.VET_PHASE_ERR).toInt.natAbs < (if isPtpSrc (s.src n) then 256000 else 12800))),
    (let s : State := (((((q3 3).raise R.VET_STATUS_ACTIVE_VALID).put R.VET_STATUS_ACTIVE 3).raise R.VET_STATUS_GEARING).put R.VET_STATUS_EFF_BW 12).put R.VET_CTRL_BW 3; let n : Nat := 3; decide (s.on .clk = true) && decide (s.activeSlot = some n) && decide (s.flag R.VET_STATUS_GEARING = true) && decide (s.loopMode ≠ 2) && decide (s.vet.suspended = false) && decide (s.effCode n (s.get R.VET_CTRL_BW) < s.get R.VET_STATUS_EFF_BW - 1)),
    (let s : State := s0.put R.VET_STATUS_STATE 3; let x : State := ((s.clr R.VET_HOLD_REMAIN_REMAIN).setVetState 4).raise R.VET_EVENT_LOST; decide (s.on .clk = true) && decide (s.vetState = 3) && decide (s.loopMode ≠ 2) && decide (s.vet.suspended = false) && decide (s.get R.VET_HOLD_HOLD_TIME ≠ 0xFFFF)),
    (let s : State := s0.put R.VET_STATUS_STATE 2; let w : BitVec 32 := 55; decide (s.on .clk = true) && decide (s.NoAbort) && decide (s.vetState = 2)),
    (let s : State := s0; let w : BitVec 32 := 0x05050505; let x : State := s.wr R.VET_CTRL (w &&& 0xFFFF1F1F); decide (s.on .clk = true) && decide (s.NoAbort) && decide (x.get R.VET_CTRL_VOTE_TOL ≠ 0) && decide (x.activeSlot = none)),
    (let s : State := s0; let w : BitVec 32 := 7; let x : State := (((s.wr R.VET_LOOP_CTRL (withMode w 0 &&& 0x1F)).put R.VET_STATUS_OPEN 0).put R.VET_STATUS_FORCED 0); decide (s.on .clk = true) && decide (s.NoAbort) && decide (s.loopMode = 0)),
    (let s : State := s0; let w : BitVec 32 := 7; let x : State := (((s.wr R.VET_LOOP_CTRL (withMode w 1 &&& 0x1F)).put R.VET_STATUS_OPEN 0).put R.VET_STATUS_FORCED 1); decide (s.on .clk = true) && decide (s.NoAbort) && decide (s.loopMode = 0)),
    (let s : State := s0; let w : BitVec 32 := 7; decide (s.on .clk = true) && decide (s.NoAbort) && decide (s.loopMode ≠ 2) && decide (s.vet.switch = none)),
    (let s : State := s0.put R.VET_LOOP_CTRL_MODE 2; let w : BitVec 32 := 0xFFFFFFFF; decide (s.on .clk = true) && decide (s.NoAbort) && decide (s.loopMode = 2)),
    (let s : State := {s0 with time := {s0.time with index := 96000*2^32 + 48001}}; decide (s.on .clk = true)),
    (let s : State := s0.raise R.VET_STATUS_ACTIVE_VALID; let w : BitVec 32 := 0; decide (s.on .clk = true) && decide (s.NoAbort) && decide (s.flag R.VET_REALIGN_STATUS_BUSY = false) && decide (s.anyRunning = false) && decide (s.vet.switch = none) && decide (s.activeSlot.isSome = true) && decide (w.toNat.testBit 2 = false)),
    (let s : State := s0.raise R.VET_STATUS_ACTIVE_VALID; let w : BitVec 32 := 0; decide (s.on .clk = true) && decide (s.NoAbort) && decide (s.flag R.VET_REALIGN_STATUS_BUSY = false) && decide (s.vet.switch = none) && decide (s.activeSlot.isSome = true) && decide (w.toNat.testBit 2 = false)),
    (let s : State := s0.raise R.VET_STATUS_ACTIVE_VALID; let w : BitVec 32 := 4; decide (s.on .clk = true) && decide (s.NoAbort) && decide (s.flag R.VET_REALIGN_STATUS_BUSY = false) && decide (s.anyRunning = false) && decide (w.toNat.testBit 2 = true) && decide (s.time.index ≤ s.realignAt)),
    (let s : State := {s0 with vet := {s0.vet with realign := some {op := 3, timed := true}}}; let r : VetRealign := {op := 3, timed := true}; decide (s.on .clk = true) && decide (s.atBoundary = true) && decide (s.vet.realign = some r) && decide (r.timed = true) && decide (r.deferred = false) && decide (r.at_ ≤ s.time.index)),
    (let s : State := {(s0.setVetOffset 70000000000).raise R.VET_STATUS_ACTIVE_VALID with vet := {s0.vet with realign := some {op := 1, due := true}}}; let r : VetRealign := {op := 1, due := true}; let k : Int := wholeSamples s.rate (-s.vetOffset); let whole : Int := k * ofsSecond / s.rate; let q : VetRealign := { r with due := false, slewing := true, remainder := -s.vetOffset - whole, ticks := 0 }; let x : State := (s.stepIndex k).shiftMedia whole; decide (s.on .clk = true) && decide (s.atBoundary = true) && decide (s.time.begun = false) && decide (s.vet.realign = some r) && decide (r.due = true) && decide (r.deferred = false) && decide (r.op = 1) && decide (s.anyRunning = false) && decide (s.vet.switch = none) && decide (s.activeSlot.isSome = true)),
    (let s : State := {s0 with vet := {s0.vet with realign := some {op := 3, slewing := true}}}; let r : VetRealign := {op := 3, slewing := true}; decide (s.on .clk = true) && decide (s.vet.realign = some r) && decide (r.slewing = true) && decide ((r.op ≠ 2 ∨ s.vet.suspended = false)))] : List Bool).all id = true := by decide +kernel

/-- The hypotheses of `SynthesisRowsAct`, clause by clause. -/
theorem test_meets_SynthesisRowsAct : ([
    (let s : State := s0.put (adpllField 2) 1; decide (s.on .clk = true) && decide (s.syn.xoOk = true) && decide (s.adpll 2 = 1)),
    (let s : State := s0.put (adpllField 2) 2; let e : Int := -2001; decide (s.on .clk = true) && decide (2000 < Int.natAbs e) && decide (s.adpll 2 = 2)),
    (let s : State := s0; let x : State := ((({ s with syn := { s.syn with xoOk := false } }).clr R.SYN_STATUS_XO_OK).raise R.SYN_EVENT_XO_LOSS).coast 2; decide (s.pins.inReset = false) && decide (s.on .clk = true)),
    (let s : State := {s0.put (adpllField 2) 3 with syn := {s0.syn with xoOk := false}}; decide (s.on .clk = true) && decide (s.adpll 2 = 3)),
    (let s : State := s0; let ppb : Nat := 200001; decide (s.on .clk = true) && decide (200000 < ppb)),
    (let s : State := s0; decide (s.on .clk = true) && decide (s.syn.oscOk = true)),
    (let s : State := s0; let w : BitVec 32 := 1; decide (s.on .clk = true) && decide (s.NoAbort) && decide (s.flag R.SYN_ADPLL1_CTRL_EN = false) && decide (w.toNat.testBit 2 = false)),
    (let s : State := s0.raise R.SYN_ADPLL1_CTRL_EN; let w : BitVec 32 := 1; let x : State := ((s.wr R.SYN_ADPLL1_CTRL (R.SYN_ADPLL1_CTRL_EN.inWord w 0 &&& 3)).stopFrom1).put (adpllField 1) 0; decide (s.on .clk = true) && decide (s.NoAbort) && decide (s.flag R.SYN_ADPLL1_CTRL_EN = true) && decide (w.toNat.testBit 2 = false)),
    (let s : State := s0; let w : BitVec 32 := 4; decide (s.on .clk = true) && decide (s.NoAbort) && decide (s.flag R.SYN_ADPLL1_CTRL_EN = false) && decide (w.toNat.testBit 0 = false) && decide (ratio1Ok (s.get R.SYN_ADPLL1_INT_INT) (s.get R.SYN_ADPLL1_NUM_NUM) (s.get R.SYN_ADPLL1_DEN_DEN) = true)),
    (let s : State := State.reset; let w : BitVec 32 := 5; decide (s.on .clk = false) && decide (s.NoAbort) && decide (R.SYN_OSC_CFG_OSC_SEL.ofWord w ≠ 3)),
    (let s : State := s0; let n : Fin 12 := 11; let w : BitVec 32 := 0x11; decide (s.on .clk = true) && decide (s.NoAbort) && decide (s.flag (R.CKOUT_CFG_EN n) = false) && decide ((R.CKOUT_CFG_SRC n).ofWord w ≠ 3) && decide (s.flag R.SYN_SYNC_CTRL_ARM = false)),
    (let s : State := s0.raise (R.CKOUT_CFG_EN 11); let n : Fin 12 := 11; let w : BitVec 32 := 0x11; decide (s.on .clk = true) && decide (s.NoAbort) && decide (s.flag (R.CKOUT_CFG_EN n) = true)),
    (let s : State := s0; let n : Fin 12 := 11; let w : BitVec 32 := 0; decide (s.on .clk = true) && decide (s.NoAbort)),
    (let s : State := s0; let n : Fin 12 := 11; let w : BitVec 32 := 0; decide (s.on .clk = true) && decide (s.NoAbort)),
    (let s : State := {(s0.raise (R.CKOUT_CFG_EN 11)).put (adpllField 0) 2 with syn := {s0.syn with outs := [(11, {starting := true})]}}; let n : Fin 12 := 11; decide (s.on .clk = true) && decide (s.flag (R.CKOUT_CFG_EN n) = true) && decide ((s.ck n).starting = true) && decide ((s.ck n).aligned = false) && decide (s.flag (R.CKOUT_STATUS_SRC_ERR n) = false) && decide (s.ckSourceRuns (s.ck n).src = true)),
    (let s : State := s0; let w : BitVec 32 := 3; decide (s.on .clk = true) && decide (s.NoAbort)),
    (let s : State := s0; let w : BitVec 32 := 3; let n : Fin 12 := 4; decide (s.on .clk = true) && decide (s.NoAbort)),
    (let s : State := s0; let high : Nat := 8; let mis : List (Fin 12) := []; decide (s.on .clk = true) && decide (8 ≤ high) && decide (s.flag R.SYN_SYNC_CTRL_ARM = false) && decide (s.ports.trig ≠ some none)),
    (let s : State := (s0.put (adpllField 0) 2).put (adpllField 1) 1; decide (s.on .clk = true) && decide (s.adpll 0 = 2) && decide (s.adpll 1 = 1)),
    (let s : State := s0.put (adpllField 0) 1; decide (s.on .clk = true) && decide (s.syn.oscOk = true) && decide (s.adpll 0 = 1) && decide (s.adpll 1 ≠ 3) && decide (s.vet.suspended = false)),
    (let s : State := s0.put (adpllField 1) 2; let e : Int := 2001; decide (s.on .clk = true) && decide (2000 < Int.natAbs e) && decide (s.adpll 1 = 2)),
    (let s : State := (s0.put (adpllField 0) 2).put (adpllField 1) 2; let e : Int := -3000; let x : State := s.put R.SYN_ADPLL0_ERR_ERR (errField e); decide (s.on .clk = true) && decide (2000 < Int.natAbs e)),
    (let s : State := s0.put (adpllField 0) 2; let x : State := ((({ s with syn := { s.syn with oscOk := false } }).clr R.SYN_STATUS_OSC_OK).raise R.SYN_EVENT_OSC_LOSS).coast 0; decide (s.pins.inReset = false) && decide (s.on .clk = true)),
    (let s : State := {s0.put (adpllField 0) 3 with syn := {s0.syn with oscOk := false}}; decide (s.on .clk = true) && decide (s.adpll 0 = 3))] : List Bool).all id = true := by decide +kernel

end Wa

namespace Wb

def up : State := s0.put R.PWR_STALK_STATUS_STATE 2
def upA : State := {up with pins := {up.pins with aReleased := true}}

/-- The hypotheses of `LinkRowsAct`, clause by clause. -/
theorem test_meets_LinkRowsAct : ([
    (let s : State := upA; let die : Die := .dDie; let f : BitVec 256 := mkFlit 1 0 255 false 7 3 0x1234; let x : State := (s.setLinkEnd (isD die) { s.linkEnd (isD die) with silent := false }).takeAck (isD die) (bitsOf f.toNat 19 12) false; decide (s.linkState = 2) && decide ((s.linkEnd (isD die)).lost = false) && decide (flitCrc f.toNat = bitsOf f.toNat 255 240) && decide (bitsOf f.toNat 3 0 = 1) && decide (bitsOf f.toNat 20 20 = 0) && decide (flitSeq f = (x.linkEnd (isD die)).expected)),
    (let s : State := upA; let die : Die := .aDie; let f : BitVec 256 := 5; decide (s.linkState = 2) && decide ((s.linkEnd (isD die)).lost = false) && decide (flitCrc f.toNat ≠ bitsOf f.toNat 255 240)),
    (let s : State := upA; let die : Die := .aDie; decide (s.pins.inReset = false) && decide ((s.linkEnd (isD die)).lost = false) && decide (s.pins.aReleased = true)),
    (let s : State := upA; let die : Die := .aDie; decide ((s.linkEnd (isD die)).lost = false)),
    (let s : State := upA; let eye : BitVec 8 := 15; decide (s.pins.inReset = false) && decide (eye.toNat < 16) && decide (s.linkState = 2)),
    (let s : State := upA; decide (s.linkState = 2)),
    (let s : State := upA.put R.PWR_STALK_STATUS_STATE 3; let x : State := ((s.setLinkState 2).setLinkEnd true { s.link.d with attempts := 0, silent := false }).setLinkEnd false { s.link.a with attempts := 0, silent := false }; decide (s.linkState = 3)),
    (let s : State := upA.put R.PWR_STALK_STATUS_STATE 4; let w : BitVec 32 := 1; decide (s.NoAbort) && decide (s.linkState = 4) && decide (w.toNat.testBit 1 = false)),
    (let s : State := upA; let w : BitVec 32 := 0; decide (s.NoAbort) && decide (s.linkState = 2) && decide (w.toNat.testBit 1 = false)),
    (let s : State := upA; let die : Die := .aDie; decide (s.linkState = 2) && decide ((s.linkEnd (isD die)).lost = false)),
    (let s : State := upA.put R.PWR_STALK_STATUS_STATE 3; let die : Die := .aDie; decide (s.linkState = 3) && decide ((s.linkEnd (isD die)).lost = false) && decide ((s.linkEnd (isD die)).attempts < 2)),
    (let s : State := {upA.put R.PWR_STALK_STATUS_STATE 1 with link := {upA.link with d := {upA.link.d with attempts := 2}}}; let die : Die := .dDie; decide (s.linkState = 1) && decide ((s.linkEnd (isD die)).lost = false) && decide (2 ≤ (s.linkEnd (isD die)).attempts)),
    (let s : State := {upA with link := {upA.link with mclk := true}}; decide (s.link.mclk = true) && decide (s.aDieOn = true) && decide (s.link.a.lost = false)),
    (let s : State := upA.put R.PWR_STALK_STATUS_STATE 1; let x : State := { s with link := { s.link with d := {}, a := {}, everUp := true, compared := false } }; let y : State := (x.setLinkState 2).put R.SYS_ID_A_STEP Config.aStep.toNat; decide (s.linkState = 1) && decide (s.pwr.moves = [])),
    (let s : State := upA.put R.PWR_STALK_STATUS_SAFE 1; let w : BitVec 32 := 2; let x : State := s.wr R.PWR_STALK_CTRL (R.PWR_STALK_CTRL_RESUME.inWord w 1 &&& 4); decide (s.NoAbort) && decide (s.linkState = 2) && decide (s.link.a.lost = false) && decide (s.flag R.PWR_STALK_STATUS_SAFE = true) && decide (w.toNat.testBit 0 = false))] : List Bool).all id = true := by decide +kernel

/-- The hypotheses of `DomainsAndIslandsAct`, clause by clause. -/
theorem test_meets_DomainsAndIslandsAct : ([
    (let s : State := {upA with link := {upA.link with cool := true}}; let a : Int := 90000; let b : Int := 40000; decide (s.linkState = 2) && decide (50000 ≤ (a - b).natAbs) && decide (s.link.cool = true)),
    (let s : State := upA; let a : Int := 90000; let b : Int := 42001; decide (s.linkState = 2) && decide ((a - b).natAbs < 48000)),
    (let s : State := upA; let n : Fin 24 := 23; decide (s.pins.inReset = false) && decide (s.domOn (islandDom n) = true) && decide (s.get (R.ISL_EVT_STRETCH_CNT n) < 2 ^ 16 - 1)),
    (let s : State := upA; let lane : Fin 16 := 15; let w : BitVec 32 := 300; decide (s.NoAbort)),
    (let s : State := upA; let lane : Fin 16 := 15; let w : BitVec 32 := 300; decide (s.NoAbort)),
    (let s : State := upA.put (R.ISL_STATUS_SETTLING 3) 1; let n : Fin 24 := 3; let x : State := ({ s with drawn := s.drawn + 1 }).put (R.ISL_STATUS_VOLT n) (110 + Config.freeNat s.drawn % 61); decide (s.pins.inReset = false) && decide (s.domOn (islandDom n) = true) && decide ((n.val < 8 ∨ s.pwr.target.find? (fun e => e.1 == n.val - 8) = none))),
    (let s : State := {upA.put (R.ISL_STATUS_CUR_FREQ 23) 600 with pwr := {upA.pwr with target := [(15, 1000)]}}; let n : Fin 24 := 23; let l : Nat := 15; let goal : Nat := 1000; decide (s.pins.inReset = false) && decide (s.domOn (islandDom n) = true) && decide (8 ≤ n.val) && decide (s.pwr.target.find? (fun e => e.1 == n.val - 8) = some (l, goal)) && decide (s.get (R.ISL_STATUS_CUR_FREQ n) < goal)),
    (let s : State := upA; let w : BitVec 32 := 0xFFFE; let x : State := (s.wr R.PWR_DOMAIN_REQ (BitVec.ofNat 32 (domSet w.toNat))).put R.PWR_DOMAIN_STATUS_RESULT 0; decide (s.NoAbort) && decide (s.domRefusal (domSet w.toNat) = 0) && decide (domSet w.toNat &&& (s.rd R.PWR_TWIN_MASK).toNat = 0)),
    (let s : State := {upA with pwr := {upA.pwr with moves := [(3, true)]}}; let w : BitVec 32 := 6; decide (s.NoAbort) && decide (s.host.held = []) && decide (s.pwr.moves ≠ [])),
    (let s : State := {upA with pwr := {upA.pwr with moves := [(3, true), (9,true)]}}; let d : Fin 16 := 3; let x : State := (((({ s with pwr := { s.pwr with moves := [] } }).put (R.PWR_DOMAIN_STATE_ON.bit (d - 1)) 1).clr (R.PWR_DOMAIN_STATUS_BUSY.bit (d - 1))).islWake d).domWake d; decide (s.pwr.moves.head? = some (d.val, true))),
    (let s : State := {upA with pwr := {upA.pwr with moves := [(3, false), (9, false)]}}; let d : Fin 16 := 3; let x : State := ((({ s with pwr := { s.pwr with moves := [] } }).put (R.PWR_DOMAIN_STATE_ON.bit (d - 1)) 0).clr (R.PWR_DOMAIN_STATUS_BUSY.bit (d - 1))).islSleep d; decide (s.pwr.moves.head? = some (d.val, false)) && decide (d ≠ 10) && decide (s.domFades d = false) && decide (s.pwr.fading = [])),
    (let s : State := upA; let w : BitVec 32 := 0x20; decide (s.NoAbort)),
    (let s : State := upA.put (R.PWR_DOMAIN_RST_RST.bit 8) 1; let d : Fin 16 := 9; decide (1 ≤ d.val) && decide (s.NoAbort) && decide (s.host.held = []) && decide (s.host.warmPending = false) && decide (s.pwr.fading = [])),
    (let s : State := {((s0.put (R.ANA_O_STATUS_STATE 17) 5).setAout 17 {fade := some (false, 3)}) with pwr := {s0.pwr with moves := [(13, false)]}}; let d : Fin 16 := 13; decide (s.pwr.moves.head? = some (d.val, false)) && decide (s.domFades d = true) && decide (s.host.warmPending = false) && decide (s.NoAbort) && decide (s.host.held = []))] : List Bool).all id = true := by decide +kernel

end Wb

namespace Wc

def rr (a : Nat) : RegDesc := (rowOf a).getD { name := "", base := 0, c1 := 0, s1 := 0, c2 := 0, s2 := 0, rw := 0, ro := 0, wo := 0, w1c := 0, rc := 0, rwg := 0, rol := 0, roh := 0, reset := 0 }
def h1 : State := s0
def hq : State := s0.put R.SYS_STRAPS_HOST_SEL 1
def upA : State := {s0.put R.PWR_STALK_STATUS_STATE 2 with pins := {s0.pins with aReleased := true}}

/-- The hypotheses of `ReadsAct`, clause by clause. -/
theorem test_meets_ReadsAct : ([
    (let s : State := h1.wr (R.VET_SNAP_IDX_LO) 77; let p : Fin 4 := 0; let addr : BitVec 24 := 0x2060; decide (s.portOpen p = true) && decide (s.host.ana = []) && decide (badShape addr.toNat .word false = false) && decide (inTwin addr.toNat = false) && decide (inAlias addr.toNat = false) && decide (assigned p addr.toNat = true) && decide (isAna addr.toNat = false) && decide (s.accessible (canon addr.toNat) = true) && decide (measured (canon addr.toNat) = false)),
    (let s : State := h1.wr 0x1050 0xFFFFFFFF; let p : Fin 4 := 0; let addr : BitVec 24 := 0x1050; let size : AccessSize := .half; decide (s.portOpen p = true) && decide (s.host.ana = []) && decide (badShape addr.toNat size false = false) && decide (inTwin addr.toNat = false) && decide (inAlias addr.toNat = false) && decide (assigned p addr.toNat = true) && decide (isAna addr.toNat = false) && decide (s.accessible (canon addr.toNat) = true) && decide (measured (canon addr.toNat) = false)),
    (let s : State := h1; let p : Fin 4 := 0; let x : Fin 2 := 1; decide (s.portOpen p = true) && decide (s.host.ana = []) && decide (s.accessible (R.NET_TXTS_NS x) = true)),
    (let s : State := h1; let p : Fin 4 := 0; decide (s.portOpen p = true) && decide (s.host.ana = []) && decide (s.accessible R.MP_EVT_NS = true)),
    (let s : State := h1; let p : Fin 4 := 0; let addr : BitVec 24 := 0x7000; decide (s.portOpen p = true) && decide (s.host.ana = []) && decide (badShape addr.toNat .word false = false) && decide (inTwin addr.toNat = false) && decide (inAlias addr.toNat = false) && decide (isAna addr.toNat = false) && decide (assigned p addr.toNat = false)),
    (let s : State := h1; let p : Fin 4 := 0; let addr : BitVec 24 := 0x2001; let size : AccessSize := .half; let split : Bool := false; decide (s.portOpen p = true) && decide (s.host.ana = []) && decide (badShape addr.toNat size split = true) && decide (inTwin addr.toNat = false) && decide (s.dark p addr.toNat = false)),
    (let s : State := upA; let p : Fin 4 := 0; let addr : BitVec 24 := 0x70400; let size : AccessSize := .word; let y : AnaAcc := { port := p, write := false, addr := addr.toNat, size, tag := Config.freeNat s.drawn % 2 ^ 10 }; let x : State := ({ s with drawn := s.drawn + 1 }).accFlit y; decide (s.portOpen p = true) && decide (badShape addr.toNat size false = false) && decide (isAna addr.toNat = true) && decide (s.linkState = 2) && decide (s.host.ana = [])),
    (let s : State := upA.put R.PWR_STALK_STATUS_STATE 3; let p : Fin 4 := 0; let addr : BitVec 24 := 0x70400; let size : AccessSize := .byte; decide (s.portOpen p = true) && decide (badShape addr.toNat size false = false) && decide (isAna addr.toNat = true) && decide (s.linkState = 3)),
    (let s : State := upA.put R.PWR_STALK_STATUS_STATE 4; let p : Fin 4 := 0; let addr : BitVec 24 := 0x70400; decide (s.portOpen p = true) && decide (s.host.ana = []) && decide (badShape addr.toNat .word false = false) && decide (isAna addr.toNat = true) && decide (s.linkState = 4))] : List Bool).all id = true := by decide +kernel

/-- The hypotheses of `WritesTakeEffect`, clause by clause. -/
theorem test_meets_WritesTakeEffect : ([
    (let s : State := h1; let p : Fin 4 := 0; let addr : BitVec 24 := 0x2030; let w : BitVec 32 := 0x00112233; decide (s.portOpen p = true) && decide (s.InTurn p) && decide (s.host.guard = []) && decide (s.NoAbort) && decide (addr.toNat % 4 = 0) && decide (inTwin addr.toNat = false) && decide (inAlias addr.toNat = false) && decide (assigned p addr.toNat = true) && decide (isGuarded addr.toNat = false) && decide (isAna addr.toNat = false) && decide (s.accessible (canon addr.toNat) = true)),
    (let s : State := h1; let p : Fin 4 := 0; let addr : BitVec 24 := 0x2032; let size : AccessSize := .word; let split : Bool := false; let w : BitVec 32 := 0x00112233; decide (s.portOpen p = true) && decide (s.InTurn p) && decide (s.host.guard = []) && decide (badShape addr.toNat size split = true) && decide (s.dark p addr.toNat = false)),
    (let s : State := h1; let p : Fin 4 := 0; let addr : BitVec 24 := 0x7003; let size : AccessSize := .byte; let w : BitVec 32 := 0x00112233; decide (s.portOpen p = true) && decide (s.InTurn p) && decide (s.host.guard = []) && decide (size ≠ .word) && decide (badShape addr.toNat size false = false) && decide (s.dark p addr.toNat = false) && decide (namesGuarded addr.toNat = false)),
    (let s : State := h1; let p : Fin 4 := 0; let addr : BitVec 24 := 0x2030; let size : AccessSize := .three; let w : BitVec 32 := 0x00112233; decide (s.portOpen p = true) && decide (s.InTurn p) && decide (s.host.guard = []) && decide (size ≠ .word) && decide (badShape addr.toNat size false = false) && decide (s.dark p addr.toNat = false) && decide (namesGuarded addr.toNat = false) && decide (s.host.held = []) && decide (s.flag R.SYS_EVENT_ACCESS_ERR = false)),
    (let s : State := h1; let p : Fin 4 := 0; let addr : BitVec 24 := 0x1002; let size : AccessSize := .half; let w : BitVec 32 := 3; decide (s.portOpen p = true) && decide (s.InTurn p) && decide (s.host.guard = []) && decide (size ≠ .word) && decide (badShape addr.toNat size false = false) && decide (s.dark p addr.toNat = false) && decide (namesGuarded addr.toNat = true)),
    (let s : State := h1; let p : Fin 4 := 0; let addr : BitVec 24 := 0xC40600; let w : BitVec 32 := 1; decide (s.portOpen p = true) && decide (s.InTurn p) && decide (s.host.guard = []) && decide (addr.toNat % 4 = 0) && decide (inTwin addr.toNat = false) && decide (inAlias addr.toNat = true)),
    (let s : State := h1; let p : Fin 4 := 0; let addr : BitVec 24 := 0xC40600; let w : BitVec 32 := 1; let d : RegDesc := rr 0x2030; let a : Nat := canon (aliasWord addr.toNat); let b : Nat := aliasBit addr.toNat; let old : BitVec 32 := s.rd a &&& BitVec.ofNat 32 d.rw &&& ~~~(BitVec.ofNat 32 (2 ^ b)); decide (s.portOpen p = true) && decide (s.InTurn p) && decide (s.host.guard = []) && decide (s.NoAbort) && decide (addr.toNat % 4 = 0) && decide (inTwin addr.toNat = false) && decide (inAlias addr.toNat = true) && decide (assigned p (aliasWord addr.toNat) = true) && decide (s.dark p addr.toNat = false) && decide (isGuarded (aliasWord addr.toNat) = false) && decide (s.accessible a = true) && decide (rowOf a = some d) && decide (d.w1c.testBit b = false) && decide (d.rw.testBit b = true)),
    (let s : State := h1.wr R.VET_EVENT 3; let p : Fin 4 := 0; let addr : BitVec 24 := BitVec.ofNat 24 (0xC00000 + R.VET_EVENT * 32 + 4); let w : BitVec 32 := 1; let d : RegDesc := rr R.VET_EVENT; let a : Nat := canon (aliasWord addr.toNat); let b : Nat := aliasBit addr.toNat; decide (s.portOpen p = true) && decide (s.InTurn p) && decide (s.host.guard = []) && decide (s.NoAbort) && decide (addr.toNat % 4 = 0) && decide (inTwin addr.toNat = false) && decide (inAlias addr.toNat = true) && decide (assigned p (aliasWord addr.toNat) = true) && decide (s.dark p addr.toNat = false) && decide (isGuarded (aliasWord addr.toNat) = false) && decide (s.accessible a = true) && decide (rowOf a = some d) && decide (d.w1c.testBit b = true) && decide (w.toNat.testBit 0 = true)),
    (let s : State := {upA with host := {upA.host with ana := [{port := 0, write := true, addr := 0x70400, data := 5, sent := true}]}}; let p : Fin 4 := 0; let a : AnaAcc := {port := 0, write := true, addr := 0x70400, data := 5, sent := true}; let x : State := State.anaGo p [] (s.host.ana.erase a) { s with host := { s.host with ana := s.host.ana.erase a } }; decide (s.linkState = 2) && decide (s.NoAbort) && decide (s.host.ana.find? (fun y => y.port == p.val) = some a) && decide (a.write = true) && decide (a.sent = true) && decide (a.behind = false) && decide (s.accessible (canon a.addr) = true))] : List Bool).all id = true := by decide +kernel

/-- The hypotheses of `GuardedPairs`, clause by clause. -/
theorem test_meets_GuardedPairs : ([
    (let s : State := h1; let p : Fin 4 := 0; let addr : BitVec 24 := 0x1000; let w : BitVec 32 := 3; decide (s.portOpen p = true) && decide (s.InTurn p) && decide (s.host.guard = []) && decide (addr.toNat % 4 = 0) && decide (inTwin addr.toNat = false) && decide (inAlias addr.toNat = false) && decide (assigned p addr.toNat = true) && decide (isGuarded addr.toNat = true)),
    (let s : State := {h1 with host := {h1.host with guard := [(0, 0x1000, 2)]}}; let p : Fin 4 := 0; let addr : BitVec 24 := 0x801000; let g : Nat := 0x1000; let v : BitVec 32 := 2; let x : State := { s with host := { s.host with guard := [] } }; decide (s.portOpen p = true) && decide (s.InTurn p) && decide (s.host.guard = [(p.val, g, v)]) && decide (addr.toNat = g + 0x800000)),
    (let s : State := {h1 with host := {h1.host with guard := [(0, 0x1000, 2)]}}; let p : Fin 4 := 0; let addr : BitVec 24 := 0x801000; let g : Nat := 0x1000; let v : BitVec 32 := 2; let w : BitVec 32 := 2; let x : State := { s with host := { s.host with guard := [] } }; decide (s.portOpen p = true) && decide (s.InTurn p) && decide (s.host.guard = [(p.val, g, v)]) && decide (addr.toNat = g + 0x800000) && decide (w ≠ ~~~v)),
    (let s : State := {h1 with host := {h1.host with guard := [(0, 0x1000, 2)]}}; let p : Fin 4 := 0; let g : Nat := 0x1000; let v : BitVec 32 := 2; decide (s.host.guard = [(p.val, g, v)]) && decide (s.flag R.SYS_EVENT_GUARD_ERR = false) && decide (g < 2 ^ 24) && decide (s.get R.SYS_ERR_CNT_GUARD_CNT < 2 ^ 16 - 1))] : List Bool).all id = true := by decide +kernel

/-- The hypotheses of `QuadSpiActs`, clause by clause. -/
theorem test_meets_QuadSpiActs : ([
    (let s : State := hq; let addr : BitVec 24 := 0x2030; let x : State := { s with host := { s.host with qspi := .read, qspiAddr := addr.toNat, qspiQuad := false, qspiWord := none } }; decide (s.portOpen 1 = true) && decide (s.host.qspi = .idle)),
    (let s : State := hq; let addr : BitVec 24 := 0x2030; let x : State := { s with host := { s.host with qspi := .read, qspiAddr := addr.toNat, qspiQuad := true, qspiWord := none } }; decide (s.portOpen 1 = true) && decide (s.host.qspi = .idle)),
    (let s : State := hq; let addr : BitVec 24 := 0x2030; decide (s.portOpen 1 = true) && decide (s.host.qspi = .idle)),
    (let s : State := hq; let addr : BitVec 24 := 0x2030; decide (s.portOpen 1 = true) && decide (s.host.qspi = .idle)),
    (let s : State := {hq with host := {hq.host with qspi := .read, qspiWord := some 9, qspiAddr := 0xFFFFFC}}; let x : State := { s.qspiDeliver with host := { s.qspiDeliver.host with qspiAddr := (s.host.qspiAddr + 4) % 2 ^ 24 } }; decide (s.portOpen 1 = true) && decide (s.host.qspi = .read) && decide (s.host.qspiWord.isSome = true)),
    (let s : State := {hq with host := {hq.host with qspi := .write, qspiAddr := 0x2030}}; let w : BitVec 32 := 7; let x : State := { s with host := { s.host with qspiAddr := (s.host.qspiAddr + 4) % 2 ^ 24 } }; decide (s.portOpen 1 = true) && decide (s.host.qspi = .write)),
    (let s : State := hq.raise R.SYS_EVENT_ACCESS_ERR; decide (s.portOpen 1 = true) && decide (s.host.qspi = .idle) && decide (s.host.ana = []) && decide (s.flag R.SYS_EVENT_ACCESS_ERR = true)),
    (let s : State := hq; let op : BitVec 8 := 0x0C; decide (s.portOpen 1 = true) && decide (s.host.qspi = .idle) && decide (op ∉ [0x0B, 0x02, 0xEB, 0x38, 0x05]))] : List Bool).all id = true := by decide +kernel

/-- The hypotheses of `ChipSelectEnds`, clause by clause. -/
theorem test_meets_ChipSelectEnds : ([
    (let s : State := {hq with host := {hq.host with qspi := .write, qspiAddr := 0x2030}}; decide (s.host.qspiWord = none))] : List Bool).all id = true := by decide +kernel

/-- The hypotheses of `MessagesAndPcie`, clause by clause. -/
theorem test_meets_MessagesAndPcie : ([
    (let s : State := (((h1.raise R.SYS_EVENT_ACCESS_ERR).wr R.SYS_EVENT_EN 0xF).wr R.SYS_IRQ_EN_LO 0xFFFFFFFF); let w : BitVec 32 := 0; decide (s.activeVectors.testBit (R.SYS_IRQ_ACK_VECTOR.ofWord w) = true)),
    (let s : State := h1; let w : BitVec 32 := 3; decide (s.activeVectors.testBit (R.SYS_IRQ_ACK_VECTOR.ofWord w) = false)),
    (let s : State := {h1.raise (R.MSIX_VCTRL_MASK 5) with host := {h1.host with pba := 32}}; let v : Fin 64 := 5; decide (s.portOpen 0 = true)),
    (let s : State := {h1 with host := {h1.host with pba := 32, msixMasked := true}}; decide (s.portOpen 0 = true)),
    (let s : State := h1; decide (s.flag R.SYS_STRAPS_HOST_SEL = false) && decide (s.pins.inReset = false)),
    (let s : State := h1; decide (s.flag R.SYS_STRAPS_HOST_SEL = false) && decide (s.pins.inReset = false)),
    (let s : State := h1; let speed : BitVec 2 := 2; let width : BitVec 2 := 1; decide (s.flag R.SYS_STRAPS_HOST_SEL = false) && decide (s.pins.inReset = false)),
    (let s : State := h1; let on : Bool := true; let mps : Fin 6 := 1; let mrrs : Fin 6 := 2; decide (s.flag R.SYS_STRAPS_HOST_SEL = false) && decide (s.pins.inReset = false))] : List Bool).all id = true := by decide +kernel

/-- The hypotheses of `AbortsAct`, clause by clause. -/
theorem test_meets_AbortsAct : ([
    (let s : State := h1.put (R.LANE_STATUS_STATE 15) 1; let all : Bool := false; let idx : BitVec 8 := 15; let units : List Nat := (if all then List.range 16 else [idx.toNat]).filter (s.unitActive 1); decide (s.pins.inReset = false) && decide (s.flag R.SYS_ABORT_STATUS_BUSY = false) && decide ((all = true ∨ idx.toNat < 16)) && decide (units ≠ [])),
    (let s : State := (h1.put (fState false 255) 1).setRxf 255 {}; let all : Bool := true; let idx : BitVec 8 := 255; let units : List Nat := (if all then List.range 256 else [idx.toNat]).filter (s.unitActive 2); decide (s.pins.inReset = false) && decide (s.flag R.SYS_ABORT_STATUS_BUSY = false) && decide ((all = true ∨ idx.toNat < 256)) && decide (units ≠ [])),
    (let s : State := (h1.put (fState true 255) 1).setTxf 255 {}; let all : Bool := false; let idx : BitVec 8 := 255; let units : List Nat := (if all then List.range 256 else [idx.toNat]).filter (s.unitActive 3); decide (s.pins.inReset = false) && decide (s.flag R.SYS_ABORT_STATUS_BUSY = false) && decide ((all = true ∨ idx.toNat < 256)) && decide (units ≠ [])),
    (let s : State := h1.put (R.SILO_S_STATUS_OPEN 63) 1; let all : Bool := false; let idx : BitVec 8 := 63; let units : List Nat := (if all then List.range 64 else [idx.toNat]).filter (s.unitActive 4); decide (s.pins.inReset = false) && decide (s.flag R.SYS_ABORT_STATUS_BUSY = false) && decide ((all = true ∨ idx.toNat < 64)) && decide (units ≠ [])),
    (let s : State := h1.put (R.PORT_U_STATUS_STATE 25) 1; let all : Bool := false; let idx : BitVec 8 := 25; let units : List Nat := (if all then List.range 26 else [idx.toNat]).filter (s.unitActive 5); decide (s.pins.inReset = false) && decide (s.flag R.SYS_ABORT_STATUS_BUSY = false) && decide ((all = true ∨ idx.toNat < 26)) && decide (units ≠ [])),
    (let s : State := h1.raise (R.MCVC_CTRL_RUN 3); let all : Bool := false; let idx : BitVec 8 := 3; let units : List Nat := (if all then List.range 4 else [idx.toNat]).filter (s.unitActive 6); decide (s.pins.inReset = false) && decide (s.flag R.SYS_ABORT_STATUS_BUSY = false) && decide ((all = true ∨ idx.toNat < 4)) && decide (units ≠ [])),
    (let s : State := {h1 with silos := {h1.silos with dma := [(7, {stopped := true})]}}; let all : Bool := false; let idx : BitVec 8 := 7; let units : List Nat := (if all then List.range 8 else [idx.toNat]).filter (s.unitActive 7); decide (s.pins.inReset = false) && decide (s.flag R.SYS_ABORT_STATUS_BUSY = false) && decide ((all = true ∨ idx.toNat < 8)) && decide (units ≠ [])),
    (let s : State := h1.put (R.DQ_STATUS_STATE 31) 1; let all : Bool := false; let idx : BitVec 8 := 31; let units : List Nat := (if all then List.range 32 else [idx.toNat]).filter (s.unitActive 8); decide (s.pins.inReset = false) && decide (s.flag R.SYS_ABORT_STATUS_BUSY = false) && decide ((all = true ∨ idx.toNat < 32)) && decide (units ≠ [])),
    (let s : State := h1.put (R.PSC_STATUS_STATE 3) 3; let all : Bool := false; let idx : BitVec 8 := 3; let units : List Nat := (if all then List.range 4 else [idx.toNat]).filter (s.unitActive 9); decide (s.pins.inReset = false) && decide (s.flag R.SYS_ABORT_STATUS_BUSY = false) && decide ((all = true ∨ idx.toNat < 4)) && decide (units ≠ [])),
    (let s : State := h1; let idx : BitVec 8 := 15; decide (s.pins.inReset = false) && decide (s.flag R.SYS_ABORT_STATUS_BUSY = false) && decide (idx.toNat < 16) && decide (s.laneRuns idx.toNat = false)),
    (let s : State := h1; let cls : Fin 16 := 15; let all : Bool := true; let idx : BitVec 8 := 3; decide (s.pins.inReset = false) && decide (s.flag R.SYS_ABORT_STATUS_BUSY = false) && decide (abortCount cls = 0)),
    (let s : State := {h1 with host := {h1.host with abort := some {cls := 1, named := [1], units := [1]}}}; let us : Nat := 300; let a : AbortSt := {cls := 1, named := [1], units := [1]}; decide (s.host.abort = some a) && decide (s.host.held = []))] : List Bool).all id = true := by decide +kernel

/-- The hypotheses of `RateAndResetsAct`, clause by clause. -/
theorem test_meets_RateAndResetsAct : ([
    (let s : State := h1.put (fState false 255) 1; let w : BitVec 32 := 1; decide (s.NoAbort) && decide (s.anyRunning = true)),
    (let s : State := h1; let w : BitVec 32 := 1; decide (s.NoAbort) && decide (s.anyRunning = false) && decide (s.on .clk = true) && decide (s.rate ≠ (if w.toNat.testBit 0 then 96000 else 48000))),
    (let s : State := {h1.put R.SYS_CORE_RATE_RATE 1 with host := {h1.host with ratePending := some 96000}, time := {h1.time with index := 800}}; let new : Nat := 96000; decide (s.host.ratePending = some new) && decide (s.on .clk = true) && decide (s.atBoundary = true) && decide (s.time.begun = false) && decide (s.time.index * new % s.rate = 0) && decide (s.time.index * new / s.rate % 8 = 0)),
    (let s : State := {h1 with pins := {h1.pins with inReset := true}}; let hs : Bool := true; let tp : Bool := false; let b : BitVec 2 := 2; decide (s.pins.inReset = true)),
    (let s : State := h1; let hs : Bool := true; let tp : Bool := false; let b : BitVec 2 := 2; decide (s.pins.inReset = false)),
    (let s : State := h1; decide (s.pins.inReset = false)),
    (let s : State := {h1 with pwr := {h1.pwr with moves := [(3, true)]}}; decide (s.pins.inReset = false) && decide (s.domBusy = true) && decide (s.NoAbort) && decide (s.host.held = [])),
    (let s : State := h1; decide (s.pins.inReset = false) && decide (s.domBusy = false)),
    (let s : State := h1; let down : Bool := true; decide (s.pins.inReset = false) && decide (s.host.held = [])),
    (let s : State := h1; decide (s.pins.inReset = false) && decide (s.pins.aReleased = false))] : List Bool).all id = true := by decide +kernel

end Wc

namespace Wd

def n0 : State := ((s0.put (R.NET_STATUS_LINK 1) 1).put (R.NET_CTRL_EN 1) 1)
def nip : State := n0.wr (R.NET_IP_ADDR 1) 0x0A000001
def np (f : NetPort → NetPort) (s : State) : State := s.setPort 1 (f (s.port 1))
def fr (et : Nat) : List (BitVec 8) := List.replicate 6 0xFF ++ List.replicate 6 2 ++ beBytes 2 et ++ List.replicate 60 0
def hfp (bs : List (BitVec 8)) : State := ((((((n0.raise R.NETC_HFP_CFG_EN).put R.NETC_HFP_CFG_TX_SILO 9).raise (R.SILO_S_STATUS_OPEN 9)).raise (R.SILO_S_CFG_PKT_MODE 9)).put (R.SILO_S_CFG_CONS 9) 2)).setSilo 9 { words := markLast false ({data := BitVec.ofNat 32 bs.length} :: {data := 0} :: packWords bs), head := 8 + (bs.length + 3) / 4 * 4 }
def goodP : List (BitVec 8) := leBytes (60 + 2 * 2^14) ++ List.replicate 12 0 ++ fr 0x88B5

/-- The hypotheses of `PortLinksAct`, clause by clause. -/
theorem test_meets_PortLinksAct : ([
    (let s : State := n0; let x : Fin 2 := 1; let w : BitVec 32 := 0x4F; decide (s.NoAbort) && decide (s.netOn x = true) && decide (s.flag (R.NET_CTRL_EN x) = true) && decide ((s.rd (R.NET_CTRL x) ^^^ (w &&& 0x7F)) &&& 0x4E ≠ 0)),
    (let s : State := s0; let x : Fin 2 := 1; let w : BitVec 32 := 1; let y : State := ((s.wr (R.NET_CTRL x) (w &&& 0x7F)).clr (R.NET_STATUS_MODE_REFUSED x)).laneShow x false; decide (s.NoAbort) && decide (s.netOn x = true) && decide (s.flag (R.NET_CTRL_EN x) = false) && decide (w.toNat.testBit 0 = true)),
    (let s : State := (n0.put (R.NET_CTRL_AN_EN 1) 1).put (R.NET_CTRL_MODE 1) 1; let x : Fin 2 := 1; let mbps : Nat := 1000; decide (s.netOn x = true) && decide (s.flag (R.NET_CTRL_EN x) = true) && decide (s.anInUse x = true) && decide (s.flag (R.NET_CTRL_LOOPBACK x) = false) && decide (mbps = 1000 ∨ s.get (R.NET_CTRL_MODE x) ≠ 1) && decide (s.twinState ≠ 3) && decide (s.twinState ≠ 6)),
    (let s : State := ((n0.clr (R.NET_STATUS_LINK 1)).raise (R.NET_CTRL_LOOPBACK 1)); let x : Fin 2 := 1; let los : Bool := true; decide (s.netOn x = true) && decide (s.flag (R.NET_CTRL_EN x) = true) && decide (s.linkIsUp x = false) && decide (s.flag (R.NET_CTRL_LOOPBACK x) = true)),
    (let s : State := n0; let x : Fin 2 := 1; decide (s.netOn x = true) && decide (s.flag (R.NET_CTRL_LOOPBACK x) = false)),
    (let s : State := s0; let w : BitVec 32 := 0x00000000; decide (s.NoAbort) && decide (s.on .flowptp = true) && decide (s.flag R.NETC_MDIO_STATUS_BUSY = false)),
    (let s : State := s0.raise R.NETC_MDIO_STATUS_BUSY; let w : BitVec 32 := 0x00000000; decide (s.NoAbort) && decide (s.on .flowptp = true) && decide (s.flag R.NETC_MDIO_STATUS_BUSY = true)),
    (let s : State := {s0.raise R.NETC_MDIO_STATUS_BUSY with net := {s0.net with mdioRead := true}}; let d : BitVec 16 := 0xFFFF; decide (s.on .flowptp = true) && decide (s.flag R.NETC_MDIO_STATUS_BUSY = true) && decide (s.net.mdioRead = true))] : List Bool).all id = true := by decide +kernel

/-- The hypotheses of `FramesMove`, clause by clause. -/
theorem test_meets_FramesMove : ([
    (let s : State := n0; let x : Fin 2 := 1; let bs : List (BitVec 8) := []; let t : Nat := 5; decide (s.netOn x = true) && decide (s.linkIsUp x = true) && decide (s.flag (R.NET_CTRL_LOOPBACK x) = false)),
    (let s : State := n0.raise (R.NET_VLAN_ACCEPT_UNTAGGED 1); let x : Fin 2 := 1; let bs : List (BitVec 8) := fr 0x88B5; let t : Nat := 5; let y : State := (s.netCount x 0 1).netCount x 1 (bs.length + 4); decide (s.netOn x = true) && decide (s.linkIsUp x = true) && decide (s.flag (R.NET_CTRL_LOOPBACK x) = false) && decide (64 ≤ bs.length + 4) && decide (bs.length + 4 ≤ 1518) && decide ((parseEth bs).etype ≠ 0x8808) && decide ((parseEth bs).etype ≠ 0x0800) && decide (s.macPasses x (parseEth bs).dst = true) && decide (s.vlanPasses x (parseEth bs) = true)),
    (let s : State := hfp [1,2,3]; let y : State := (s.siloTakeFrame (s.get R.NETC_HFP_CFG_TX_SILO)).2; let bs : List (BitVec 8) := [1,2,3]; decide (s.on .flowptp = true) && decide (s.flag R.NETC_HFP_CFG_EN = true) && decide (s.net.held = none) && decide (s.hfpWaits = false) && decide (s.siloTakeFrame (s.get R.NETC_HFP_CFG_TX_SILO) = (some bs, y)) && decide (bs.length < 16)),
    (let s : State := hfp goodP; let y : State := (s.siloTakeFrame (s.get R.NETC_HFP_CFG_TX_SILO)).2; let bs : List (BitVec 8) := goodP; let w0 : Nat := beNat (bs.take 4).reverse; decide (s.on .flowptp = true) && decide (s.flag R.NETC_HFP_CFG_EN = true) && decide (s.net.held = none) && decide (s.hfpWaits = false) && decide (s.siloTakeFrame (s.get R.NETC_HFP_CFG_TX_SILO) = (some bs, y)) && decide (16 ≤ bs.length) && decide (hfpBad w0 (beNat ((bs.drop 4).take 4).reverse % 2 ^ 30) (bs.drop 16) = false) && decide (bitOf w0 19 = false)),
    (let s : State := {n0.raise R.NETC_HFP_CFG_EN with net := {n0.net with held := some (0x8000, 0, fr 0x88B5)}}; let w0 : Nat := 0x8000; let at_ : Nat := 0; let f : List (BitVec 8) := fr 0x88B5; let y : State := { s with net := { s.net with held := none } }; decide (s.net.held = some (w0, at_, f)) && decide (s.on .flowptp = true) && decide (s.flag R.NETC_HFP_CFG_EN = true) && decide (at_ ≤ s.mediaNs + 1000000000 / s.rate) && decide (s.mediaNs ≤ at_ + 1000000000 / s.rate) && decide (sel 2 (fun x => (bitsOf w0 15 14).testBit x && s.linkIsUp x) ≠ [])),
    (let s : State := np (fun p => {p with taken := [{ns := 3, tag := 1}]}) n0; let x : Fin 2 := 1; let e : TxStamp := {ns := 3, tag := 1}; let l : List TxStamp := []; decide ((s.port x).taken = e :: l) && decide ((s.port x).stamps.length < 16)),
    (let s : State := np (fun p => {p with busy := true}) n0; let x : Fin 2 := 1; decide ((s.port x).busy = true) && decide ((s.port x).looped = none)),
    (let s : State := np (fun p => {p with busy := true, looped := some (fr 0x88B5, 5)}) n0; let x : Fin 2 := 1; let bs : List (BitVec 8) := fr 0x88B5; let t : Nat := 5; decide ((s.port x).busy = true) && decide ((s.port x).looped = some (bs, t)))] : List Bool).all id = true := by decide +kernel

/-- The hypotheses of `PtpActs`, clause by clause. -/
theorem test_meets_PtpActs : ([
    (let s : State := np (fun p => {p with ebest := some 77}) (n0.put (R.NET_PTP_STATE_STATE 1) 3); let x : Fin 2 := 1; let m : PtpMsg := {source := 77, seq := 5, twoStep := true}; let t : Nat := 9; let y : State := s.netCount x 10 1; let p : NetPort := { s.port x with lastSync := some m.seq, masterIp := m.ip, masterMac := m.mac, dreqDue := true, waiting := none }; decide (s.netOn x = true) && decide (s.ptpState x = 3) && decide ((s.port x).ebest = some m.source) && decide ((s.port x).lastSync = none) && decide ((s.port x).waiting = none) && decide (m.twoStep = true)),
    (let s : State := np (fun p => {p with ebest := some 78}) (n0.put (R.NET_PTP_STATE_STATE 1) 3); let x : Fin 2 := 1; let m : PtpMsg := {source := 77, seq := 5, twoStep := true}; let t : Nat := 9; decide (s.netOn x = true) && decide (s.ptpState x = 3) && decide ((s.port x).ebest ≠ some m.source)),
    (let s : State := np (fun p => {p with ebest := some 77, waiting := some (5, 9, 2)}) (n0.put (R.NET_PTP_STATE_STATE 1) 3); let x : Fin 2 := 1; let m : PtpMsg := {source := 77, seq := 5, twoStep := true}; let t2 : Nat := 9; let c : Int := 2; decide (s.netOn x = true) && decide ((s.port x).ebest = some m.source) && decide ((s.port x).waiting = some (m.seq, t2, c))),
    (let s : State := np (fun p => {p with answered := (0, 7)}) (nip.put (R.NET_PTP_STATE_STATE 1) 4); let x : Fin 2 := 1; let m : PtpMsg := {source := 77, seq := 5, twoStep := true}; let t : Nat := 9; let y : State := s.setPort x { s.port x with answered := (t / (65536 * 1000000000), 8) }; decide (s.netOn x = true) && decide (s.ptpState x = 4) && decide (s.linkIsUp x = true) && decide ((s.port x).answered = (t / (65536 * 1000000000), 7))),
    (let s : State := np (fun p => {p with dreq := some (5, some 3)}) (nip.put (R.NET_PTP_STATE_STATE 1) 2); let x : Fin 2 := 1; let m : PtpMsg := {source := 77, seq := 5, req := nip.portId 1}; let t3 : Nat := 3; decide (s.netOn x = true) && decide (s.ptpState x = 2) && decide ((s.port x).dreq = some (m.seq, some t3)) && decide ((s.port x).sync = none) && decide (m.req = s.portId x)),
    (let s : State := (n0.put (R.NET_PTP_STATE_STATE 1) 1); let x : Fin 2 := 1; let m : PtpMsg := {source := 77*65536, seq := 5}; let t : Nat := 3; decide (s.netOn x = true) && decide (s.ptpState x ≠ 0) && decide (s.linkIsUp x = true) && decide (m.source / 65536 ≠ s.clockId x) && decide (m.ds.steps < 255) && decide (m.logInterval = 0) && decide ((s.port x).foreign = [])),
    (let s : State := np (fun p => {p with waiting := some (5, 9, 2)}) n0; let x : Fin 2 := 1; decide ((s.port x).waiting.isSome = true)),
    (let s : State := np (fun p => {p with foreign := [{source := 4, ds := {}, logInterval := 0, last := 0}]}) n0; let x : Fin 2 := 1; let src : Nat := 4; decide (s.netOn x = true) && decide ((s.port x).foreign.any (fun f => f.source == src) = true)),
    (let s : State := np (fun p => {p with dreqDue := true, dreqSeq := 65535}) (nip.put (R.NET_PTP_STATE_STATE 1) 3); let x : Fin 2 := 1; let y : State := s.setPort x { s.port x with dreqDue := false, dreqSeq := ((s.port x).dreqSeq + 1) % 65536, dreq := some ((s.port x).dreqSeq, none) }; decide (s.netOn x = true) && decide (s.ptpState x = 3) && decide ((s.port x).dreqDue = true) && decide (s.ipOf x ≠ 0) && decide (s.linkIsUp x = true) && decide (s.flag (R.NET_PTP_CFG_DREQ_UNICAST x) = false)),
    (let s : State := np (fun p => {p with busy := true, annSeq := 65535}) (nip.put (R.NET_PTP_STATE_STATE 1) 4); let x : Fin 2 := 1; decide (s.netOn x = true) && decide (s.ptpState x = 4) && decide (s.linkIsUp x = true) && decide (s.ipOf x ≠ 0) && decide ((s.port x).busy = true)),
    (let s : State := np (fun p => {p with busy := true, annSeq := 65535}) (nip.put (R.NET_PTP_STATE_STATE 1) 4); let x : Fin 2 := 1; decide (s.netOn x = true) && decide (s.ptpState x = 4) && decide (s.linkIsUp x = true) && decide (s.ipOf x ≠ 0) && decide ((s.port x).busy = true)),
    (let s : State := n0; let x : Fin 2 := 1; let w : BitVec 32 := 1; decide (s.NoAbort) && decide (s.netOn x = true)),
    (let s : State := n0; let x : Fin 2 := 1; let w : BitVec 32 := 0x123; decide (s.NoAbort) && decide (s.netOn x = true) && decide (s.flag (R.NET_PTP_CFG_PROFILE x) = false))] : List Bool).all id = true := by decide +kernel

/-- The hypotheses of `IgmpActs`, clause by clause. -/
theorem test_meets_IgmpActs : ([
    (let s : State := (((s0.wr (R.NET_IP_ADDR 1) 5).put (R.MEMB_GROUP_GROUP 511) 0xEF000001).put (R.MEMB_PORTS_PORTS 511) 2).put R.NETC_IGMP_CFG_ROBUST 2; let w : BitVec 32 := R.NETC_IGMP_CMD_INDEX.inWord 0 511; let n : Fin 512 := 511; let y : State := (s.put (R.MEMB_PORTS_JOINED n) (s.get (R.MEMB_PORTS_PORTS n))).put R.NETC_IGMP_STATUS_RESULT 0; let z : State := (y.put R.NETC_IGMP_STATUS_USED y.igmpUsed.length).raise R.NETC_IGMP_STATUS_BUSY; decide (s.NoAbort) && decide (s.on .flowptp = true) && decide (s.flag R.NETC_IGMP_STATUS_BUSY = false) && decide (R.NETC_IGMP_CMD_INDEX.ofWord (R.NETC_IGMP_CMD_OP.inWord w 1) = n.val) && decide ((s.joinRefusal n).1 = none)),
    (let s : State := (((s0.wr (R.NET_IP_ADDR 1) 5).put (R.MEMB_GROUP_GROUP 511) 0xEF000001).put (R.MEMB_PORTS_PORTS 511) 2).put R.NETC_IGMP_CFG_ROBUST 2; let w : BitVec 32 := R.NETC_IGMP_CMD_INDEX.inWord 0 511; let n : Fin 512 := 511; decide (s.NoAbort) && decide (s.on .flowptp = true) && decide (s.flag R.NETC_IGMP_STATUS_BUSY = false) && decide (R.NETC_IGMP_CMD_INDEX.ofWord (R.NETC_IGMP_CMD_OP.inWord w 1) = n.val) && decide ((s.joinRefusal n).1 = none) && decide (2 ≤ s.robust)),
    (let s : State := ((np (fun p => {p with busy := true}) ((((nip.put (R.MEMB_GROUP_GROUP 511) 0xEF000001).put (R.MEMB_PORTS_PORTS 511) 2))))).clr R.NETC_IGMP_CFG_VER_B; let w : BitVec 32 := R.NETC_IGMP_CMD_INDEX.inWord 0 511; let n : Fin 512 := 511; let x : Fin 2 := 1; let g : Nat := s.get (R.MEMB_GROUP_GROUP n); let dst : Nat := g; let m : Nat → List (BitVec 8) := (fun ck => beBytes 1 0x16 ++ [0] ++ beBytes 2 ck ++ beBytes 4 g); let f : List (BitVec 8) := ether (groupMac dst) (s.macOf x) (s.tagOf x (R.NET_VLAN_PCP_HOST x)) 0x0800 (ipv4 (s.get R.NETC_IGMP_CFG_DSCP) 1 2 (s.port x).ident (s.ipOf x) dst [0x94, 0x04, 0, 0] (m (checksum (m 0)))); decide (s.NoAbort) && decide (s.on .flowptp = true) && decide (s.flag R.NETC_IGMP_STATUS_BUSY = false) && decide (R.NETC_IGMP_CMD_INDEX.ofWord (R.NETC_IGMP_CMD_OP.inWord w 1) = n.val) && decide ((s.joinRefusal n).1 = none) && decide ((s.get (R.MEMB_PORTS_PORTS n)).testBit x = true) && decide (s.linkIsUp x = true) && decide (s.netOn x = true) && decide (s.ipOf x ≠ 0) && decide ((s.port x).busy = true) && decide (s.get (R.MEMB_SOURCE_SOURCE n) = 0) && decide (s.igmpV2 x = true)),
    (let s : State := (np (fun p => {p with busy := true}) ((((nip.put (R.MEMB_GROUP_GROUP 511) 0xEF000001).put (R.MEMB_PORTS_PORTS 511) 2)).raise R.NETC_IGMP_CFG_VER_B)); let w : BitVec 32 := R.NETC_IGMP_CMD_INDEX.inWord 0 511; let n : Fin 512 := 511; let x : Fin 2 := 1; let g : Nat := s.get (R.MEMB_GROUP_GROUP n); let dst : Nat := 0xE0000016; let m : Nat → List (BitVec 8) := (fun ck => beBytes 1 0x22 ++ [0] ++ beBytes 2 ck ++ beBytes 2 0 ++ beBytes 2 1 ++ beBytes 1 4 ++ [0] ++ beBytes 2 0 ++ beBytes 4 g ++ []); let f : List (BitVec 8) := ether (groupMac dst) (s.macOf x) (s.tagOf x (R.NET_VLAN_PCP_HOST x)) 0x0800 (ipv4 (s.get R.NETC_IGMP_CFG_DSCP) 1 2 (s.port x).ident (s.ipOf x) dst [0x94, 0x04, 0, 0] (m (checksum (m 0)))); decide (s.NoAbort) && decide (s.on .flowptp = true) && decide (s.flag R.NETC_IGMP_STATUS_BUSY = false) && decide (R.NETC_IGMP_CMD_INDEX.ofWord (R.NETC_IGMP_CMD_OP.inWord w 1) = n.val) && decide ((s.joinRefusal n).1 = none) && decide ((s.get (R.MEMB_PORTS_PORTS n)).testBit x = true) && decide (s.linkIsUp x = true) && decide (s.netOn x = true) && decide (s.ipOf x ≠ 0) && decide ((s.port x).busy = true) && decide (s.get (R.MEMB_SOURCE_SOURCE n) = 0) && decide (s.igmpV2 x = false)),
    (let s : State := s0.raise R.NETC_IGMP_STATUS_BUSY; let w : BitVec 32 := 0; decide (s.NoAbort) && decide (s.on .flowptp = true) && decide (s.flag R.NETC_IGMP_STATUS_BUSY = true)),
    (let s : State := s0; let w : BitVec 32 := R.NETC_IGMP_CMD_INDEX.inWord 0 511; let n : Fin 512 := 511; decide (s.NoAbort) && decide (s.on .flowptp = true) && decide (s.flag R.NETC_IGMP_STATUS_BUSY = false) && decide (R.NETC_IGMP_CMD_INDEX.ofWord (R.NETC_IGMP_CMD_OP.inWord w 2) = n.val) && decide (s.get (R.MEMB_PORTS_JOINED n) = 0)),
    (let s : State := (s0.put (R.MEMB_PORTS_JOINED 511) 3).put R.NETC_IGMP_CFG_ROBUST 2; let w : BitVec 32 := R.NETC_IGMP_CMD_INDEX.inWord 0 511; let n : Fin 512 := 511; let y : State := (s.clr (R.MEMB_PORTS_JOINED n)).put R.NETC_IGMP_STATUS_RESULT 0; let z : State := (y.put R.NETC_IGMP_STATUS_USED y.igmpUsed.length).raise R.NETC_IGMP_STATUS_BUSY; decide (s.NoAbort) && decide (s.on .flowptp = true) && decide (s.flag R.NETC_IGMP_STATUS_BUSY = false) && decide (R.NETC_IGMP_CMD_INDEX.ofWord (R.NETC_IGMP_CMD_OP.inWord w 2) = n.val) && decide (s.get (R.MEMB_PORTS_JOINED n) ≠ 0)),
    (let s : State := (s0.put (R.MEMB_PORTS_JOINED 511) 3).put R.NETC_IGMP_CFG_ROBUST 2; let w : BitVec 32 := R.NETC_IGMP_CMD_INDEX.inWord 0 511; let n : Fin 512 := 511; decide (s.NoAbort) && decide (s.on .flowptp = true) && decide (s.flag R.NETC_IGMP_STATUS_BUSY = false) && decide (R.NETC_IGMP_CMD_INDEX.ofWord (R.NETC_IGMP_CMD_OP.inWord w 2) = n.val) && decide (s.get (R.MEMB_PORTS_JOINED n) ≠ 0) && decide (2 ≤ s.robust)),
    (let s : State := ((np (fun p => {p with busy := true}) ((((nip.put (R.MEMB_GROUP_GROUP 511) 0xEF000001).put (R.MEMB_PORTS_PORTS 511) 2).put (R.MEMB_PORTS_JOINED 511) 2)))).clr R.NETC_IGMP_CFG_VER_B; let w : BitVec 32 := R.NETC_IGMP_CMD_INDEX.inWord 0 511; let n : Fin 512 := 511; let x : Fin 2 := 1; let g : Nat := s.get (R.MEMB_GROUP_GROUP n); let dst : Nat := 0xE0000002; let m : Nat → List (BitVec 8) := (fun ck => beBytes 1 0x17 ++ [0] ++ beBytes 2 ck ++ beBytes 4 g); let f : List (BitVec 8) := ether (groupMac dst) (s.macOf x) (s.tagOf x (R.NET_VLAN_PCP_HOST x)) 0x0800 (ipv4 (s.get R.NETC_IGMP_CFG_DSCP) 1 2 (s.port x).ident (s.ipOf x) dst [0x94, 0x04, 0, 0] (m (checksum (m 0)))); decide (s.NoAbort) && decide (s.on .flowptp = true) && decide (s.flag R.NETC_IGMP_STATUS_BUSY = false) && decide (R.NETC_IGMP_CMD_INDEX.ofWord (R.NETC_IGMP_CMD_OP.inWord w 2) = n.val) && decide (s.get (R.MEMB_PORTS_JOINED n) ≠ 0) && decide ((s.get (R.MEMB_PORTS_JOINED n)).testBit x = true) && decide (s.linkIsUp x = true) && decide (s.netOn x = true) && decide (s.ipOf x ≠ 0) && decide ((s.port x).busy = true) && decide (s.get (R.MEMB_SOURCE_SOURCE n) = 0) && decide (s.igmpV2 x = true)),
    (let s : State := (np (fun p => {p with busy := true}) ((((nip.put (R.MEMB_GROUP_GROUP 511) 0xEF000001).put (R.MEMB_PORTS_PORTS 511) 2).put (R.MEMB_PORTS_JOINED 511) 2).raise R.NETC_IGMP_CFG_VER_B)); let w : BitVec 32 := R.NETC_IGMP_CMD_INDEX.inWord 0 511; let n : Fin 512 := 511; let x : Fin 2 := 1; let g : Nat := s.get (R.MEMB_GROUP_GROUP n); let dst : Nat := 0xE0000016; let m : Nat → List (BitVec 8) := (fun ck => beBytes 1 0x22 ++ [0] ++ beBytes 2 ck ++ beBytes 2 0 ++ beBytes 2 1 ++ beBytes 1 3 ++ [0] ++ beBytes 2 0 ++ beBytes 4 g ++ []); let f : List (BitVec 8) := ether (groupMac dst) (s.macOf x) (s.tagOf x (R.NET_VLAN_PCP_HOST x)) 0x0800 (ipv4 (s.get R.NETC_IGMP_CFG_DSCP) 1 2 (s.port x).ident (s.ipOf x) dst [0x94, 0x04, 0, 0] (m (checksum (m 0)))); decide (s.NoAbort) && decide (s.on .flowptp = true) && decide (s.flag R.NETC_IGMP_STATUS_BUSY = false) && decide (R.NETC_IGMP_CMD_INDEX.ofWord (R.NETC_IGMP_CMD_OP.inWord w 2) = n.val) && decide (s.get (R.MEMB_PORTS_JOINED n) ≠ 0) && decide ((s.get (R.MEMB_PORTS_JOINED n)).testBit x = true) && decide (s.linkIsUp x = true) && decide (s.netOn x = true) && decide (s.ipOf x ≠ 0) && decide ((s.port x).busy = true) && decide (s.get (R.MEMB_SOURCE_SOURCE n) = 0) && decide (s.igmpV2 x = false)),
    (let s : State := (np (fun p => {p with busy := true}) ((((nip.put (R.MEMB_GROUP_GROUP 511) 0xEF000001).put (R.MEMB_PORTS_PORTS 511) 2).put (R.MEMB_PORTS_JOINED 511) 2))); let w : BitVec 32 := 0; let y : State := s.igmpUsed.foldl (fun s n => forN 2 (fun x s => if s.joinedOn n x then s.igmpReport x 2 (s.get (R.MEMB_GROUP_GROUP n)) (s.get (R.MEMB_SOURCE_SOURCE n)) else s) s) s; decide (s.NoAbort) && decide (s.on .flowptp = true) && decide (s.flag R.NETC_IGMP_STATUS_BUSY = false)),
    (let s : State := s0; let w : BitVec 32 := 0; decide (s.NoAbort) && decide (s.on .flowptp = true) && decide (s.flag R.NETC_IGMP_STATUS_BUSY = false) && decide (s.igmpUsed = [])),
    (let s : State := {s0 with net := {s0.net with jobs := [{leave := false, index := 3, group := 5, source := 0, ports := 2, left := 2, cmd := true}]}}; let k : Nat := 0; let j : IgmpJob := {leave := false, index := 3, group := 5, source := 0, ports := 2, left := 2, cmd := true}; let y : State := s.igmpRound j; decide (s.net.jobs[k]? = some j) && decide (2 ≤ j.left)),
    (let s : State := {s0 with net := {s0.net with jobs := [{leave := false, index := 3, group := 5, source := 0, ports := 2, left := 1, cmd := true}]}}; let k : Nat := 0; let j : IgmpJob := {leave := false, index := 3, group := 5, source := 0, ports := 2, left := 1, cmd := true}; let y : State := s.igmpRound j; let z : State := { y with net := { y.net with jobs := y.net.jobs.eraseIdx k } }; decide (s.net.jobs[k]? = some j) && decide (j.left ≤ 1)),
    (let s : State := (n0.raise R.NETC_IGMP_CFG_QRESP).put (R.MEMB_PORTS_JOINED 511) 2; let x : Fin 2 := 1; let q : IgmpQuery := {version := 3}; decide (s.on .flowptp = true) && decide (s.linkIsUp x = true) && decide (q.version = 3) && decide (s.flag R.NETC_IGMP_CFG_QRESP = true) && decide (sel 512 (s.queryMatches x q) ≠ [])),
    (let s : State := np (fun p => {p with queries := [{version := 3}]}) n0; let x : Fin 2 := 1; let q : IgmpQuery := {version := 3}; let l : List IgmpQuery := []; let y : State := s.setPort x { s.port x with queries := l }; decide ((s.port x).queries = q :: l)),
    (let s : State := s0.raise R.NETC_IGMP_STATUS_V2_FALLBACK_A; decide (s.on .flowptp = true)),
    (let s : State := s0.raise R.NETC_IGMP_STATUS_V2_FALLBACK_B; decide (s.on .flowptp = true))] : List Bool).all id = true := by decide +kernel

end Wd

namespace We

def fr : State := (((((s0.put (R.FLOW_RX_CFG_FORMAT 255) 1).put (R.FLOW_RX_CFG_CHANNELS 255) 2).put (R.FLOW_RX_CFG_PORTS 255) 1).wr (R.FLOW_RX_DST_A 255) 0xEF010203).put (fDport false 255 0) 5004).put (R.FLOW_RX_OFFSET_OFFSET 255) 48
def ft : State := (((((s0.put (fFormat true 255) 1).put (fChannels true 255) 2).put (fPorts true 255) 1).wr (R.FLOW_TX_DST_A 255) 0xEF010203).put (fDport true 255 0) 5004).wr (R.NET_IP_ADDR 0) 0x0A000001
def ru (f : RxFlow) (s : State) : State := s.setRxf 255 f
def tu (f : TxFlow) (s : State) : State := s.setTxf 255 f
def ftb : State := (ft.put R.NETC_BUDGET_A_LIMIT 1000)
def pk : RtpPacket := {dst := 0xEF010203, dport := 5004, src := 1, sport := 2, version := 2, pt := 0, seq := 65535, ts := 0, ssrc := 0, payload := List.replicate 36 1}
def fw : State := ru {allocating := false, sa := {high := some 65535}} (fr.put (fState false 255) 2)
def pk2 : TxPacket := {first := 0, seq := 0, payload := [], launch := 0}
def fl : State := {s0 with flow := {s0.flow with launches := [(255, pk2)]}}

/-- The hypotheses of `FlowCommandsAct`, clause by clause. -/
theorem test_meets_FlowCommandsAct : ([
    (let s : State := s0; let n : Fin 256 := 255; let w : BitVec 32 := 0; let y : State := s.wr (R.FLOW_RX_CTRL n) ((R.FLOW_RX_CTRL_CMD n).inWord w 1 &&& 0xC); decide (s.NoAbort) && decide (s.on .flowptp = true) && decide (w.toNat.testBit 4 = false) && decide (y.rxResult n ≠ 0)),
    (let s : State := fr; let n : Fin 256 := 255; let w : BitVec 32 := 0; let y : State := s.wr (R.FLOW_RX_CTRL n) ((R.FLOW_RX_CTRL_CMD n).inWord w 1 &&& 0xC); decide (s.NoAbort) && decide (s.on .flowptp = true) && decide (w.toNat.testBit 4 = false) && decide (w.toNat.testBit 3 = false) && decide (w.toNat.testBit 2 = false) && decide (y.rxResult n = 0)),
    (let s : State := s0; let n : Fin 256 := 255; let w : BitVec 32 := 0; let y : State := s.wr (R.FLOW_TX_CTRL n) ((R.FLOW_TX_CTRL_CMD n).inWord w 1 &&& 0xC); decide (s.NoAbort) && decide (s.on .flowptp = true) && decide (w.toNat.testBit 4 = false) && decide (y.txResult n ≠ 0)),
    (let s : State := ftb; let n : Fin 256 := 255; let w : BitVec 32 := 0; let y : State := s.wr (R.FLOW_TX_CTRL n) ((R.FLOW_TX_CTRL_CMD n).inWord w 1 &&& 0xC); decide (s.NoAbort) && decide (s.on .flowptp = true) && decide (w.toNat.testBit 4 = false) && decide (w.toNat.testBit 3 = false) && decide (w.toNat.testBit 2 = false) && decide (y.txResult n = 0)),
    (let s : State := s0.put (fState false 255) 3; let n : Fin 256 := 255; let w : BitVec 32 := 0; decide (s.NoAbort) && decide (s.on .flowptp = true) && decide (w.toNat.testBit 4 = false) && decide (s.flowState false n = 3)),
    (let s : State := ru {allocating := false} (fr.put (fState false 255) 2); let n : Fin 256 := 255; let w : BitVec 32 := 0; let y : State := s.wr (R.FLOW_RX_CTRL n) ((R.FLOW_RX_CTRL_CMD n).inWord w 2 &&& 0xC); decide (s.NoAbort) && decide (s.on .flowptp = true) && decide (w.toNat.testBit 4 = false) && decide (w.toNat.testBit 2 = false) && decide (s.flowState false n = 2) && decide (s.flowUsed false n = true) && decide (s.noFade false n = false)),
    (let s : State := tu {allocating := false} (ft.put (fState true 255) 2); let n : Fin 256 := 255; let w : BitVec 32 := 0; decide (s.NoAbort) && decide (s.on .flowptp = true) && decide (w.toNat.testBit 4 = false) && decide (w.toNat.testBit 2 = false) && decide (s.flowState true n = 2) && decide (s.flowUsed true n = true) && decide (s.noFade true n = false)),
    (let s : State := (s0.wr (R.FLOW_RXC_CNT 255 13) 7).wr (R.FLOW_RXC_WRAP 255) 3; let rx : Bool := true; let n : Fin 256 := 255; let w : BitVec 32 := 0; decide (s.NoAbort) && decide (s.on .flowptp = true) && decide (w.toNat % 4 = 0)),
    (let s : State := ru {start := some 13} fr; let n : Fin 256 := 255; let st : Nat := 13; decide (s.on .flowptp = true) && decide (s.flowUsed false n = true) && decide ((s.rxf n).allocating = true) && decide ((s.rxf n).start = some st) && decide ((s.rxf n).timed = false) && decide (s.flowState false n = 0)),
    (let s : State := tu {common := true} ft; let n : Fin 256 := 255; decide (s.on .flowptp = true) && decide (s.flowUsed true n = true) && decide ((s.txf n).allocating = true) && decide ((s.txf n).start = none) && decide (s.flowState true n = 0)),
    (let s : State := ru {allocating := false, start := some 0} (fr.put (fState false 255) 1); let n : Fin 256 := 255; let i : Nat := 0; decide (s.flowState false n = 1) && decide ((s.rxf n).start = some i) && decide ((s.rxf n).cancelled = false) && decide (i ≤ s.toFlow false n s.time.index)),
    (let s : State := tu {allocating := false, start := some 0} (ft.put (fState true 255) 1); let n : Fin 256 := 255; let i : Nat := 0; decide (s.flowState true n = 1) && decide ((s.txf n).start = some i) && decide ((s.txf n).cancelled = false) && decide (i ≤ s.toFlow true n s.time.index)),
    (let s : State := s0; let rx : Bool := true; let n : Fin 256 := 255; decide (s.flowState (!rx) n = 0)),
    (let s : State := ru {allocating := false, stop := some 0} (fr.put (fState false 255) 3); let n : Fin 256 := 255; let e : Nat := 0; decide (s.flowState false n = 3) && decide ((s.rxf n).stop = some e) && decide (e ≤ s.toFlow false n s.time.index)),
    (let s : State := tu {allocating := false, stop := some 0} (ft.put (fState true 255) 3); let n : Fin 256 := 255; let e : Nat := 0; decide (s.flowState true n = 3) && decide ((s.txf n).stop = some e) && decide (e ≤ (s.txf n).done)),
    (let s : State := ru {allocating := false, ended := true} (fr.put (fState false 255) 3); let n : Fin 256 := 255; decide (s.flowUsed false n = true) && decide ((s.rxf n).ended = true)),
    (let s : State := tu {allocating := false, ended := true} (ft.put (fState true 255) 3); let n : Fin 256 := 255; decide (s.flowUsed true n = true) && decide ((s.txf n).ended = true))] : List Bool).all id = true := by decide +kernel

/-- The hypotheses of `FlowPacketsMove`, clause by clause. -/
theorem test_meets_FlowPacketsMove : ([
    (let s : State := (((ru {allocating := false, f := 1000} (fr.put (fState false 255) 2)).put (R.FLOW_RX_OFFSET_OFFSET 255) 20)).put (R.FLOW_RX_CFG_PT 255) 0; let x : Fin 2 := 0; let n : Nat := 255; let p : RtpPacket := {pk with ts := 985, payload := List.replicate (s.get (fChannels false 255) * s.flowP false 255 * wireBytes (s.get (fFormat false 255))) 1}; let t : Nat := 4; let f : RxFlow := s.rxf n; let d : Int := sgn 32 (unsgn 32 ((p.ts : Int) - s.get (R.FLOW_RX_TS_OFS_TS_OFS n) - ((f.f : Int) - s.get (R.FLOW_RX_OFFSET_OFFSET n)))); decide (s.on .flowptp = true) && decide (s.rxFind x p = some n) && decide (p.version = 2) && decide (p.pt = s.get (R.FLOW_RX_CFG_PT n)) && decide (s.flag (R.FLOW_RX_CFG_SSRC_EN n) = false) && decide (p.payload.length = s.get (fChannels false n) * s.flowP false n * wireBytes (s.get (fFormat false n))) && decide ((if x = 0 then f.sa else f.sb).high = none) && decide (f.slots = []) && decide (0 ≤ d) && decide (d + s.flowP false n ≤ s.rxDepth n)),
    (let s : State := fw; let x : Fin 2 := 0; let n : Nat := 255; let p : RtpPacket := {pk with version := 1}; let t : Nat := 4; let y : State := s.raise (if x = 0 then R.FLOW_RX_STATUS_RX_A n else R.FLOW_RX_STATUS_RX_B n); decide (s.on .flowptp = true) && decide (s.rxFind x p = some n) && decide (p.version ≠ 2)),
    (let s : State := fw.put (R.FLOW_RX_CFG_PT 255) 0; let x : Fin 2 := 0; let n : Nat := 255; let p : RtpPacket := {pk with payload := List.replicate (s.get (fChannels false 255) * s.flowP false 255 * wireBytes (s.get (fFormat false 255))) 1}; let t : Nat := 4; let y : State := s.raise (if x = 0 then R.FLOW_RX_STATUS_RX_A n else R.FLOW_RX_STATUS_RX_B n); decide (s.on .flowptp = true) && decide (s.rxFind x p = some n) && decide (p.version = 2) && decide (p.pt = s.get (R.FLOW_RX_CFG_PT n)) && decide (s.flag (R.FLOW_RX_CFG_SSRC_EN n) = false) && decide (p.payload.length = s.get (fChannels false n) * s.flowP false n * wireBytes (s.get (fFormat false n))) && decide ((if x = 0 then (s.rxf n).sa else (s.rxf n).sb).high = some p.seq)),
    (let s : State := s0; let x : Fin 2 := 1; let p : RtpPacket := pk; let t : Nat := 4; decide (s.rxFind x p = none)),
    (let s : State := (fw.raise (R.FLOW_RX_STATUS_RX_B 255)); let n : Fin 256 := 255; let x : Fin 2 := 1; decide (s.on .flowptp = true)),
    (let s : State := {ru {} fr with flow := {(ru {} fr).flow with mons := [(255, {seenA := true, seenB := true, skew := 7, late := true})]}}; let n : Fin 256 := 255; decide (s.on .flowptp = true)),
    (let s : State := (((((({s0 with flow := {s0.flow with launches := [(255, {first := 0, seq := 0, payload := [], launch := 0})]}}).raise R.TWIN_STATUS_OWN).put (fPorts true 255) 1).put (R.NET_STATUS_LINK 0) 1).put (R.NET_CTRL_EN 0) 1).wr (R.NET_IP_ADDR 0) 0x0A000001); let n : Fin 256 := 255; let m : Nat := 255; let k : TxPacket := {first := 0, seq := 0, payload := [], launch := 0}; let x : State := { s with flow := { s.flow with launches := s.flow.launches.erase (m, k) } }; let y : State := x.setPort 0 { x.port 0 with ident := ((s.port 0).ident + 1) % 65536 }; let u : List (BitVec 8) := udp (s.ipOf 0) (s.get (fDst true n 0)) (s.get (fSport true n 0)) (s.get (fDport true n 0)) ([0x80] ++ beBytes 1 (s.get (R.FLOW_TX_CFG_PT n)) ++ beBytes 2 k.seq ++ beBytes 4 k.first ++ beBytes 4 (s.get (R.FLOW_TX_SSRC_SSRC n)) ++ k.payload); let ip : List (BitVec 8) := ipv4 (s.get (R.FLOW_TX_CH_DSCP n)) (s.get (R.FLOW_TX_CH_TTL n)) 17 (s.port 0).ident (s.ipOf 0) (s.get (fDst true n 0)) [] u; let bs : List (BitVec 8) := ether (s.flowMac n 0) (s.macOf 0) (s.tagOf 0 (R.NET_VLAN_PCP_MEDIA 0)) 0x0800 ip; decide (s.on .flowptp = true) && decide (s.owns = true) && decide (s.flow.launches.find? (fun e => e.1 == n.val) = some (m, k)) && decide (k.launch ≤ (s.mediaNs + 1000000000 / s.rate) * 65536) && decide (s.get (fPorts true n) = 1) && decide (s.linkIsUp 0 = true) && decide (s.ipOf 0 ≠ 0)),
    (let s : State := fl.clr R.TWIN_STATUS_OWN; let n : Fin 256 := 255; let m : Nat := 255; let k : TxPacket := pk2; let x : State := { s with flow := { s.flow with launches := s.flow.launches.erase (m, k) } }; decide (s.on .flowptp = true) && decide (s.owns = false) && decide (s.flow.launches.find? (fun e => e.1 == n.val) = some (m, k)) && decide (k.launch ≤ (s.mediaNs + 1000000000 / s.rate) * 65536)),
    (let s : State := (fl.raise R.TWIN_STATUS_OWN).put (fPorts true 255) 1; let n : Fin 256 := 255; let m : Nat := 255; let k : TxPacket := pk2; let x : State := { s with flow := { s.flow with launches := s.flow.launches.erase (m, k) } }; decide (s.on .flowptp = true) && decide (s.owns = true) && decide (s.flow.launches.find? (fun e => e.1 == n.val) = some (m, k)) && decide (k.launch ≤ (s.mediaNs + 1000000000 / s.rate) * 65536) && decide (s.get (fPorts true n) = 1) && decide (s.linkIsUp 0 = false)),
    (let s : State := s0.put (fFormat false 255) 2; let w : BitVec 32 := 0x00ff; decide (s.NoAbort) && decide (s.on .flowptp = true) && decide (s.get (fFormat false (R.FLOW_CS_CAP_FLOW.ofWord w)) = 2))] : List Bool).all id = true := by decide +kernel

/-- The hypotheses of `FlowEntryIsLocked`, clause by clause. -/
theorem test_meets_FlowEntryIsLocked : ([
    (let s : State := ru {} fr; let tx : Bool := false; let n : Fin 256 := 255; let p : Fin 4 := 0; let k : Fin 11 := 10; let w : BitVec 32 := 0xFFFFFFFF; decide (s.portOpen p = true) && decide (s.InTurn p) && decide (s.host.guard = []) && decide (s.NoAbort) && decide (s.host.held = []) && decide (s.on .flowptp = true) && decide (s.flowUsed tx n = true)),
    (let s : State := ru {} fr; let tx : Bool := false; let n : Fin 256 := 255; let p : Fin 4 := 0; let w : BitVec 32 := 0xFFFFFFFF; decide (s.portOpen p = true) && decide (s.InTurn p) && decide (s.host.guard = []) && decide (s.NoAbort) && decide (s.host.held = []) && decide (s.on .flowptp = true) && decide (s.flowUsed tx n = true)),
    (let s : State := ru {} fr; let tx : Bool := false; let n : Fin 256 := 255; let p : Fin 4 := 0; let w : BitVec 32 := 0xFFFFFFE8; decide (s.portOpen p = true) && decide (s.InTurn p) && decide (s.host.guard = []) && decide (s.NoAbort) && decide (s.host.held = []) && decide (s.on .flowptp = true) && decide (s.flowUsed tx n = true) && decide (w.toNat % 4 = 0) && decide (w.toNat.testBit 4 = false))] : List Bool).all id = true := by decide +kernel

end We

namespace Wf

def cm : Commit := {shadow := [], cut := [], dp := List.replicate 8 0xF000, swap := 0, cfg := 64, at_ := 0, timed := true}
def sb : State := {s0 with time := {s0.time with begun := true}}
def sk (k : SinkSt) : State := s0.setSink 4095 k
def xx : XFade := {src0 := 3, amp0 := 0, k := 64, n := 64, lin := false}

/-- The hypotheses of `CommitsAct`, clause by clause. -/
theorem test_meets_CommitsAct : ([
    (let s : State := s0.raise R.ROUTE_COMMIT_STATUS_BUSY; let w : BitVec 32 := 0; decide (s.NoAbort) && decide (s.on .flowptp = true) && decide (s.flag R.ROUTE_COMMIT_STATUS_BUSY = true) && decide (w.toNat.testBit 1 = false) && decide (w.toNat.testBit 3 = false)),
    (let s : State := s0; let w : BitVec 32 := 2; decide (s.NoAbort) && decide (s.on .flowptp = true) && decide (w.toNat.testBit 1 = true)),
    (let s : State := s0; let w : BitVec 32 := 0x80010000; decide (s.NoAbort) && decide (s.on .flowptp = true) && decide (s.flag R.ROUTE_COMMIT_STATUS_BUSY = false) && decide (w.toNat.testBit 1 = false) && decide (w.toNat.testBit 3 = false) && decide (w.toNat.testBit 2 = false)),
    (let s : State := (s0.wr (R.ROUTE_SINK 4095) 0x1234).wr (R.ROUTE_DP_ACT 7) 5; let w : BitVec 32 := 0; decide (s.NoAbort) && decide (s.on .flowptp = true) && decide (s.flag R.ROUTE_COMMIT_STATUS_BUSY = false) && decide (w.toNat.testBit 0 = false) && decide (w.toNat.testBit 3 = false) && decide (s.regs.wf = true)),
    (let s : State := {s0 with route := {s0.route with commit := some cm}}; let w : BitVec 32 := 0; let c : Commit := cm; decide (s.NoAbort) && decide (s.on .flowptp = true) && decide (w.toNat.testBit 0 = false) && decide (w.toNat.testBit 1 = false) && decide (s.route.commit = some c) && decide (c.timed = true)),
    (let s : State := {s0 with route := {s0.route with commit := some {cm with timed := false}}}; let w : BitVec 32 := 0; let c : Commit := {cm with timed := false}; decide (s.NoAbort) && decide (s.on .flowptp = true) && decide (w.toNat.testBit 0 = false) && decide (w.toNat.testBit 1 = false) && decide (s.route.commit = some c) && decide (c.timed = false)),
    (let s : State := sb; decide (s.time.begun = true) && decide (s.route.commit = none)),
    (let s : State := s0; decide (s.on .clk = true) && decide (s.atBoundary = true) && decide (s.time.begun = false)),
    (let s : State := {sb with route := {sb.route with commit := some {cm with at_ := 8}}}; let c : Commit := {cm with at_ := 8}; decide (s.time.begun = true) && decide (s.route.commit = some c) && decide (s.time.index < c.at_)),
    (let s : State := {sb with route := {sb.route with commit := some cm}}; let c : Commit := cm; decide (s.route.commit = some c) && decide (c.at_ ≤ s.time.index) && decide (s.on .flowptp = true) && decide (s.atBoundary = true) && decide (s.time.begun = true) && decide (c.swap = 0) && decide (s.listed (R.ROUTE_SINK 0) (R.ROUTE_SINK 4096) = []) && decide (c.shadow = [])),
    (let s : State := {sb with route := {sb.route with commit := some {cm with shadow := [(R.ROUTE_SHADOW 4095, 0xF001)]}}}; let c : Commit := {cm with shadow := [(R.ROUTE_SHADOW 4095, 0xF001)]}; decide (s.route.commit = some c) && decide (c.at_ ≤ s.time.index) && decide (s.on .flowptp = true) && decide (s.atBoundary = true) && decide (s.time.begun = true) && decide (c.swap = 0))] : List Bool).all id = true := by decide +kernel

/-- The hypotheses of `EntriesBecomeActive`, clause by clause. -/
theorem test_meets_EntriesBecomeActive : ([
    (let s : State := s0; let n : Fin 4096 := 4095; let e : BitVec 32 := 0xF001; let cfg : BitVec 32 := 64; let r : Bool × State := s.applyEntry n e cfg false; decide (entrySrc e ≠ entrySrc (s.rd (R.ROUTE_SINK n))) && decide ((s.sinkSt n).xf = none) && decide (cfgLen cfg ≠ 0)),
    (let s : State := sk {xf := some xx}; let n : Fin 4096 := 4095; let e : BitVec 32 := 0xF001; let cfg : BitVec 32 := 64; let x : XFade := xx; let r : Bool × State := s.applyEntry n e cfg false; decide (entrySrc e ≠ entrySrc (s.rd (R.ROUTE_SINK n))) && decide ((s.sinkSt n).xf = some x)),
    (let s : State := s0; let n : Fin 4096 := 4095; let e : BitVec 32 := 0xF001; let cfg : BitVec 32 := 64; let r : Bool × State := s.applyEntry n e cfg true; decide (entrySrc e ≠ entrySrc (s.rd (R.ROUTE_SINK n)))),
    (let s : State := s0; let n : Fin 4096 := 4095; let e : BitVec 32 := 0x8000F7FF; let cfg : BitVec 32 := 64; let r : Bool × State := s.applyEntry n e cfg true; decide (entrySrc e = entrySrc (s.rd (R.ROUTE_SINK n))) && decide (entryGain e ≠ entryGain (s.rd (R.ROUTE_SINK n)))),
    (let s : State := s0; let n : Fin 4096 := 4095; let e : BitVec 32 := 0x800037FF; let cfg : BitVec 32 := 64; let len : Nat := rampSamples s.rate (entryRamp e) (R.ROUTE_CFG_DEF_RAMP.ofWord cfg); let r : Bool × State := s.applyEntry n e cfg false; decide (entrySrc e = entrySrc (s.rd (R.ROUTE_SINK n))) && decide (entryGain e ≠ entryGain (s.rd (R.ROUTE_SINK n))) && decide (len ≠ 0)),
    (let s : State := s0; let n : Fin 4096 := 4095; let e : BitVec 32 := 0x800007FF; let cfg : BitVec 32 := 64; let r : Bool × State := s.applyEntry n e cfg false; decide (entrySrc e = entrySrc (s.rd (R.ROUTE_SINK n))) && decide (entryGain e ≠ entryGain (s.rd (R.ROUTE_SINK n))) && decide (rampSamples s.rate (entryRamp e) (R.ROUTE_CFG_DEF_RAMP.ofWord cfg) = 0)),
    (let s : State := s0; let n : Fin 4096 := 4095; let e : BitVec 32 := 0x000037FF; let cfg : BitVec 32 := 64; let cut : Bool := false; let r : Bool × State := s.applyEntry n e cfg cut; decide (entrySrc e = entrySrc (s.rd (R.ROUTE_SINK n))) && decide (entryGain e = entryGain (s.rd (R.ROUTE_SINK n)))),
    (let s : State := s0; let n : Fin 4096 := 4095; let e : BitVec 32 := 0xF001; let cfg : BitVec 32 := 0; let r : Bool × State := s.applyEntry n e cfg false; decide (entrySrc e ≠ entrySrc (s.rd (R.ROUTE_SINK n))) && decide ((s.sinkSt n).xf = none) && decide (cfgLen cfg = 0))] : List Bool).all id = true := by decide +kernel

/-- The hypotheses of `RouteRowsAct`, clause by clause. -/
theorem test_meets_RouteRowsAct : ([
    (let s : State := sk {xf := some xx}; let n : Fin 4096 := 4095; let x : XFade := xx; decide ((s.sinkSt n).xf = some x) && decide (x.n ≤ x.k) && decide ((s.sinkSt n).defer = none)),
    (let s : State := s0; let n : Fin 4096 := 4095; decide ((s.sinkSt n).xf = none)),
    (let s : State := (sk {xf := some xx, defer := some 64}).wr (R.ROUTE_SINK 4095) 0xF001; let n : Fin 4096 := 4095; let x : XFade := xx; let cfg : BitVec 32 := 64; decide ((s.sinkSt n).xf = some x) && decide (x.n ≤ x.k) && decide ((s.sinkSt n).defer = some cfg) && decide (entrySrc (s.rd (R.ROUTE_SINK n)) ≠ (s.sinkSt n).src) && decide (cfgLen cfg ≠ 0)),
    (let s : State := s0; let n : Fin 4096 := 4095; decide (s.NoAbort) && decide (s.on .flowptp = true)),
    (let s : State := s0; let n : Fin 4096 := 4095; decide (s.NoAbort) && decide (s.on .flowptp = true)),
    (let s : State := s0; let w : BitVec 32 := 0xFFFFFFFF; decide (s.NoAbort) && decide (s.on .flowptp = true)),
    (let s : State := s0.put (R.ROUTE_SRC_STATUS_STATE 127) 1; let n : Fin 128 := 127; let ratio : BitVec 32 := 0x1000000; decide (s.on .flowptp = true) && decide (s.srcState n = 1)),
    (let s : State := s0.put (R.ROUTE_SRC_STATUS_STATE 127) 2; let n : Fin 128 := 127; let ratio : BitVec 32 := 0x1000000; decide (s.on .flowptp = true) && decide (s.srcState n = 2)),
    (let s : State := {sb with route := {sb.route with dpMoves := [(0, 64, [0xF800])]}}; let at_ : Nat := 0; let cfg : Word := 64; let ws : List Word := [0xF800]; let l : List (Nat × Word × List Word) := []; let x : State := { s with route := { s.route with dpMoves := l } }; decide (s.time.begun = true) && decide (s.route.dpMoves = (at_, cfg, ws) :: l) && decide (at_ ≤ s.time.index)),
    (let s : State := sb; decide (s.time.begun = true) && decide (s.route.dpMoves = []))] : List Bool).all id = true := by decide +kernel

end Wf

namespace Wg

def ls (st : Nat) : State := s0.put (R.LANE_STATUS_STATE 15) st
def lv (l : List (Bool × Nat)) (s : State) : State := s.setLane 15 {s.lane 15 with verify := l}
def img : State := let s := ((((s0.wr (bankAddr 15 0 0) 0x544C5053).wr (bankAddr 15 0 4) 0x00030001).wr (bankAddr 15 0 8) 1).wr (bankAddr 15 0 0x44) 0x7E000000); s.wr (bankAddr 15 0 0x3C) (BitVec.ofNat 32 (s.imageCrc 15 0))
def mr (st : Nat) : State := (s0.put R.MEM_STATUS_STATE st).put R.MEM_CTRL_EN (if st = 0 then 0 else 1)
def qs : State := ((mr 2).wr (R.DQ_LEN 31) 4096).wr (R.DQ_BASE 31) 0

/-- The hypotheses of `LaneCommandsAct`, clause by clause. -/
theorem test_meets_LaneCommandsAct : ([
    (let s : State := lv [(true, 1)] s0; let n : Fin 16 := 15; let w : BitVec 32 := 0xFFFFFFFF; decide (s.NoAbort) && decide (s.domOn (laneDom n) = true)),
    (let s : State := ls 2; let n : Fin 16 := 15; let w : BitVec 32 := 0; decide (s.NoAbort) && decide (s.domOn (laneDom n) = true)),
    (let s : State := (ls 2).raise (R.LANE_STATUS_SWAP_PENDING 15); let n : Fin 16 := 15; let w : BitVec 32 := 0; decide (s.NoAbort) && decide (s.domOn (laneDom n) = true) && decide (s.laneRuns n = true)),
    (let s : State := ls 4; let n : Fin 16 := 15; let w : BitVec 32 := 0; decide (s.NoAbort) && decide (s.domOn (laneDom n) = true) && decide (s.laneState n = 4)),
    (let s : State := (ls 2).raise (R.LANE_STATUS_SWAP_PENDING 15); let n : Fin 16 := 15; let w : BitVec 32 := 0; decide (s.NoAbort) && decide (s.domOn (laneDom n) = true) && decide (s.flag (R.LANE_STATUS_SWAP_PENDING n) = true)),
    (let s : State := ls 2; let n : Fin 16 := 15; let w : BitVec 32 := 0; decide (s.NoAbort) && decide (s.domOn (laneDom n) = true) && decide (s.flag (R.LANE_STATUS_SWAP_PENDING n) = false)),
    (let s : State := lv [(true, 1)] (ls 2); let n : Fin 16 := 15; let swap : Bool := true; let bank : Nat := 1; let l : List (Bool × Nat) := []; decide (s.domOn (laneDom n) = true) && decide (s.twin.take = none) && decide ((s.lane n).verify = (swap, bank) :: l) && decide (bank = (if swap then 1 - s.activeBank n else bank)) && decide (s.imageResult n swap bank ≠ 0)),
    (let s : State := lv [(false, 0)] img; let n : Fin 16 := 15; let bank : Nat := 0; let l : List (Bool × Nat) := []; decide (s.domOn (laneDom n) = true) && decide (s.twin.take = none) && decide ((s.lane n).verify = (false, bank) :: l) && decide (s.imageResult n false bank = 0) && decide (bank < 2)),
    (let s : State := s0; let n : Fin 16 := 15; decide ((s.lane n).verify = []) && decide (s.twin.take = none)),
    (let s : State := ls 2; let n : Fin 16 := 15; let w : BitVec 32 := 8; decide (s.NoAbort) && decide (s.domOn (laneDom n) = true) && decide (s.dbgOff = false) && decide (s.laneState n = 2)),
    (let s : State := ls 3; let n : Fin 16 := 15; let w : BitVec 32 := 8; decide (s.NoAbort) && decide (s.domOn (laneDom n) = true) && decide (s.dbgOff = false) && decide (s.laneState n = 3) && decide (w.toNat.testBit 2 = false)),
    (let s : State := ls 3; let n : Fin 16 := 15; let w : BitVec 32 := 8; decide (s.NoAbort) && decide (s.domOn (laneDom n) = true) && decide (s.dbgOff = false) && decide (s.laneState n = 3) && decide (w.toNat.testBit 0 = false) && decide (w.toNat.testBit 1 = false) && decide ((s.lane n).active = false)),
    (let s : State := {(ls 3).setLane 15 {active := true, pc := 2} with time := {s0.time with begun := true}}; let n : Fin 16 := 15; let w : BitVec 32 := 8; let x : State := s.wr (R.LANE_DBG_CTRL n) ((R.LANE_DBG_CTRL_STEP n).inWord w 1 &&& 8); decide (s.NoAbort) && decide (s.domOn (laneDom n) = true) && decide (s.dbgOff = false) && decide (s.laneState n = 3) && decide (w.toNat.testBit 0 = false) && decide (w.toNat.testBit 1 = false)),
    (let s : State := lv [(true, 1)] ((img.put (R.LANE_STATUS_STATE 15) 2).put (R.LANE_STATUS_ACTIVE_BANK 15) 1); let n : Fin 16 := 15; let l : List (Bool × Nat) := []; let b : Nat := 1; decide (s.domOn (laneDom n) = true) && decide (s.twin.take = none) && decide ((s.lane n).verify = (true, b) :: l) && decide (s.imageResult n true (1 - s.activeBank n) = 0)),
    (let s : State := ls 3; let n : Fin 16 := 15; let k : Fin 256 := 255; let w : BitVec 32 := 8; decide (s.NoAbort) && decide (s.domOn (laneDom n) = true) && decide (s.dbgOff = false) && decide (s.laneState n = 3)),
    (let s : State := ls 3; let n : Fin 16 := 15; let k : Fin 32 := 31; let w : BitVec 32 := 8; decide (s.NoAbort) && decide (s.domOn (laneDom n) = true) && decide (s.dbgOff = false) && decide (s.laneState n = 3)),
    (let s : State := ls 3; let n : Fin 16 := 15; let w : BitVec 32 := 0xFFFFFFFF; decide (s.NoAbort) && decide (s.domOn (laneDom n) = true) && decide (s.dbgOff = false) && decide (s.laneState n = 3)),
    (let s : State := ls 2; let n : Fin 16 := 15; let off : BitVec 11 := 0x4D0; let w : BitVec 32 := 0xFFFFFFFF; decide (s.NoAbort) && decide (s.laneState n ≠ 3)),
    (let s : State := (ls 2).put ⟨R.FUSE_WORD 24, 1, 1⟩ 1; let n : Fin 16 := 15; let w : BitVec 32 := 0; decide (s.NoAbort) && decide (s.dbgOff = true))] : List Bool).all id = true := by decide +kernel

/-- The hypotheses of `CrosspointsAndQueuesAct`, clause by clause. -/
theorem test_meets_CrosspointsAndQueuesAct : ([
    (let s : State := {s0 with time := {s0.time with index := 9}}; let e : Fin 16384 := 16383; let w : BitVec 32 := 0xFFFFFFFF; decide (s.NoAbort) && decide (s.on .flowptp = true) && decide ((s.time.index % 8 ≠ 0 ∨ s.time.begun = true))),
    (let s : State := s0; let e : Fin 16384 := 16383; let w : BitVec 32 := 0xFFFFFFFF; decide (s.NoAbort) && decide (s.on .flowptp = true) && decide (s.time.index % 8 = 0) && decide (s.time.begun = false)),
    (let s : State := qs; let q : Fin 32 := 31; let w : BitVec 32 := 0x7FFFFF01; let y : State := s.wr (R.DQ_CFG q) (w &&& 0x7F); decide (s.NoAbort) && decide (s.domOn (laneDom (q / 2)) = true) && decide (s.get (R.DQ_STATUS_STATE q) = 0) && decide (s.get (R.DQ_CFG_EN q) = 0) && decide (y.dqResult q = 0) && decide (s.on .memc = true)),
    (let s : State := qs; let q : Fin 32 := 31; let w : BitVec 32 := 0x7FFFFF41; let y : State := s.wr (R.DQ_CFG q) (w &&& 0x7F); decide (s.NoAbort) && decide (s.domOn (laneDom (q / 2)) = true) && decide (s.get (R.DQ_STATUS_STATE q) = 0) && decide (s.get (R.DQ_CFG_EN q) = 0) && decide (y.dqResult q ≠ 0)),
    (let s : State := qs.put (R.DQ_STATUS_STATE 31) 2; let q : Fin 32 := 31; let w : BitVec 32 := 0x1; decide (s.NoAbort) && decide (s.domOn (laneDom (q / 2)) = true) && decide (s.get (R.DQ_STATUS_STATE q) = 2)),
    (let s : State := s0; let q : Fin 32 := 31; let l : Fin 64 := 63; let w : BitVec 32 := 0xFFFFFFFF; decide (s.NoAbort) && decide (s.domOn (laneDom (q / 2)) = true)),
    (let s : State := ((ls 2).put R.MEM_STATUS_STATE 2).setLane 15 {active := true, waiting := some {op := 0x51, d := 31, imm := 31}}; let n : Fin 16 := 15; let cycles : Nat := 7; let i : Insn := {op := 0x51, d := 31, imm := 31}; decide (s.inRun n = true) && decide ((s.lane n).waiting = some i) && decide (s.get R.MEM_STATUS_STATE = 2) && decide ((s.lane n).loops = [])),
    (let s : State := s0; let n : Fin 16 := 15; let cycles : Nat := 7; decide ((s.lane n).waiting = none))] : List Bool).all id = true := by decide +kernel

/-- The hypotheses of `DramControllerActs`, clause by clause. -/
theorem test_meets_DramControllerActs : ([
    (let s : State := mr 0; let w : BitVec 32 := 0xFFFFFFFF; decide (s.NoAbort) && decide (s.on .memc = true) && decide (s.get R.MEM_STATUS_STATE = 0) && decide (s.get R.MEM_CTRL_EN = 0)),
    (let s : State := mr 1; let w : BitVec 32 := 0; decide (s.NoAbort) && decide (s.on .memc = true) && decide (s.get R.MEM_STATUS_STATE = 1)),
    (let s : State := (mr 2).put (R.DQ_STATUS_STATE 31) 2; let w : BitVec 32 := 0; decide (s.NoAbort) && decide (s.on .memc = true) && decide (s.get R.MEM_STATUS_STATE = 2) && decide (s.get R.MEM_CTRL_EN = 1) && decide (s.dramInUse = true)),
    (let s : State := mr 2; let w : BitVec 32 := 0; decide (s.NoAbort) && decide (s.on .memc = true) && decide (s.get R.MEM_STATUS_STATE = 2) && decide (s.get R.MEM_CTRL_EN = 1) && decide (s.dramInUse = false)),
    (let s : State := mr 2; let w : BitVec 32 := 3; decide (s.NoAbort) && decide (s.on .memc = true) && decide (s.get R.MEM_STATUS_STATE = 2) && decide (s.get R.MEM_CTRL_EN = 1) && decide (w.toNat.testBit 0 = true)),
    (let s : State := mr 1; decide (s.on .memc = true) && decide (s.get R.MEM_STATUS_STATE = 1) && decide (s.twin.take = none)),
    (let s : State := mr 1; decide (s.on .memc = true) && decide (s.get R.MEM_STATUS_STATE = 1) && decide (s.twin.take = none)),
    (let s : State := mr 3; decide (s.on .memc = true) && decide (s.get R.MEM_STATUS_STATE = 3)),
    (let s : State := (mr 2).put64 R.MEM_BURSTS_LO R.MEM_BURSTS_HI (2^64-1); let cls : Fin 4 := 1; let late : Bool := true; decide (s.on .memc = true) && decide (s.get R.MEM_STATUS_STATE = 2))] : List Bool).all id = true := by decide +kernel

end Wg

namespace Wh

def ln : Lane := { active := true, pc := 9, v := (List.range 256).map (fun k => (k, BitVec.ofNat 32 (0x3F000000 + 0x12345 * k))), s := [(3, 0xC0490FDB), (31, 0x40000001)], a := [(14, 0xFFFE), (15, 0x000A0005)], lc := [(3, 77)], flags := 0x1F04, ins := [(127, [1,2,3,4,5,6,7,0x3F800000]), (0, [1,2,3,4,5,6,7,8]), (90, [1,2,3,4,5,6,7,8])] }
def sp : State := (((((((s0.put (R.LANE_STATUS_STATE 15) 2).setLane 15 ln).wr (bankAddr 15 0 8) 0x0004).wr (bankAddr 15 0 0x34) 0x80000000).wr (R.LANE_XP 15) 0x00040000).wr (dataAddr 15 3) 0x3E800000).wr (dataAddr 15 0) 0x3F000000).wr (dataAddr 15 1) 0x3F100000
def sq : State := ((sp.put (R.DQ_STATUS_STATE 31) 2).put (R.DQ_CFG_LINES 31) 1).setDq 31 {lines := [(0, (List.range 64).map (fun k => BitVec.ofNat 32 (0x3F000000 + k)))], taps := [(0, {delay := 24, xf := some (30, 8)})]}
def ss : State := ((sp.raise (R.SILO_S_STATUS_OPEN 9)).put (R.SILO_S_CFG_PROD 9) 3).put (R.SILO_S_CFG_LANE 9) 15
def nan : State := sp.setLane 15 { ln with s := [(3, 0x7FC00000), (31, 1)] }

/-- The hypotheses of `SpeltMovesAct`, clause by clause. -/
theorem test_meets_SpeltMovesAct : ([
    (let s : State := sp; let n : Fin 16 := 15; let f : InsnFields := {}; decide (s.CanGoOn n) && decide (f = { imm := 0 })),
    (let s : State := sp; let n : Fin 16 := 15; let f : InsnFields := {d := 31, b := 15, imm := 0xFFFF0002}; decide (s.CanIssue n) && decide (f.z = 0) && decide (f.m = 0) && decide (f.a = 0) && decide (f.b.toNat < 16)),
    (let s : State := sp; let n : Fin 16 := 15; let f : InsnFields := {a := 31, b := 14, imm := 0x0001FFFE}; let k : Fin 8 := 7; decide (s.CanIssue n) && decide (f.z = 0) && decide (f.m = 0) && decide (f.d = 0) && decide (f.b.toNat < 16) && decide (bitsOf ((s.lane n).ad f.b.toNat).toNat 31 16 = 0)),
    (let s : State := sp; let n : Fin 16 := 15; let f : InsnFields := {a := 31, b := 14, imm := 0x0001FFFE}; let a : Nat := 0x400000; decide (s.CanIssue n) && decide (f.z = 0) && decide (f.m = 0) && decide (f.d = 0) && decide (f.b.toNat < 16) && decide (0x400000 ≤ a) && decide (a < 0x800000) && decide ((∀ k : Fin 8, a ≠ dataAddr n (wordAt ((s.lane n).ad f.b.toNat) ((insnOf 2 f).disp + k))))),
    (let s : State := sp; let n : Fin 16 := 15; let f : InsnFields := {d := 31, b := 15, imm := 0x00000002}; decide (s.CanIssue n) && decide (f.z = 0) && decide (f.m = 0) && decide (f.a = 0) && decide (f.b.toNat < 16) && decide ((insnOf 3 f).inc = 0)),
    (let s : State := sp; let n : Fin 16 := 15; let f : InsnFields := {d := 31, b := 15, imm := 0xFFFF0002}; decide (s.CanIssue n) && decide (f.z = 0) && decide (f.m = 0) && decide (f.a = 0) && decide (f.b.toNat < 16)),
    (let s : State := sp; let n : Fin 16 := 15; let f : InsnFields := {a := 31, b := 14, imm := 0x0001FFFE}; let a : Nat := dataAddr 15 (wordAt ((s.lane 15).ad 14) (-2)); decide (s.CanIssue n) && decide (f.z = 0) && decide (f.m = 0) && decide (f.d = 0) && decide (f.b.toNat < 16) && decide (0x400000 ≤ a) && decide (a < 0x800000)),
    (let s : State := sp; let n : Fin 16 := 15; let f : InsnFields := {d := 31, a := 3, b := 15, imm := 0x00000002}; decide (s.CanIssue n) && decide (f.z = 0) && decide (f.m = 0) && decide (f.b.toNat < 16) && decide ((insnOf 5 f).inc = 0)),
    (let s : State := sp; let n : Fin 16 := 15; let f : InsnFields := {d := 31, a := 3, b := 15, imm := 0xFFFF0002}; decide (s.CanIssue n) && decide (f.z = 0) && decide (f.m = 0) && decide (f.b.toNat < 16)),
    (let s : State := sp; let n : Fin 16 := 15; let f : InsnFields := {d := 31, a := 3, m := 1, imm := 127}; let xs : List F32 := look [] (s.lane 15).ins ((insnOf 6 f).slotAt ((s.lane 15).sc f.a.toNat)); decide (s.CanIssue n) && decide (f.z = 0) && decide (f.b = 0) && decide (f.m &&& 14 = 0) && decide (f.imm.toNat < 128) && decide (look [] (s.lane n).ins ((insnOf 6 f).slotAt ((s.lane n).sc f.a.toNat)) = xs)),
    (let s : State := sp; let n : Fin 16 := 15; let f : InsnFields := {a := 31, imm := 127}; decide (s.CanGoOn n) && decide (f.z = 0) && decide (f.d = 0) && decide (f.m = 0) && decide (f.imm.toNat < 128) && decide (f.imm.toNat ∈ s.outMap n (s.activeBank n))),
    (let s : State := sp; let n : Fin 16 := 15; let f : InsnFields := {a := 31, imm := 126}; decide (s.CanIssue n) && decide (f.z = 0) && decide (f.d = 0) && decide (f.m = 0) && decide (f.imm.toNat < 128) && decide (f.imm.toNat ∉ s.outMap n (s.activeBank n)) && decide (s.CanGoOn n)),
    (let s : State := sp; let n : Fin 16 := 15; let f : InsnFields := {d := 15, imm := 0xFFFFFFFF}; decide (s.CanIssue n) && decide (f.z = 0) && decide (f.m = 0) && decide (f.a = 0) && decide (f.b = 0) && decide (f.d.toNat < 16)),
    (let s : State := sp; let n : Fin 16 := 15; let f : InsnFields := {d := 15, a := 15, b := 3, m := 1, imm := 0x0000FFFF}; decide (s.CanIssue n) && decide (f.z = 0) && decide (f.m &&& 14 = 0) && decide (f.a.toNat < 16) && decide (f.d.toNat < 16) && decide ((insnOf 9 f).inc = 0)),
    (let s : State := sp; let n : Fin 16 := 15; let f : InsnFields := {d := 31, a := 15}; decide (s.CanIssue n) && decide (f.z = 0) && decide (f.m = 0) && decide (f.imm = 0) && decide (f.b = 0) && decide (f.a.toNat < 16)),
    (let s : State := sp; let n : Fin 16 := 15; let f : InsnFields := {d := 15, a := 31}; decide (s.CanIssue n) && decide (f.z = 0) && decide (f.m = 0) && decide (f.imm = 0) && decide (f.b = 0) && decide (f.d.toNat < 16)),
    (let s : State := sp; let n : Fin 16 := 15; let f : InsnFields := {d := 31, imm := 0x80000000}; decide (s.CanIssue n) && decide (f.z = 0) && decide (f.m = 0) && decide (f.a = 0) && decide (f.b = 0)),
    (let s : State := sp; let n : Fin 16 := 15; let f : InsnFields := {d := 31}; decide (s.CanIssue n) && decide (f.z = 0) && decide (f.m = 0) && decide (f.imm = 0) && decide (f.a = 0) && decide (f.b = 0)),
    (let s : State := sp; let n : Fin 16 := 15; let f : InsnFields := {imm := 0xFFFFFFFF}; decide (s.CanIssue n) && decide (f.z = 0) && decide (f.m = 0) && decide (f.d = 0) && decide (f.a = 0) && decide (f.b = 0)),
    (let s : State := sp; let n : Fin 16 := 15; let f : InsnFields := {d := 31, a := 3}; decide (s.CanIssue n) && decide (f.z = 0) && decide (f.m = 0) && decide (f.imm = 0) && decide (f.b = 0) && decide (f.a.toNat < 4))] : List Bool).all id = true := by decide +kernel

/-- The hypotheses of `SpeltVectorsAct`, clause by clause. -/
theorem test_meets_SpeltVectorsAct : ([
    (let s : State := sp; let n : Fin 16 := 15; let f : InsnFields := {d := 31, a := 1, b := 31}; decide (s.CanIssue n) && decide (f.z = 0) && decide (f.m = 0) && decide (f.imm = 0)),
    (let s : State := sp; let n : Fin 16 := 15; let f : InsnFields := {d := 31, a := 1, b := 31}; decide (s.CanIssue n) && decide (f.z = 0) && decide (f.m = 0) && decide (f.imm = 0)),
    (let s : State := sp; let n : Fin 16 := 15; let f : InsnFields := {d := 31, a := 1, b := 31}; decide (s.CanIssue n) && decide (f.z = 0) && decide (f.m = 0) && decide (f.imm = 0)),
    (let s : State := sp; let n : Fin 16 := 15; let f : InsnFields := {d := 31, a := 1, b := 31}; decide (s.CanIssue n) && decide (f.z = 0) && decide (f.m = 0) && decide (f.imm = 0)),
    (let s : State := sp; let n : Fin 16 := 15; let f : InsnFields := {d := 31, a := 1, b := 31}; decide (s.CanIssue n) && decide (f.z = 0) && decide (f.m = 0) && decide (f.imm = 0)),
    (let s : State := sp; let n : Fin 16 := 15; let f : InsnFields := {d := 31, a := 1, b := 31}; decide (s.CanIssue n) && decide (f.z = 0) && decide (f.m = 0) && decide (f.imm = 0)),
    (let s : State := sp; let n : Fin 16 := 15; let f : InsnFields := {d := 31, a := 31, b := 3}; decide (s.CanIssue n) && decide (f.z = 0) && decide (f.m = 0) && decide (f.imm = 0)),
    (let s : State := sp; let n : Fin 16 := 15; let f : InsnFields := {d := 31, a := 31, b := 3}; decide (s.CanIssue n) && decide (f.z = 0) && decide (f.m = 0) && decide (f.imm = 0)),
    (let s : State := sp; let n : Fin 16 := 15; let f : InsnFields := {d := 31, a := 1, b := 3}; decide (s.CanIssue n) && decide (f.z = 0) && decide (f.m = 0) && decide (f.imm = 0)),
    (let s : State := sp; let n : Fin 16 := 15; let f : InsnFields := {d := 31, a := 31}; decide (s.CanIssue n) && decide (f.z = 0) && decide (f.m = 0) && decide (f.imm = 0) && decide (f.b = 0)),
    (let s : State := sp; let n : Fin 16 := 15; let f : InsnFields := {d := 31, a := 31}; decide (s.CanIssue n) && decide (f.z = 0) && decide (f.m = 0) && decide (f.imm = 0) && decide (f.b = 0)),
    (let s : State := sp; let n : Fin 16 := 15; let f : InsnFields := {d := 31, a := 31}; decide (s.CanIssue n) && decide (f.z = 0) && decide (f.m = 0) && decide (f.imm = 0) && decide (f.b = 0)),
    (let s : State := sp; let n : Fin 16 := 15; let f : InsnFields := {d := 31, a := 1}; decide (s.CanIssue n) && decide (f.z = 0) && decide (f.m = 0) && decide (f.imm = 0) && decide (f.b = 0)),
    (let s : State := sp; let n : Fin 16 := 15; let f : InsnFields := {d := 31, a := 3}; decide (s.CanIssue n) && decide (f.z = 0) && decide (f.m = 0) && decide (f.imm = 0) && decide (f.b = 0)),
    (let s : State := sp; let n : Fin 16 := 15; let f : InsnFields := {d := 31, a := 31, imm := 7}; let k : Fin 8 := 7; decide (s.CanIssue n) && decide (f.z = 0) && decide (f.m = 0) && decide (f.b = 0) && decide (f.imm = BitVec.ofNat 32 k)),
    (let s : State := sp; let n : Fin 16 := 15; let f : InsnFields := {d := 31, a := 3, imm := 7}; let k : Fin 8 := 7; let j : Fin 8 := 7; decide (s.CanIssue n) && decide (f.z = 0) && decide (f.m = 0) && decide (f.b = 0) && decide (f.imm = BitVec.ofNat 32 k)),
    (let s : State := sp; let n : Fin 16 := 15; let f : InsnFields := {d := 31, a := 31, m := 1}; decide (s.CanIssue n) && decide (f.z = 0) && decide (f.b = 0) && decide (f.imm = 0) && decide (f.m &&& 14 = 0)),
    (let s : State := sp; let n : Fin 16 := 15; let f : InsnFields := {d := 31, a := 31}; decide (s.CanIssue n) && decide (f.z = 0) && decide (f.m = 0) && decide (f.imm = 0) && decide (f.b = 0))] : List Bool).all id = true := by decide +kernel

/-- The hypotheses of `SpeltScalarsAct`, clause by clause. -/
theorem test_meets_SpeltScalarsAct : ([
    (let s : State := sp; let n : Fin 16 := 15; let f : InsnFields := {d := 31, a := 3, b := 31}; decide (s.CanIssue n) && decide (f.z = 0) && decide (f.m = 0) && decide (f.imm = 0)),
    (let s : State := sp; let n : Fin 16 := 15; let f : InsnFields := {d := 31, a := 3, b := 31}; decide (s.CanIssue n) && decide (f.z = 0) && decide (f.m = 0) && decide (f.imm = 0)),
    (let s : State := sp; let n : Fin 16 := 15; let f : InsnFields := {d := 31, a := 3, b := 31}; decide (s.CanIssue n) && decide (f.z = 0) && decide (f.m = 0) && decide (f.imm = 0)),
    (let s : State := sp; let n : Fin 16 := 15; let f : InsnFields := {d := 31, a := 3, b := 31}; decide (s.CanIssue n) && decide (f.z = 0) && decide (f.m = 0) && decide (f.imm = 0)),
    (let s : State := sp; let n : Fin 16 := 15; let f : InsnFields := {d := 31, a := 3, b := 31}; decide (s.CanIssue n) && decide (f.z = 0) && decide (f.m = 0) && decide (f.imm = 0)),
    (let s : State := sp; let n : Fin 16 := 15; let f : InsnFields := {d := 31, a := 3, b := 31}; decide (s.CanIssue n) && decide (f.z = 0) && decide (f.m = 0) && decide (f.imm = 0)),
    (let s : State := sp; let n : Fin 16 := 15; let f : InsnFields := {d := 31, a := 3, b := 31, m := 1, imm := 0x80000001}; decide (s.CanIssue n) && decide (f.z = 0) && decide (f.m &&& 14 = 0)),
    (let s : State := sp; let n : Fin 16 := 15; let f : InsnFields := {d := 31, a := 3, b := 31, m := 1, imm := 0x80000001}; decide (s.CanIssue n) && decide (f.z = 0) && decide (f.m &&& 14 = 0)),
    (let s : State := sp; let n : Fin 16 := 15; let f : InsnFields := {d := 31, a := 3, b := 31, m := 1, imm := 0x80000001}; decide (s.CanIssue n) && decide (f.z = 0) && decide (f.m &&& 14 = 0)),
    (let s : State := sp; let n : Fin 16 := 15; let f : InsnFields := {d := 31, a := 3, b := 31, m := 1, imm := 0x80000001}; decide (s.CanIssue n) && decide (f.z = 0) && decide (f.m &&& 14 = 0)),
    (let s : State := sp; let n : Fin 16 := 15; let f : InsnFields := {d := 31, a := 3, imm := 0xFFFFFFE1}; decide (s.CanIssue n) && decide (f.z = 0) && decide (f.m = 0) && decide (f.b = 0) && decide (-31 ≤ f.imm.toInt) && decide (f.imm.toInt ≤ 31)),
    (let s : State := sp; let n : Fin 16 := 15; let f : InsnFields := {a := 3, b := 31}; decide (s.CanIssue n) && decide (f.z = 0) && decide (f.m = 0) && decide (f.imm = 0) && decide (f.d = 0) && decide (isNaN32 ((s.lane n).sc f.a.toNat) = false) && decide (isNaN32 ((s.lane n).sc f.b.toNat) = false)),
    (let s : State := nan; let n : Fin 16 := 15; let f : InsnFields := {a := 3, b := 31}; decide (s.CanIssue n) && decide (f.z = 0) && decide (f.m = 0) && decide (f.imm = 0) && decide (f.d = 0) && decide (isNaN32 ((s.lane n).sc f.a.toNat) = true)),
    (let s : State := sp; let n : Fin 16 := 15; let f : InsnFields := {a := 3, b := 31}; decide (s.CanIssue n) && decide (f.z = 0) && decide (f.m = 0) && decide (f.imm = 0) && decide (f.d = 0)),
    (let s : State := sp; let n : Fin 16 := 15; let f : InsnFields := {d := 31, a := 3}; decide (s.CanIssue n) && decide (f.z = 0) && decide (f.m = 0) && decide (f.imm = 0) && decide (f.b = 0)),
    (let s : State := sp; let n : Fin 16 := 15; let f : InsnFields := {d := 31, a := 3}; decide (s.CanIssue n) && decide (f.z = 0) && decide (f.m = 0) && decide (f.imm = 0) && decide (f.b = 0)),
    (let s : State := sp; let n : Fin 16 := 15; let f : InsnFields := {d := 31, a := 3}; decide (s.CanIssue n) && decide (f.z = 0) && decide (f.m = 0) && decide (f.imm = 0) && decide (f.b = 0))] : List Bool).all id = true := by decide +kernel

/-- The hypotheses of `SpeltKernelsAct`, clause by clause. -/
theorem test_meets_SpeltKernelsAct : ([
    (let s : State := sp; let n : Fin 16 := 15; let f : InsnFields := {d := 31, m := 1, imm := 0x000000FF}; let i : Insn := insnOf 0x30 f; decide (s.CanIssue n) && decide (opMix.fieldsOk i = true) && decide (i.xp + i.mixCount ≤ s.get (R.LANE_XP_XP_COUNT n))),
    (let s : State := sp; let n : Fin 16 := 15; let f : InsnFields := {d := 31, imm := 0x0FFFFFFF}; let i : Insn := insnOf 0x30 f; decide (s.CanIssue n) && decide (opMix.fieldsOk i = true) && decide (s.get (R.LANE_XP_XP_COUNT n) < i.xp + i.mixCount)),
    (let s : State := sp; let n : Fin 16 := 15; let f : InsnFields := {d := 31, a := 30, imm := 0x00000080}; let i : Insn := insnOf 0x31 f; decide (s.CanIssue n) && decide (opMixv.fieldsOk i = true) && decide (i.xp + i.mixCount ≤ s.get (R.LANE_XP_XP_COUNT n))),
    (let s : State := sp; let n : Fin 16 := 15; let f : InsnFields := {d := 31, a := 31, b := 14, imm := 0x0000FFFE}; let i : Insn := insnOf 0x40 f; let c : Biq := ⟨s.blk n i 0, s.blk n i 1, s.blk n i 2, s.blk n i 3, s.blk n i 4⟩; decide (s.CanIssue n) && decide (opBiq.fieldsOk i = true) && decide (f.m = 0) && decide (i.inc = 0) && decide (bitsOf ((s.lane n).ad f.b.toNat).toNat 31 16 = 0)),
    (let s : State := sp; let n : Fin 16 := 15; let f : InsnFields := {d := 31, a := 31, b := 14, m := 2, imm := 0x00070002}; let i : Insn := insnOf 0x40 f; decide (s.CanIssue n) && decide (opBiq.fieldsOk i = true)),
    (let s : State := sp; let n : Fin 16 := 15; let f : InsnFields := {d := 31, a := 31, b := 14, imm := 0x0000FFFE}; let i : Insn := insnOf 0x41 f; let rs : List FRes := envRun (s.blk n i 0) (s.blk n i 1) (bitOf (s.blk n i 3).toNat 0) ((s.lane n).vec f.a.toNat) (s.blk n i 2); decide (s.CanIssue n) && decide (opEnv.fieldsOk i = true) && decide (i.inc = 0) && decide (bitsOf ((s.lane n).ad f.b.toNat).toNat 31 16 = 0)),
    (let s : State := sp; let n : Fin 16 := 15; let f : InsnFields := {d := 31, a := 31, b := 14, imm := 0x0004FFFE}; let i : Insn := insnOf 0x41 f; let rs : List FRes := envRun (s.blk n i 0) (s.blk n i 1) (bitOf (s.blk n i 3).toNat 0) ((s.lane n).vec f.a.toNat) (s.blk n i 2); decide (s.CanIssue n) && decide (opEnv.fieldsOk i = true)),
    (let s : State := sp; let n : Fin 16 := 15; let f : InsnFields := {d := 31, a := 31, b := 15, imm := 3}; let i : Insn := insnOf 0x44 f; decide (s.CanIssue n) && decide (opGainc.fieldsOk i = true) && decide (i.inc = 0)),
    (let s : State := sp; let n : Fin 16 := 15; let f : InsnFields := {d := 31, a := 31, b := 14, imm := 0x0005FFFE}; let i : Insn := insnOf 0x44 f; decide (s.CanIssue n) && decide (opGainc.fieldsOk i = true)),
    (let s : State := sp.wr (dataAddr 15 (wordAt ((sp.lane 15).ad 15) 4)) (sp.rd (dataAddr 15 (wordAt ((sp.lane 15).ad 15) 3)) ||| 0x80000000); let n : Fin 16 := 15; let f : InsnFields := {d := 31, a := 31, b := 15, imm := 3}; let i : Insn := insnOf 0x45 f; decide (s.CanIssue n) && decide (opRamp.fieldsOk i = true) && decide (i.inc = 0) && decide (s.blk n i 1 = s.blk n i 0 ||| 0x80000000)),
    (let s : State := sp; let n : Fin 16 := 15; let f : InsnFields := {d := 31, a := 31, b := 15, imm := 0x00080003}; let i : Insn := insnOf 0x45 f; let ctrl : BitVec 32 := s.blk n i 0; decide (s.CanIssue n) && decide (opRamp.fieldsOk i = true) && decide (s.blk n i 1 ≠ ctrl ||| 0x80000000))] : List Bool).all id = true := by decide +kernel

/-- The hypotheses of `SpeltQueuesAndControl`, clause by clause. -/
theorem test_meets_SpeltQueuesAndControl : ([
    (let s : State := sq; let n : Fin 16 := 15; let f : InsnFields := {a := 31, imm := 31}; let i : Insn := insnOf 0x50 f; let q : Nat := bitsOf f.imm.toNat 4 0; let k : Nat := i.lineAt ((s.lane n).sc f.b.toNat); decide (s.CanIssue n) && decide (opDqpush.fieldsOk i = true) && decide (s.dqUsable n q k = true)),
    (let s : State := sq; let n : Fin 16 := 15; let f : InsnFields := {d := 31, imm := 31}; let i : Insn := insnOf 0x51 f; let q : Nat := bitsOf f.imm.toNat 4 0; let k : Nat := i.lineAt ((s.lane n).sc f.b.toNat); decide (s.CanIssue n) && decide (opDqpop.fieldsOk i = true) && decide (s.dqUsable n q k = true) && decide ((s.dq q).late = false)),
    (let s : State := sq.setDq 31 {late := true}; let n : Fin 16 := 15; let f : InsnFields := {d := 31, imm := 31}; let i : Insn := insnOf 0x51 f; let q : Nat := bitsOf f.imm.toNat 4 0; let k : Nat := i.lineAt ((s.lane n).sc f.b.toNat); decide (s.CanIssue n) && decide (opDqpop.fieldsOk i = true) && decide (s.dqUsable n q k = true) && decide ((s.dq q).late = true)),
    (let s : State := sp; let n : Fin 16 := 15; let f : InsnFields := {d := 31, imm := 30}; let i : Insn := insnOf 0x51 f; let q : Nat := bitsOf f.imm.toNat 4 0; let k : Nat := i.lineAt ((s.lane n).sc f.b.toNat); decide (s.CanIssue n) && decide (opDqpop.fieldsOk i = true) && decide (s.dqUsable n q k = false) && decide (s.domOn (laneDom (q / 2)) = true)),
    (let s : State := sp; let n : Fin 16 := 15; let f : InsnFields := {a := 31, imm := 9}; let i : Insn := insnOf 0x58 f; decide (s.CanIssue n) && decide (opSpush.fieldsOk i = true) && decide (s.siloOpen i.silo = false)),
    (let s : State := ss; let n : Fin 16 := 15; let f : InsnFields := {a := 31, imm := 0x109}; let i : Insn := insnOf 0x58 f; let bs : List (BitVec 8) := ((s.lane n).vec f.a.toNat).flatMap (fun x => (siloSample i.fmt x).1); let y : State := s.setLane n ((s.lane n).stickAll (((s.lane n).vec f.a.toNat).map (fun x => (siloSample i.fmt x).2))); decide (s.CanGoOn n) && decide (opSpush.fieldsOk i = true) && decide (s.on .flowptp = true) && decide (s.siloOpen i.silo = true) && decide (s.get (R.SILO_S_CFG_PROD i.silo) = 3) && decide (s.get (R.SILO_S_CFG_LANE i.silo) = n)),
    (let s : State := sp; let n : Fin 16 := 15; let f : InsnFields := {a := 31, imm := 9}; let i : Insn := insnOf 0x59 f; decide (s.CanIssue n) && decide (opSpushs.fieldsOk i = true) && decide (s.siloOpen i.silo = false)),
    (let s : State := ss; let n : Fin 16 := 15; let f : InsnFields := {a := 31, imm := 0x109}; let i : Insn := insnOf 0x59 f; let bs : List (BitVec 8) := ([(s.lane n).sc f.a.toNat]).flatMap (fun x => (siloSample i.fmt x).1); let y : State := s.setLane n ((s.lane n).stickAll (([(s.lane n).sc f.a.toNat]).map (fun x => (siloSample i.fmt x).2))); decide (s.CanGoOn n) && decide (opSpushs.fieldsOk i = true) && decide (s.on .flowptp = true) && decide (s.siloOpen i.silo = true) && decide (s.get (R.SILO_S_CFG_PROD i.silo) = 3) && decide (s.get (R.SILO_S_CFG_LANE i.silo) = n)),
    (let s : State := ss.raise (R.SILO_S_CFG_PKT_MODE 9); let n : Fin 16 := 15; let f : InsnFields := {a := 3, imm := 9}; decide (s.CanGoOn n) && decide (f.z = 0) && decide (f.m = 0) && decide (f.d = 0) && decide (f.b = 0) && decide (f.imm.toNat < 64) && decide (s.on .flowptp = true) && decide (s.siloOpen f.imm.toNat = true) && decide (s.get (R.SILO_S_CFG_PROD f.imm.toNat) = 3) && decide (s.get (R.SILO_S_CFG_LANE f.imm.toNat) = n)),
    (let s : State := (ss.raise (R.SILO_S_CFG_PKT_MODE 9)).setSilo 9 {pkt := some {bytes := [1,2,3]}, head := 11}; let n : Fin 16 := 15; let f : InsnFields := {a := 3, m := 1, imm := 9}; decide (s.CanGoOn n) && decide (f.z = 0) && decide (f.m = 1) && decide (f.d = 0) && decide (f.b = 0) && decide (f.imm.toNat < 64) && decide (s.on .flowptp = true) && decide (s.siloOpen f.imm.toNat = true) && decide (s.get (R.SILO_S_CFG_PROD f.imm.toNat) = 3) && decide (s.get (R.SILO_S_CFG_LANE f.imm.toNat) = n)),
    (let s : State := sp; let n : Fin 16 := 15; let f : InsnFields := {imm := 8}; decide (s.CanIssue n) && decide (f.z = 0) && decide (f.m = 0) && decide (f.d = 0) && decide (f.a = 0) && decide (f.b = 0) && decide (f.imm.toNat < 4096) && decide (s.inCode n f.imm.toNat = true) && decide ((s.lane n).loops = [])),
    (let s : State := sp; let n : Fin 16 := 15; let f : InsnFields := {m := 1, imm := 8}; decide (s.CanGoOn n) && decide (f.z = 0) && decide (f.m = 1) && decide (f.d = 0) && decide (f.a = 0) && decide (f.b = 0) && decide (f.imm.toNat < 4096) && decide ((s.lane n).flag 0 = false)),
    (let s : State := sp; let n : Fin 16 := 15; let f : InsnFields := {d := 3, imm := 0x0FFFF00B}; let i : Insn := insnOf 0x71 f; decide (s.CanGoOn n) && decide (opLoop.fieldsOk i = true) && decide (f.m = 0) && decide (i.count ≠ 0) && decide ((s.lane n).pc < i.tgt) && decide (i.tgt < 8 + s.codeLen n (s.activeBank n))),
    (let s : State := sp.wr (R.LANE_RUNS_LO 15) 0xFFFFFFFF; let n : Fin 16 := 15; decide (s.CanIssue n)),
    (let s : State := sp; let n : Fin 16 := 15; decide (s.CanIssue n)),
    (let s : State := sp; let n : Fin 16 := 15; let f : InsnFields := {z := 1}; decide (s.CanIssue n) && decide (f.z ≠ 0)),
    (let s : State := sp; let n : Fin 16 := 15; let op : BitVec 8 := 0x32; let f : InsnFields := {}; decide (s.CanIssue n) && decide (opOf op.toNat = none))] : List Bool).all id = true := by decide +kernel

end Wh

namespace Wi

def so : State := (s0.raise (R.SILO_S_STATUS_OPEN 9)).put (R.SILO_S_CFG_PROD 9) 1
def sw : State := so.setSilo 9 { words := [{data := 0x11223344}, {data := 5, tag := 2}], head := 8 }
def dm (f : DmaCh → DmaCh) (s : State) : State := s.setDma 3 (f (s.dma 3))
def dd : DmaDesc := {addr := 0x1000, user := 0, len := 64, irq := false, pktStart := false, pktEnd := false, tag := 3}
def dr : State := dm (fun d => {d with descs := [dd]}) (((((sw.raise (R.DMA_CFG_EN 3)).put (R.DMA_CFG_SILO 3) 9).put (R.SILO_S_CFG_CONS 9) 1).raise R.SYS_PCIE_STATUS_BME))
def df : State := dm (fun d => {d with descs := [dd]}) ((((((so.raise (R.DMA_CFG_EN 3)).put (R.DMA_CFG_SILO 3) 9).put (R.SILO_S_CFG_PROD 9) 2).raise (R.DMA_CFG_DIR 3)).raise R.SYS_PCIE_STATUS_BME))

/-- The hypotheses of `SilosAct`, clause by clause. -/
theorem test_meets_SilosAct : ([
    (let s : State := s0; let n : Fin 64 := 63; let w : BitVec 32 := 0; decide (s.NoAbort) && decide (s.on .flowptp = true) && decide (bitsOf w.toNat 4 2 = 0) && decide (s.siloOpenResult n = 0)),
    (let s : State := so; let n : Fin 64 := 9; let w : BitVec 32 := 0; decide (s.NoAbort) && decide (s.on .flowptp = true) && decide (bitsOf w.toNat 4 2 = 0) && decide (s.siloOpenResult n ≠ 0)),
    (let s : State := sw; let n : Fin 64 := 9; let w : BitVec 32 := 0; decide (s.NoAbort) && decide (s.on .flowptp = true) && decide (bitsOf w.toNat 4 2 = 0) && decide (s.siloOpen n = true)),
    (let s : State := so.setSilo 9 {part := [1,2,3], head := 3}; let n : Fin 64 := 9; let w : BitVec 32 := 0; decide (s.NoAbort) && decide (s.on .flowptp = true) && decide (bitsOf w.toNat 1 0 = 0) && decide (bitsOf w.toNat 4 3 = 0) && decide (s.siloOpen n = true)),
    (let s : State := so.raise (R.SILO_S_CFG_PKT_MODE 9); let n : Fin 64 := 9; let w : BitVec 32 := 0; decide (s.NoAbort) && decide (s.on .flowptp = true) && decide (bitsOf w.toNat 2 0 = 0) && decide (bitOf w.toNat 4 = false) && decide (s.siloOpen n = true) && decide (s.get (R.SILO_S_CFG_PROD n) = 1)),
    (let s : State := (so.raise (R.SILO_S_CFG_PKT_MODE 9)).setSilo 9 {pkt := some {bytes := [1,2,3]}, head := 11}; let n : Fin 64 := 9; let w : BitVec 32 := 0; decide (s.NoAbort) && decide (s.on .flowptp = true) && decide (bitsOf w.toNat 3 0 = 0) && decide (s.siloOpen n = true) && decide (s.get (R.SILO_S_CFG_PROD n) = 1)),
    (let s : State := so.clr (R.SILO_S_CFG_PKT_MODE 9); let n : Fin 64 := 9; let w : BitVec 32 := 5; decide (s.NoAbort) && decide (s.on .flowptp = true) && decide (s.siloOpen n = true) && decide (s.get (R.SILO_S_CFG_PROD n) = 1) && decide (s.flag (R.SILO_S_CFG_PKT_MODE n) = false) && decide ((s.silo n).part = []) && decide (4 ≤ s.siloFree n) && decide (4 ≤ s.siloTailFree n)),
    (let s : State := so.clr (R.SILO_S_CFG_PKT_MODE 9); let n : Fin 64 := 9; let off : BitVec 12 := 0x104; let w : BitVec 32 := 5; decide (s.NoAbort) && decide (s.on .flowptp = true) && decide (s.siloOpen n = true) && decide (s.get (R.SILO_S_CFG_PROD n) = 1) && decide (off.toNat < 0xC00)),
    (let s : State := sw; let p : Fin 4 := 0; let n : Fin 64 := 9; let e : SiloWord := {data := 0x11223344}; let l : List SiloWord := [{data := 5, tag := 2}]; decide (s.portOpen p = true) && decide (s.on .flowptp = true) && decide (s.siloOpen n = true) && decide (s.host.ana = []) && decide (s.host.qspi ≠ .read) && decide (4 ≤ (s.silo n).head) && decide (s.get (R.SILO_S_CFG_CONS n) = 0) && decide ((s.silo n).words = e :: l) && decide (e.tag < 8)),
    (let s : State := so; let p : Fin 4 := 0; let n : Fin 64 := 9; decide (s.portOpen p = true) && decide (s.on .flowptp = true) && decide (s.siloOpen n = true) && decide (s.host.ana = []) && decide (s.host.qspi ≠ .read) && decide ((s.silo n).mid = 0) && decide ((s.silo n).tail = 0) && decide (s.get (R.SILO_S_CFG_CONS n) = 0) && decide ((s.silo n).words = [])),
    (let s : State := (((so.raise (R.SILO_S_CFG_MID_EN 9)).put (R.SILO_S_MID_SIZE_SIZE 9) 1).put R.MEM_STATUS_STATE 2).setSilo 9 {head := 200, mid := 52, tail := 32}; let n : Fin 64 := 9; let a : Nat := 32; let b : Nat := 52; let q : SiloQ := {head := 200, mid := 52, tail := 32}; decide (s.siloOpen n = true) && decide (s.flag (R.SILO_S_CFG_MID_EN n) = true) && decide (s.get R.MEM_STATUS_STATE = 2) && decide (q = s.silo n) && decide (a % 4 = 0) && decide (b % 4 = 0) && decide (b ≤ q.mid) && decide (b + q.head ≤ s.siloSide n) && decide (a ≤ q.tail) && decide (a + q.mid ≤ s.siloMid n + b))] : List Bool).all id = true := by decide +kernel

/-- The hypotheses of `PacketsBecomeVisible`, clause by clause. -/
theorem test_meets_PacketsBecomeVisible : ([
    (let s : State := (so.raise (R.SILO_S_CFG_PKT_MODE 9)).setSilo 9 {pkt := some {bytes := [1,2,3]}, head := 11}; let n : Fin 64 := 9; let p : SiloPkt := {bytes := [1,2,3]}; let user : BitVec 32 := 7; let t : State := (s.siloPktClose n user).2; decide ((s.silo n).pkt = some p)),
    (let s : State := (so.raise (R.SILO_S_CFG_PKT_MODE 9)).setSilo 9 {pkt := some {bytes := [1,2,3]}, head := 11}; let n : Fin 64 := 9; let bs : List (BitVec 8) := [4,5]; let need : Nat := 2; let t : State := (s.siloData n bs need).2; decide (s.flag (R.SILO_S_CFG_PKT_MODE n) = true))] : List Bool).all id = true := by decide +kernel

/-- The hypotheses of `DmaChannelsAct`, clause by clause. -/
theorem test_meets_DmaChannelsAct : ([
    (let s : State := dm (fun d => {d with done := List.replicate 16 3}) s0; let c : Fin 8 := 3; let w : BitVec 32 := 64; decide (s.NoAbort) && decide (s.on .host = true) && decide (16 ≤ (s.dma c).descs.length + (s.dma c).done.length)),
    (let s : State := s0; let c : Fin 8 := 3; let w : BitVec 32 := 0x7F000040; decide (s.NoAbort) && decide (s.on .host = true) && decide ((s.dma c).descs.length + (s.dma c).done.length < 16) && decide (w.toNat % 2 ^ 24 ≠ 0) && decide (w.toNat % 4 = 0) && decide (s.get64 (R.DMA_ADDR_LO c) (R.DMA_ADDR_HI c) % 4 = 0)),
    (let s : State := dm (fun d => {d with done := [4, 5]}) s0; let p : Fin 4 := 0; let c : Fin 8 := 3; let e : BitVec 32 := 4; let l : List (BitVec 32) := [5]; decide (s.portOpen p = true) && decide (s.on .host = true) && decide (s.host.ana = []) && decide (s.host.qspi ≠ .read) && decide ((s.dma c).done = e :: l)),
    (let s : State := dr; let c : Fin 8 := 3; let e : SiloWord := {data := 0x11223344}; let l : List SiloWord := [{data := 5, tag := 2}]; let x : DmaDesc := dd; let d : List DmaDesc := []; decide (s.dmaMoves c = true) && decide (s.flag (R.DMA_CFG_DIR c) = false) && decide ((s.dma c).descs = x :: d) && decide ((s.silo (s.get (R.DMA_CFG_SILO c))).words = e :: l) && decide ((s.dma c).passed + 4 < x.len) && decide (e.tag = 4) && decide (e.last = false) && decide (4 ≤ (s.silo (s.get (R.DMA_CFG_SILO c))).head) && decide (4 ≤ s.host.mps)),
    (let s : State := (dm (fun d => {d with passed := 4}) (dr.setSilo 9 {})).put (R.DMA_CFG_TIMEOUT 3) 5; let c : Fin 8 := 3; decide (s.dmaMoves c = true) && decide (s.flag (R.DMA_CFG_DIR c) = false) && decide (0 < (s.dma c).passed) && decide (s.get (R.DMA_CFG_TIMEOUT c) ≠ 0) && decide ((s.silo (s.get (R.DMA_CFG_SILO c))).words = [])),
    (let s : State := df.clr (R.SILO_S_CFG_PKT_MODE 9); let c : Fin 8 := 3; let x : DmaDesc := dd; let l : List DmaDesc := []; let bs : List (BitVec 8) := [1,2,3,4,5]; let y : State := s.setDma c { s.dma c with opened := true }; decide (s.dmaMoves c = true) && decide (s.flag (R.DMA_CFG_DIR c) = true) && decide ((s.dma c).descs = x :: l) && decide (x.pktStart = false) && decide ((s.dma c).truncated = false) && decide ((s.silo (s.get (R.DMA_CFG_SILO c))).pkt = none) && decide (bs ≠ []) && decide (bs.length + (s.dma c).passed < x.len) && decide (bs.length ≤ s.readMax) && decide (bs.length ≤ s.siloStreamRoom (s.get (R.DMA_CFG_SILO c))) && decide (s.flag (R.SILO_S_CFG_PKT_MODE (s.get (R.DMA_CFG_SILO c))) = false)),
    (let s : State := dr; let c : Fin 8 := 3; let x : State := s.dmaStopFill c; decide (s.on .host = true) && decide ((s.dma c).descs ≠ []) && decide ((s.dma c).stopped = false)),
    (let s : State := dr; let c : Fin 8 := 3; decide (s.on .host = true) && decide ((s.dma c).descs ≠ []) && decide ((s.dma c).stopped = false))] : List Bool).all id = true := by decide +kernel

end Wi

namespace Wj

def ps (st mon cfg : Nat) (n : Nat) : State := ((s0.put (R.PORT_U_STATUS_STATE n) st).put (R.PORT_U_STATUS_MON n) mon).wr (cfgAddr n) (BitVec.ofNat 32 cfg)
def tc : Nat := 0xC0000 + 2 * 1024 + 7 * 16 + 2 * 4
def un (n : Nat) (u : PortUnit) (s : State) : State := s.setUnit n u

/-- The hypotheses of `PortUnitsAct`, clause by clause. -/
theorem test_meets_PortUnitsAct : ([
    (let s : State := ps 1 1 0 25; let n : Fin 26 := 25; let w : BitVec 32 := 0; decide (s.NoAbort) && decide (s.on .ports = true) && decide (w.toNat.testBit 4 = false) && decide (s.unitState n ≠ 0)),
    (let s : State := ps 0 0 0 7; let n : Fin 26 := 7; let w : BitVec 32 := 0; decide (s.NoAbort) && decide (s.on .ports = true) && decide (w.toNat.testBit 4 = false) && decide (s.unitState n = 0) && decide (s.unitBad n = true)),
    (let s : State := ps 0 0 tc 7; let n : Fin 26 := 7; let w : BitVec 32 := 0x20; decide (s.NoAbort) && decide (s.on .ports = true) && decide (w.toNat.testBit 4 = false) && decide (w.toNat.testBit 3 = false) && decide (w.toNat.testBit 2 = false) && decide (s.unitState n = 0) && decide (s.unitBad n = false) && decide (s.usesAdpll1 n = false) && decide (s.clkMode n ≠ 1)),
    (let s : State := ps 3 2 tc 7; let n : Fin 26 := 7; let w : BitVec 32 := 0x20; decide (s.NoAbort) && decide (s.on .ports = true) && decide (w.toNat.testBit 4 = false) && decide (s.unitState n = 3)),
    (let s : State := ps 2 2 tc 7; let n : Fin 26 := 7; let w : BitVec 32 := 0; decide (s.NoAbort) && decide (s.on .ports = true) && decide (w.toNat.testBit 4 = false) && decide (s.unitState n = 2) && decide (w.toNat.testBit 2 = false) && decide (w.toNat.testBit 5 = false)),
    (let s : State := ps 0 0 tc 7; let n : Fin 26 := 7; let w : BitVec 32 := 0x28; let y : State := s.wr (R.PORT_U_CTRL n) ((R.PORT_U_CTRL_CMD n).inWord w 1 &&& 0x2C); decide (s.NoAbort) && decide (s.on .ports = true) && decide (w.toNat.testBit 4 = false) && decide (s.unitState n = 0) && decide (y.unitBad n = false) && decide ((y.usesAdpll1 n = true → y.adpll 1 = 2)) && decide ((y.clkMode n = 1 → (y.unitSrcs n).length ≤ y.srcFree.length))),
    (let s : State := ps 1 1 tc 7; let n : Fin 26 := 7; let w : BitVec 32 := 0; decide (s.NoAbort) && decide (s.on .ports = true) && decide (w.toNat.testBit 4 = false) && decide (s.unitState n = 1)),
    (let s : State := ps 2 2 tc 7; let n : Fin 26 := 7; let w : BitVec 32 := 0x24; decide (s.NoAbort) && decide (s.on .ports = true) && decide (w.toNat.testBit 4 = false) && decide (s.unitState n = 2)),
    (let s : State := (ps 2 2 tc 25).wr (R.PORT_U_CNT 25 6) 5; let n : Fin 26 := 25; let w : BitVec 32 := 0; decide (s.NoAbort) && decide (s.on .ports = true) && decide (w.toNat % 4 = 0)),
    (let s : State := un 7 {start := some 0} (ps 1 2 tc 7); let n : Fin 26 := 7; let i : Nat := 0; decide (s.unitState n = 1) && decide ((s.unit n).start = some i) && decide ((s.unit n).cancelled = false) && decide (i ≤ s.time.index)),
    (let s : State := un 7 {stop := some 0, blocks := [(0, {})]} {ps 3 2 tc 7 with time := {s0.time with index := 8}}; let n : Fin 26 := 7; let i : Nat := 0; decide (s.unitState n = 3) && decide ((s.unit n).stop = some i) && decide (i + s.unitDrain n ≤ s.time.index) && decide (s.clkMode n ≠ 1)),
    (let s : State := un 7 {lastRx := some 9} (ps 2 2 tc 7); let n : Fin 26 := 7; let u : Nat := 9; let slots : List PortSlot := [{w := 5}]; let f96 : Bool := false; decide (s.on .ports = true) && decide (isTdm n = true) && decide (s.rxEn n = true) && decide (s.unitState n = 2) && decide (s.mon n = 2) && decide (s.clkMode n = 0) && decide ((s.unit n).lastRx = some u) && decide ((s.unit n).glitches = [])),
    (let s : State := un 7 {lastRx := some 8} (ps 2 2 tc 7); let n : Fin 26 := 7; let u : Nat := 9; let slots : List PortSlot := [{w := 5}]; let f96 : Bool := false; decide (s.on .ports = true) && decide (isTdm n = true) && decide (s.rxEn n = true) && decide (s.unitState n = 2) && decide (s.mon n = 2) && decide (s.clkMode n = 0) && decide ((s.unit n).lastRx ≠ some u) && decide ((s.unit n).rx = []) && decide ((s.unit n).glitches = [])),
    (let s : State := ps 2 2 (tc + 8192) 7; let n : Fin 26 := 7; let u : Nat := 9; let slots : List PortSlot := [{w := 5}]; let f96 : Bool := false; decide (s.on .ports = true) && decide (s.rxEn n = true) && decide (s.unitState n ≠ 0) && decide (s.mon n = 2) && decide (s.clkMode n = 1)),
    (let s : State := ps 2 2 tc 7; let n : Fin 26 := 7; let u : Nat := 9; let slots : List PortSlot := [{w := 5}]; let glitch : Bool := true; let f96 : Bool := false; decide (s.on .ports = true) && decide (s.unitState n ≠ 0)),
    (let s : State := ps 0 0 tc 7; let n : Fin 26 := 7; let u : Nat := 9; let slots : List PortSlot := [{w := 5}]; let glitch : Bool := true; let f96 : Bool := false; decide (s.unitState n = 0) && decide (isTdm n = true)),
    (let s : State := ps 0 0 tc 7; let n : Fin 26 := 7; let u : Nat := 9; decide (s.unitState n = 0)),
    (let s : State := (ps 1 1 tc 7).raise R.TWIN_STATUS_OWN; let n : Fin 26 := 7; let u : Nat := 9; decide (s.on .ports = true) && decide (s.txEn n = true) && decide (isTdm n = true) && decide (s.unitState n = 1) && decide (s.owns = true)),
    (let s : State := (ps 2 2 tc 7).raise R.TWIN_STATUS_OWN; let n : Fin 26 := 7; let u : Nat := 200; let i : Nat := 8; decide (s.on .ports = true) && decide (s.txEn n = true) && decide (s.unitState n ≠ 0) && decide (s.mon n = 2 ∨ s.clkMode n = 1 ∨ s.unitState n = 1) && decide (i = (if s.clkMode n = 0 then u % 192 else (s.unit n).sent))),
    (let s : State := (ps 2 2 tc 7).wr (R.PORT_U_CNT 7 3) 0xFFFFFFFF; let n : Fin 26 := 7; decide (s.on .ports = true) && decide (s.clkMode n = 0) && decide (s.mon n = 2) && decide (2 ≤ s.unitState n) && decide (s.txEn n = true) && decide (s.txMaster n = false) && decide ((isTdm n && s.pcfg n 9 9 == 1) = false)),
    (let s : State := (ps 2 2 tc 7).wr (R.PORT_U_CNT 7 0) 0xFFFFFFFF; let n : Fin 26 := 7; decide (s.on .ports = true) && decide (s.clkMode n = 0) && decide (s.mon n = 2) && decide (s.unitState n = 2) && decide (s.rxEn n = true) && decide ((isTdm n && s.pcfg n 9 9 == 1) = false)),
    (let s : State := s0.raise (R.PORT_MADI_CS_CAP_VALID 1); let m : Fin 2 := 1; let w : BitVec 32 := 0xFFFFFFFF; decide (s.NoAbort) && decide (s.on .ports = true))] : List Bool).all id = true := by decide +kernel

/-- The hypotheses of `MonitorsAndCommonStart`, clause by clause. -/
theorem test_meets_MonitorsAndCommonStart : ([
    (let s : State := ps 2 1 tc 7; let n : Fin 26 := 7; let rate : Nat := 768000; decide (s.on .ports = true) && decide (s.mon n = 1) && decide (s.clockStands n = true) && decide (s.rateCfg n ≠ 7) && decide (nearCode rate = s.rateCfg n)),
    (let s : State := ps 2 1 (tc + 8192 + 5 * 1024) 7; let n : Fin 26 := 7; let rate : Nat := 768000; decide (s.on .ports = true) && decide (s.mon n = 1) && decide (s.clockStands n = true) && decide (s.rateCfg n = 7) && decide (s.clkMode n = 1) && decide (480000 ≤ rate) && decide (rate ≤ 3200000)),
    (let s : State := ps 2 2 tc 7; let n : Fin 26 := 7; let rate : Nat := 768000; decide (s.mon n ≠ 1)),
    (let s : State := ps 2 2 tc 7; let n : Fin 26 := 7; decide (s.on .ports = true) && decide (s.mon n = 2) && decide (s.get (R.PORT_U_CNT16_FAULT_CNT n) < 65535)),
    (let s : State := ps 2 2 tc 7; let n : Fin 26 := 7; let rate : Nat := 770000; decide (s.on .ports = true) && decide (s.mon n = 2) && decide (s.clkMode n ≠ 1) && decide (nearCode rate ≠ (if s.rateCfg n = 7 then (s.unit n).rate else s.rateCfg n))),
    (let s : State := ps 2 4 tc 7; let n : Fin 26 := 7; let rate : Nat := 770000; decide (s.on .ports = true) && decide (s.mon n = 3 ∨ s.mon n = 4)),
    (let s : State := ps 2 1 0 15; let n : Fin 26 := 15; let rate : Nat := 216000; let ch : Nat := 0; let f96 : Bool := false; decide (s.on .ports = true) && decide (isAesRx n = true) && decide (s.unitState n ≠ 0) && decide (28000 ≤ rate) && decide (rate ≤ 216000)),
    (let s : State := ps 2 1 0 25; let n : Fin 26 := 25; let rate : Nat := 48000; let ch : Nat := 64; let f96 : Bool := true; decide (s.on .ports = true) && decide (isMadi n = true) && decide (s.unitState n ≠ 0) && decide (ch < 128)),
    (let s : State := {s0 with ports := {s0.ports with trig := some none}}; let w : BitVec 32 := 0; decide (s.NoAbort) && decide (s.on .ports = true) && decide (w.toNat.testBit 3 = false) && decide (s.ports.trig.isSome = true)),
    (let s : State := s0; let w : BitVec 32 := 2; decide (s.NoAbort) && decide (s.on .ports = true) && decide (w.toNat.testBit 3 = false) && decide (s.ports.trig = none) && decide (bitsOf w.toNat 2 1 = 1)),
    (let s : State := {s0 with ports := {s0.ports with trig := some none}}; let w : BitVec 32 := 0; decide (s.NoAbort) && decide (s.on .ports = true) && decide (w.toNat.testBit 0 = false) && decide (s.ports.trig.isSome = true)),
    (let s : State := {s0 with ports := {s0.ports with trig := some (some 0)}}; let at_ : Nat := 0; decide (s.ports.trig = some (some at_)) && decide (at_ ≤ s.time.index) && decide (s.on .ports = true) && decide (s.atBoundary = true)),
    (let s : State := s0; decide (s.ports.trig = none))] : List Bool).all id = true := by decide +kernel

end Wj

namespace Wk

def as_ (st : Nat) (a : AinSt) : State := (s0.put (R.ANA_IN_STATUS_STATE 15) st).setAin 15 a
def os_ (st : Nat) (o : OutSt) (n : Nat := 17) : State := ((s0.put (R.ANA_O_STATUS_STATE n) st).setAout n o).raise R.TWIN_STATUS_OWN

/-- The hypotheses of `InputsAct`, clause by clause. -/
theorem test_meets_InputsAct : ([
    (let s : State := s0; let i : Fin 16 := 15; let w : BitVec 32 := 0xFFFFFFFF; decide (s.NoAbort) && decide (s.on (ainDom i) = true) && decide (s.ainState i = 0) && decide (w.toNat.testBit 0 = true)),
    (let s : State := as_ 2 {}; let i : Fin 16 := 15; let w : BitVec 32 := 0; decide (s.NoAbort) && decide (s.on (ainDom i) = true) && decide (s.ainState i = 2) && decide (w.toNat.testBit 0 = false) && decide ((s.ain i).fade = none)),
    (let s : State := as_ 1 {}; let i : Fin 16 := 15; decide (s.on (ainDom i) = true) && decide (s.ainState i = 1) && decide ((s.ain i).hold = false)),
    (let s : State := as_ 2 {}; let i : Fin 16 := 15; let h : Int := 5; let l : Int := -7; decide (s.on (ainDom i) = true) && decide (s.ainState i ≠ 0) && decide (s.force i = 0) && decide (s.flag (R.ANA_IN_STATUS_PATH i) = false) && decide (l.natAbs < 2 ^ 23 - 1)),
    (let s : State := (as_ 2 {}).put (R.ANA_IN_CFG_FORCE 15) 1; let i : Fin 16 := 15; let h : Int := 5; let l : Int := -7; decide (s.on (ainDom i) = true) && decide (s.ainState i ≠ 0) && decide (s.flag (R.ANA_IN_STATUS_PATH i) = false) && decide (s.force i ≠ 0 ∨ (s.matchedH i h).natAbs < tUp) && decide (l.natAbs < 2 ^ 23 - 1)),
    (let s : State := as_ 2 {}; let i : Fin 16 := 15; let h : Int := 5; let l : Int := -8388608; decide (s.on (ainDom i) = true) && decide (s.ainState i ≠ 0) && decide (2 ^ 23 - 1 ≤ l.natAbs)),
    (let s : State := (as_ 2 {c := s0.holdN 15 - 1, w := 8}).raise (R.ANA_IN_STATUS_PATH 15); let i : Fin 16 := 15; let h : Int := 5; let l : Int := -7; decide (s.on (ainDom i) = true) && decide (s.ainState i ≠ 0) && decide (s.force i = 0) && decide (s.flag (R.ANA_IN_STATUS_PATH i) = true) && decide ((s.ain i).c + 1 = s.holdN i) && decide (l.natAbs < tDn (s.get (R.ANA_IN_CFG_XO_DN i)))),
    (let s : State := as_ 1 {}; let i : Fin 16 := 15; let gain : BitVec 16 := 0x8000; decide (s.on (ainDom i) = true) && decide (s.ainState i ≠ 0)),
    (let s : State := s0.wr R.ANA_PHANTOM 0x8001; let w : BitVec 32 := 0xFFFF8001; decide (s.NoAbort) && decide (w &&& 0xFFFF = s.rd R.ANA_PHANTOM)),
    (let s : State := as_ 2 {}; let i : Fin 16 := 15; let w : BitVec 32 := 0xFFFF8001; decide (s.NoAbort) && decide (((w &&& 0xFFFF) ^^^ s.rd R.ANA_PHANTOM).toNat.testBit i = true) && decide (s.ainState i = 2) && decide ((s.ain i).fade = none) && decide (s.ana.phSend = [])),
    (let s : State := (({s0 with pins := {s0.pins with aReleased := true}}).raise R.ANA_PH_CFG_REFRESH).clr R.PWR_STALK_STATUS_SAFE; decide (s.flag R.ANA_PH_CFG_REFRESH = true) && decide (s.flag R.PWR_STALK_STATUS_SAFE = false) && decide (s.pins.aReleased = true)),
    (let s : State := s0.clr R.ANA_PH_CFG_REFRESH; decide (s.flag R.ANA_PH_CFG_REFRESH = false)),
    (let s : State := (as_ 2 {hold := true, fade := some (false, 64)}).wr (R.ANA_IN_CFG 15) 1; let i : Fin 16 := 15; decide ((s.ain i).hold = true) && decide (i.val ∉ s.ana.phSend) && decide (s.ainState i = 2) && decide (s.ainDiffers i = false) && decide ((s.ain i).rated = false)),
    (let s : State := as_ 1 {hold := true}; let i : Fin 16 := 15; decide ((s.ain i).hold = true) && decide (i.val ∉ s.ana.phSend)),
    (let s : State := (as_ 2 {ph := 4, agree := 3}); let i : Fin 16 := 15; let mv : Nat := 5000; decide (s.on (ainDom i) = true)),
    (let s : State := (as_ 2 {ph := 4, agree := 3}); let i : Fin 16 := 15; let mv : Nat := 5000; decide (s.on (ainDom i) = true) && decide (s.phClass i mv = (s.ain i).ph) && decide (3 ≤ (s.ain i).agree) && decide ((s.ain i).hold = false))] : List Bool).all id = true := by decide +kernel

/-- The hypotheses of `OutputsAct`, clause by clause. -/
theorem test_meets_OutputsAct : ([
    (let s : State := os_ 0 {}; let n : Fin 18 := 17; let w : BitVec 32 := 0; let x : State := (s.put (R.ANA_O_STATUS_SC n) 0).setAout n { s.aout n with want := some true, stopReq := false, offReq := false }; decide (s.NoAbort) && decide (s.on .aout = true) && decide (s.outState n = 0)),
    (let s : State := os_ 2 {}; let n : Fin 18 := 17; let w : BitVec 32 := 0; let x : State := (s.setAout n { s.aout n with fade := none, want := none, offReq := false }).setOutState n 3; decide (s.NoAbort) && decide (s.on .aout = true) && decide (s.outState n = 2)),
    (let s : State := os_ 4 {}; let n : Fin 18 := 17; let w : BitVec 32 := 0; let x : State := (s.setAout n { s.aout n with fade := fadeOutFrom (s.aout n).fade, grouped := false }).setOutState n 5; decide (s.NoAbort) && decide (s.on .aout = true) && decide (s.outState n = 4)),
    (let s : State := os_ 1 {}; let n : Fin 18 := 17; let w : BitVec 32 := 0; decide (s.NoAbort) && decide (s.on .aout = true) && decide (s.outState n = 1)),
    (let s : State := os_ 2 {}; let n : Fin 18 := 17; let w : BitVec 32 := 0; let x : State := s.setAout n { s.aout n with want := some false, offReq := true }; decide (s.NoAbort) && decide (s.on .aout = true) && decide (s.outState n = 2)),
    (let s : State := os_ 4 {}; let n : Fin 18 := 17; let w : BitVec 32 := 0; let x : State := (s.setAout n { s.aout n with fade := fadeOutFrom (s.aout n).fade, grouped := false, offReq := true, want := some false }).setOutState n 5; decide (s.NoAbort) && decide (s.on .aout = true) && decide (s.outState n = 4)),
    (let s : State := os_ 1 {}; let n : Fin 18 := 17; let x : State := (s.setAout n { s.aout n with fade := none, stopReq := false }).setOutState n 3; decide (s.on .aout = true) && decide (s.outState n = 1) && decide ((s.aout n).stopReq = false)),
    (let s : State := os_ 6 {}; let n : Fin 18 := 17; let x : State := (s.setAout n { s.aout n with offReq := false, fade := none }).setOutState n 0; decide (s.on .aout = true) && decide (s.outState n = 6)),
    (let s : State := os_ 3 {fade := some (true, 64)}; let n : Fin 18 := 17; let k : Nat := 64; let x : State := (s.setAout n { s.aout n with fade := none }).setOutState n 4; decide (s.on .aout = true) && decide ((s.aout n).fade = some (true, k)) && decide (64 ≤ k) && decide (s.outState n = 3)),
    (let s : State := os_ 5 {fade := some (false, 64)}; let n : Fin 18 := 17; let k : Nat := 64; let x : State := (s.setAout n { s.aout n with fade := none }).setOutState n 2; decide (s.on .aout = true) && decide ((s.aout n).fade = some (false, k)) && decide (64 ≤ k) && decide (s.outState n = 5) && decide ((s.aout n).offReq = false)),
    (let s : State := os_ 5 {}; let n : Fin 18 := 17; decide ((s.aout n).fade = none)),
    (let s : State := s0; let k : Fin 4 := 3; let w : BitVec 32 := 0xFFFFFFFF; let x : State := s.wr (R.ANA_MUTE k) ((w &&& 0xF) ||| (s.rd (R.ANA_MUTE k) &&& 0x10)); decide (s.NoAbort)),
    (let s : State := os_ 4 {}; let h : Fin 2 := 1; let x : State := ((s.setAout (16 + h) { s.aout (16 + h) with fade := none, want := none, stopReq := false, offReq := false, grouped := false }).setOutState (16 + h) 0).raise (R.ANA_O_STATUS_SC (16 + h)); decide (s.on .aout = true) && decide (s.outState (16 + h) ≠ 0)),
    (let s : State := os_ 4 {}; let h : Fin 2 := 1; let level : Bool := !(os_ 4 {}).hpPin 1; decide (s.on .aout = true) && decide (level ≠ s.hpPin h) && decide ((s.aout (16 + h)).unstable = false)),
    (let s : State := os_ 4 {unstable := true}; let h : Fin 2 := 1; decide (s.on .aout = true) && decide ((s.aout (16 + h)).unstable = true)),
    (let s : State := os_ 4 {}; let h : Fin 2 := 1; decide ((s.aout (16 + h)).unstable = false))] : List Bool).all id = true := by decide +kernel

end Wk

namespace Wl

def pc (st : Nat) (h : PsCh) : State := ((((s0.put (R.PSC_STATUS_STATE 3) st).setPsCh 3 h).put R.PS_PVDD_V 2400).raise R.PS_STATUS_PVDD_OK).raise R.TWIN_STATUS_OWN
def pg (st : Nat) (h : PsCh) : State := ((pc st h).wr R.PS_CTRL 15).wr (R.PSC_LC 3) 0 |>.clr R.PWR_STALK_STATUS_SAFE |>.put (R.PSC_LC_L_DIFF 3) 200 |>.put (R.PSC_LC_C_DIFF 3) 100

/-- The hypotheses of `PowerChannelsAct`, clause by clause. -/
theorem test_meets_PowerChannelsAct : ([
    (let s : State := pc 0 {}; let p : Fin 4 := 3; let w : BitVec 32 := 0; decide (s.NoAbort) && decide (s.on .pstage = true) && decide (s.psState p ≠ 3) && decide (s.psState p ≠ 4) && decide (s.psRefusal p ≠ 0)),
    (let s : State := pg 0 {}; let p : Fin 4 := 3; let w : BitVec 32 := 0; decide (s.NoAbort) && decide (s.on .pstage = true) && decide (s.psState p = 0) && decide (s.psRefusal p = 0) && decide (s.ps.relock = none) && decide (s.flag R.PWR_STALK_STATUS_SAFE = false)),
    (let s : State := pg 2 {}; let p : Fin 4 := 3; let w : BitVec 32 := 0; decide (s.NoAbort) && decide (s.on .pstage = true) && decide (s.psState p = 2) && decide (s.psRefusal p = 0) && decide (s.ps.relock = none) && decide (s.flag R.PWR_STALK_STATUS_SAFE = false)),
    (let s : State := pg 4 {}; let p : Fin 4 := 3; let w : BitVec 32 := 0; decide (s.NoAbort) && decide (s.on .pstage = true) && decide (s.psState p = 4) && decide ((s.psCh p).fade = none)),
    (let s : State := pg 4 {}; let p : Fin 4 := 3; let w : BitVec 32 := 0; decide (s.NoAbort) && decide (s.on .pstage = true) && decide (s.psState p = 4) && decide ((s.psCh p).fade = none)),
    (let s : State := pg 2 {}; let p : Fin 4 := 3; let w : BitVec 32 := 0; decide (s.NoAbort) && decide (s.on .pstage = true) && decide (s.psState p = 2)),
    (let s : State := pg 2 {}; let w : BitVec 32 := 0xFFFFFFFF; decide (s.NoAbort) && decide (s.on .pstage = true) && decide (w.toNat % 16 = 15)),
    (let s : State := pg 2 {}; let p : Fin 4 := 3; let w : BitVec 32 := 0xFFFFFFF7; decide (s.NoAbort) && decide (s.on .pstage = true) && decide (w.toNat % 16 = 15 - 2 ^ p.val) && decide (s.psState p = 2)),
    (let s : State := pg 9 {retries := [1,2,3,4,5,6,7,8]}; let p : Fin 4 := 3; let w : BitVec 32 := 0xFFFFFFFF; decide (s.NoAbort) && decide (s.on .pstage = true) && decide (w.toNat.testBit p = true) && decide (s.psState p = 9)),
    (let s : State := pg 1 {}; let p : Fin 4 := 3; let va : Nat := 9000; let vb : Nat := 15000; decide (s.on .pstage = true) && decide (s.psState p = 1) && decide ((s.psCh p).stopReq = false) && decide (30 * s.get R.PS_PVDD_V ≤ va * 8) && decide (30 * s.get R.PS_PVDD_V ≤ vb * 8) && decide (va * 8 ≤ 50 * s.get R.PS_PVDD_V) && decide (vb * 8 ≤ 50 * s.get R.PS_PVDD_V)),
    (let s : State := pg 1 {}; let p : Fin 4 := 3; let va : Nat := 8999; let vb : Nat := 15000; let x : State := s.psShutdown p (some 2); decide (s.on .pstage = true) && decide (s.psState p = 1) && decide (va * 8 < 30 * s.get R.PS_PVDD_V)),
    (let s : State := pg 6 {}; let p : Fin 4 := 3; let va : Nat := 0; let vb : Nat := 0; decide (s.on .pstage = true) && decide (s.psState p = 6)),
    (let s : State := pg 3 {fade := some (true, 64)}; let p : Fin 4 := 3; let k : Nat := 64; decide (s.on .pstage = true) && decide (s.psState p = 3) && decide ((s.psCh p).fade = some (true, k)) && decide (64 ≤ k)),
    (let s : State := pg 5 {fade := some (false, 64), offReq := true}; let p : Fin 4 := 3; let k : Nat := 64; decide (s.on .pstage = true) && decide (s.psState p = 5) && decide ((s.psCh p).fade = some (false, k)) && decide (64 ≤ k)),
    (let s : State := pg 4 {}; let p : Fin 4 := 3; let ma : Nat := 1999; decide (s.on .pstage = true) && decide (s.psState p = 4) && decide (ma < s.ilimMa p) && decide ((s.psCh p).limited = 0)),
    (let s : State := pg 4 {limited := 0x3FFF}; let p : Fin 4 := 3; let ma : Nat := 10000; decide (s.on .pstage = true) && decide (s.psState p = 4) && decide (s.ilimMa p ≤ ma) && decide (ones64 ((2 * (s.psCh p).limited + 1) % 2 ^ 64) < 16)),
    (let s : State := pg 4 {limited := 32767}; let p : Fin 4 := 3; let ma : Nat := 10000; decide (s.on .pstage = true) && decide (s.psState p = 4) && decide (s.ilimMa p ≤ ma) && decide ((s.psCh p).limited = 2 ^ 15 - 1)),
    (let s : State := pg 8 {fault := .classify, meas := some (0x41400000, 0x41400000)}; let p : Fin 4 := 3; let va : F32 := 0x41400000; let vb : F32 := 0x41400000; decide (s.on .pstage = true) && decide (s.psState p = 8) && decide ((s.psCh p).fault = .classify) && decide ((s.psCh p).unmeasured = false) && decide ((s.psCh p).meas = some (va, vb))),
    (let s : State := pg 8 {fault := .classify, unmeasured := true}; let p : Fin 4 := 3; decide (s.on .pstage = true) && decide (s.psState p = 8) && decide ((s.psCh p).fault = .classify) && decide ((s.psCh p).unmeasured = true)),
    (let s : State := pg 8 {fault := .rest, retries := [1,2,3,4,5,6,7,8]}; let p : Fin 4 := 3; decide (s.on .pstage = true) && decide (s.psState p = 8) && decide ((s.psCh p).fault = .rest) && decide ((s.psCh p).retries.length = 8) && decide (s.ps.relock = none)),
    (let s : State := pg 8 {fault := .rest, retries := [1,2,3,4,5,6,7]}; let p : Fin 4 := 3; decide (s.on .pstage = true) && decide (s.psState p = 8) && decide ((s.psCh p).fault = .rest) && decide ((s.psCh p).retries.length < 8) && decide (s.ps.relock = none)),
    (let s : State := pg 3 {}; let p : Fin 4 := 3; let x : State := (s.psEvent p 13).psShutdown p (some 6); decide (s.on .pstage = true) && decide (switching (s.psState p) = true))] : List Bool).all id = true := by decide +kernel

/-- The hypotheses of `PowerStageWatches`, clause by clause. -/
theorem test_meets_PowerStageWatches : ([
    (let s : State := pg 0 {}; let j : Fin 8 := 7; let w : BitVec 32 := 0xFFFFFFFF; let x : State := (s.wr (R.PS_AM j) (w &&& 0xFFF)).kEval; decide (s.NoAbort) && decide (s.on .pstage = true)),
    (let s : State := (pg 0 {}).put R.PS_STATUS_K_NOW 16; let w : BitVec 32 := R.PS_CFG_K.inWord 0 16; decide (s.NoAbort) && decide (s.on .pstage = true) && decide (s.ams = []) && decide (s.ps.relock = none) && decide (s.get R.PS_STATUS_K_NOW = max 15 (min 20 (R.PS_CFG_K.ofWord w)))),
    (let s : State := pg 0 {}; let w : BitVec 32 := 0xFFFFFFFF; let x : State := (s.wr R.PS_CFG (w &&& 0x3FFFF)).kEval; decide (s.NoAbort) && decide (s.on .pstage = true)),
    (let s : State := {pg 0 {} with ps := {(pg 0 {}).ps with relock := some 20}}; let k : Nat := 20; decide (s.on .pstage = true) && decide (s.ps.relock = some k) && decide ((∀ p : Fin 4, (s.psCh p).waits = false))),
    (let s : State := ((pg 0 {}).raise R.PS_STATUS_K_PENDING).put R.PS_STATUS_K_NEXT 20; decide (s.on .pstage = true) && decide (s.flag R.PS_STATUS_K_PENDING = true) && decide ((∀ p : Fin 4, kHeld (s.psState p) = false))),
    (let s : State := pg 4 {}; let v : BitVec 12 := 3751; let p : Fin 4 := 3; decide (s.on .pstage = true) && decide (v.toNat < 1080 ∨ 3750 < v.toNat) && decide (s.psState p = 4)),
    (let s : State := pg 0 {}; let v : BitVec 12 := 3700; decide (s.on .pstage = true)),
    (let s : State := (pg 4 {}).raise (R.PSC_CFG_PILOT_EN 3); let p : Fin 4 := 3; decide (s.on .pstage = true) && decide (s.psState p = 4) && decide (s.flag (R.PSC_CFG_PILOT_EN p) = true) && decide ((s.psCh p).pilot = 0) && decide ((s.psCh p).level = 0)),
    (let s : State := pg 4 {pilot := 3}; let p : Fin 4 := 3; let x : State := s.setPsCh p { s.psCh p with pilot := (s.psCh p).pilot + 1 }; decide (s.on .pstage = true) && decide ((s.psCh p).pilot = 1 ∨ (s.psCh p).pilot = 3)),
    (let s : State := pg 4 {pilot := 5, spoiled := true, vals := [1,2,3,4]}; let p : Fin 4 := 3; decide (s.on .pstage = true) && decide ((s.psCh p).pilot = 5) && decide ((s.psCh p).spoiled = true)),
    (let s : State := pg 4 {pilot := 5, vals := [0x40800000, 0x3F000000, 0xC0800000, 0xBF000000]}; let p : Fin 4 := 3; let vp : F32 := 0x40800000; let ip : F32 := 0x3F000000; let vm : F32 := 0xC0800000; let im : F32 := 0xBF000000; decide (s.on .pstage = true) && decide ((s.psCh p).pilot = 5) && decide ((s.psCh p).spoiled = false) && decide ((s.psCh p).vals = [vp, ip, vm, im]) && decide ((fop (fsub ip im).v).m ≠ 0) && decide (s.flag (R.PSC_CFG_TLIM_EN p) = false)),
    (let s : State := pg 4 {}; let ta : Int := 123000; let td : Option Int := none; let p : Fin 4 := 3; decide (s.pins.inReset = false) && decide (s.on .pstage = true) && decide (123000 ≤ ta) && decide (s.flag R.PS_STATUS_DIE_HOT = false) && decide (s.psState p = 4) && decide ((s.psCh p).fade = none)),
    (let s : State := s0.wr R.PWR_DOMAIN_STATE 2; let ta : Int := -5; decide (s.pins.inReset = false) && decide (s.on .pstage = false) && decide (s.on .meas = false))] : List Bool).all id = true := by decide +kernel

end Wl

namespace Wm

def mv (m : McvSt) : State := (s0.put R.MCV_REF_STATUS_FB_SETTLED 15).setMcv 3 m
def hs (cfg : BitVec 32) (codes : List Int) : McvSet := {kind := .host, cfg := cfg, codes := codes}
def bufr (s : State) : State := (s.raise R.MCV_REF_STATUS_BUF_READY).raise R.MCV_REF_CTRL_BUF_EN

/-- The hypotheses of `ConvertersAct`, clause by clause. -/
theorem test_meets_ConvertersAct : ([
    (let s : State := mv {set := some (hs 0 [])}; let c : Fin 4 := 3; let w : BitVec 32 := 0; decide (s.NoAbort) && decide (s.on .meas = true) && decide (w.toNat.testBit 2 = false) && decide ((s.mcv c).set.isSome = true) && decide (s.get (R.MCVC_CNT_MISS_CNT c) < 65535)),
    (let s : State := mv {}; let c : Fin 4 := 3; let w : BitVec 32 := 0; decide (s.NoAbort) && decide (s.on .meas = true) && decide (w.toNat.testBit 2 = false) && decide (s.mcv c = {}) && decide (s.fbSettled c = true)),
    (let s : State := mv {serving := 6, phase := .settle, scan := some 3, cut := [4]}; let c : Fin 4 := 3; let w : BitVec 32 := 0; decide (s.NoAbort) && decide (s.on .meas = true) && decide (w.toNat.testBit 2 = false) && decide ((s.mcv c).set = none) && decide ((s.mcv c).reserved = none)),
    (let s : State := mv {}; let c : Fin 4 := 3; let w : BitVec 32 := 0xFFFFFFFA; decide (s.NoAbort) && decide (s.on .meas = true) && decide (w.toNat.testBit 2 = false) && decide (w.toNat.testBit 0 = false)),
    (let s : State := mv {}; let c : Fin 4 := 3; let w : BitVec 32 := 0; decide (s.NoAbort) && decide (s.on .meas = true) && decide (w.toNat.testBit 0 = false) && decide (s.flag R.MCV_REF_STATUS_BUF_READY = false)),
    (let s : State := bufr (mv {set := some (hs 0 [])}); let c : Fin 4 := 3; let w : BitVec 32 := 0; decide (s.NoAbort) && decide (s.on .meas = true) && decide (w.toNat.testBit 0 = false) && decide (s.flag R.MCV_REF_STATUS_BUF_READY = true) && decide (s.flag R.MCV_REF_STATUS_BUF_FAULT = false) && decide ((s.mcv c).set.isSome = true)),
    (let s : State := bufr (mv {}); let c : Fin 4 := 3; let w : BitVec 32 := 0; decide (s.NoAbort) && decide (s.on .meas = true) && decide (w.toNat.testBit 0 = false) && decide (s.flag R.MCV_REF_STATUS_BUF_READY = true) && decide (s.flag R.MCV_REF_STATUS_BUF_FAULT = false) && decide ((s.mcv c).set = none) && decide ((s.mcv c).reserved = none) && decide ((s.mcv c).serving ≠ 6)),
    (let s : State := ((mv {}).raise (R.MCVC_CTRL_RUN 3)).put (R.MCVC_CFG_TRIG 3) 1; let c : Fin 4 := 3; decide (s.on .meas = true) && decide (s.flag (R.MCVC_CTRL_RUN c) = true) && decide (s.trigOf c = 1)),
    (let s : State := mv {}; let c : Fin 4 := 3; decide (s.flag (R.MCVC_CTRL_RUN c) = false)),
    (let s : State := (((mv {}).raise (R.MCVC_CTRL_RUN 3)).put (R.MCVC_CFG_TRIG 3) 2).put (R.PSC_STATUS_STATE 0) 4; let c : Fin 4 := 3; decide (s.on .meas = true) && decide (s.flag (R.MCVC_CTRL_RUN c) = true) && decide (s.trigOf c = 2) && decide (s.get (R.PSC_STATUS_STATE (s.get (R.MCVC_CFG_PSEL c))) = 4)),
    (let s : State := ((mv {}).raise (R.MCVC_CTRL_RUN 3)).put (R.MCVC_CFG_TRIG 3) 2; let c : Fin 4 := 3; decide (s.on .meas = true) && decide (s.flag (R.MCVC_CTRL_RUN c) = true) && decide (s.trigOf c = 2) && decide (s.get (R.PSC_STATUS_STATE (s.get (R.MCVC_CFG_PSEL c))) = 0)),
    (let s : State := s0; let m : Fin 2 := 1; let level : Bool := true; decide (s.on .meas = true) && decide (level ≠ (s.mtrig m).level) && decide ((s.mtrig m).unstable = false)),
    (let s : State := (s0.setMtrig 1 {level := true, unstable := true}).raise (R.MCVC_CTRL_RUN 3) |>.put (R.MCVC_CFG_TRIG 3) 3; let m : Fin 2 := 1; decide (s.on .meas = true) && decide ((s.mtrig m).unstable = true)),
    (let s : State := s0.setMtrig 1 {level := true, unstable := true}; let m : Fin 2 := 1; decide (s.on .meas = true) && decide (s.mtrig m = { level := true, accepted := false, unstable := true }) && decide (s.flag (R.MCVC_CTRL_RUN (2 + m)) = false)),
    (let s : State := mv {serving := 4, phase := .delay, set := some {hs 0 [] with delay := true}}; let c : Fin 4 := 3; let x : McvSet := {hs 0 [] with delay := true}; decide ((s.mcv c).set = some x) && decide (x.delay = true) && decide ((s.mcv c).phase = .delay)),
    (let s : State := bufr (mv {serving := 1, phase := .settle, urgent := [2]}); let c : Fin 4 := 3; decide ((s.mcv c).phase = .settle) && decide (s.flag R.MCV_REF_STATUS_BUF_READY = true) && decide (s.flag R.MCV_REF_STATUS_BUF_FAULT = false) && decide ((s.mcv c).serving = 1)),
    (let s : State := mv {serving := 4, phase := .settle, set := some (hs 30 [])}; let c : Fin 4 := 3; decide ((s.mcv c).phase = .settle) && decide ((s.mcv c).serving ≠ 5)),
    (let s : State := mv {serving := 1, phase := .integrate, urgent := [2]}; let c : Fin 4 := 3; decide ((s.mcv c).phase = .integrate)),
    (let s : State := mv {serving := 4, phase := .rundown, set := some (hs ((R.MCVC_CFG_AVG 0).inWord 0 1) [])}; let c : Fin 4 := 3; let code : Int := 0x500000; let x : McvSet := hs ((R.MCVC_CFG_AVG 0).inWord 0 1) []; decide ((s.mcv c).phase = .rundown) && decide ((s.mcv c).serving = 4) && decide ((s.mcv c).set = some x) && decide (x.kind = .host) && decide ((s.mcv c).channel < 24) && decide (-0x500000 ≤ code) && decide (code ≤ 0x500000) && decide (x.codes.length + 1 < 2 ^ avgOf x.cfg)),
    (let s : State := mv {serving := 4, phase := .rundown, set := some (hs 3 [])}; let c : Fin 4 := 3; let code : Int := -0x500000; let x : McvSet := hs 3 []; let y : McvSet := { x with codes := x.codes ++ [code] }; decide ((s.mcv c).phase = .rundown) && decide ((s.mcv c).serving = 4) && decide ((s.mcv c).set = some x) && decide (x.kind = .host) && decide (-0x500000 ≤ code) && decide (code ≤ 0x500000) && decide (2 ^ avgOf x.cfg ≤ x.codes.length + 1) && decide ((s.mcv c).calReq = false) && decide (s.meas.plaus = [])),
    (let s : State := ((mv {}).raise R.MCV_OW_CFG_SCAN_EN).put R.MCV_OW_CFG_SCAN_MCV 3 |>.put R.MCV_OW_STATUS_ON 0x8010; let i : Nat := 4; let l : List Nat := [15]; let c : Nat := s.get R.MCV_OW_CFG_SCAN_MCV; decide (s.on .meas = true) && decide (s.flag R.MCV_OW_CFG_SCAN_EN = true) && decide (s.mcv c = {}) && decide (s.fbSettled c = true) && decide (sel 16 (fun i => (s.get R.MCV_OW_STATUS_ON).testBit i && decide (15 < i)) ++ sel 16 (s.get R.MCV_OW_STATUS_ON).testBit = i :: l)),
    (let s : State := (mv {}).clr R.MCV_OW_CFG_SCAN_EN; decide (s.flag R.MCV_OW_CFG_SCAN_EN = false)),
    (let s : State := (((mv {}).raise (R.MCV_PLAUS_CFG_EN 1)).put (R.MCV_PLAUS_CFG_A 1) 3).put (R.MCV_PLAUS_CFG_B 1) 0; let k : Fin 2 := 1; let x : State := s.setPlaus k { fails := (s.plausSt k).fails, on := some (s.get (R.MCV_PLAUS_CFG_A k), s.get (R.MCV_PLAUS_CFG_B k)) }; decide (s.on .meas = true) && decide (s.flag (R.MCV_PLAUS_CFG_EN k) = true) && decide (s.get (R.MCV_PLAUS_CFG_A k) ≠ s.get (R.MCV_PLAUS_CFG_B k)) && decide ((s.plausSt k).on = none)),
    (let s : State := mv {}; let k : Fin 2 := 1; decide (s.flag (R.MCV_PLAUS_CFG_EN k) = false)),
    (let s : State := (mv {}).setPlaus 1 {on := some (3, 0)}; let k : Fin 2 := 1; let a : Nat := 3; let b : Nat := 0; decide ((s.plausSt k).on = some (a, b)) && decide ((s.mcv a).reserved ≠ some k.val)),
    (let s : State := mv {}; let k : Fin 2 := 1; decide ((s.plausSt k).on = none)),
    (let s : State := bufr (mv {}); let w : BitVec 32 := 0xFFFFFFFE; decide (s.NoAbort) && decide (s.on .meas = true) && decide (w.toNat.testBit 0 = false)),
    (let s : State := mv {}; let w : BitVec 32 := 1; decide (s.NoAbort) && decide (s.on .meas = true) && decide (w.toNat.testBit 0 = true)),
    (let s : State := (mv {}).raise R.MCV_REF_CTRL_BUF_EN; decide (s.on .meas = true) && decide (s.flag R.MCV_REF_CTRL_BUF_EN = true)),
    (let s : State := s0.setMcv 3 {serving := 1}; let c : Fin 4 := 3; decide (s.on .meas = true) && decide ((s.mcv c).serving ≠ 0)),
    (let s : State := s0.setMcv 3 {serving := 0}; let c : Fin 4 := 3; decide (s.on .meas = true)),
    (let s : State := {s0 with meas := {s0.meas with owOn := [15], owRamp := [15, 2]}}; let i : Fin 16 := 15; decide (i.val ∈ s.meas.owRamp) && decide (i.val ∈ s.meas.owOn)),
    (let s : State := s0; let i : Fin 16 := 15; decide (i.val ∉ s.meas.owRamp))] : List Bool).all id = true := by decide +kernel

end Wm

namespace Wn

def tw (st : Nat) (x : TwinSt) : State := { ((s0.put R.TWIN_STATUS_STATE st).raise R.TWIN_STATUS_TLINK_UP) with twin := x }
def rg : State := (((s0.put (R.REGION_BASE_BASE 5) 0x20000).raise (R.REGION_BASE_EN 5)).put (R.REGION_WORDS_WORDS 5) 300)
def aliveCh : List (Nat × TwinChan) := [(0, {heard := true, state := 2, last := some 65535}), (1, {heard := true, state := 3}), (2, {heard := true, state := 2})]
def up3 (s : State) : State := ((s.raise R.TWIN_CFG_HB_A_EN).raise R.TWIN_CFG_HB_B_EN).raise (R.NET_STATUS_LINK 0) |>.raise (R.NET_STATUS_LINK 1)
def hbx (st fl : Nat) : TwinHb := { magic := 0x4D585457, pairId := 0, seq := 5, state := st, flags := fl, health := 0xFFFF, push := 0, index := 0, uid := 7 }
def yl : TwinSt := { chans := aliveCh, failed := false, peerState := 3, peerFlags := 8 }
def pg1 : List (BitVec 32) := mkPage 1 5 1 0x203F0 7 9 (List.replicate 48 0xABCD)

/-- The hypotheses of `TwinRolesAct`, clause by clause. -/
theorem test_meets_TwinRolesAct : ([
    (let s : State := (rg.put (R.REGION_WORDS_WORDS 5) 0); let w : BitVec 32 := 0; decide (s.NoAbort) && decide (s.twinState = 0) && decide (s.regionsResult ≠ 0)),
    (let s : State := rg; let w : BitVec 32 := 0; decide (s.NoAbort) && decide (s.twinState = 0) && decide (s.regionsResult = 0) && decide (s.ownIn = false)),
    (let s : State := rg.raise R.TWIN_STATUS_OWN_IN; let w : BitVec 32 := 0; decide (s.NoAbort) && decide (s.twinState = 0) && decide (s.regionsResult = 0) && decide (s.ownIn = true)),
    (let s : State := rg.raise R.TWIN_STATUS_OWN_IN; let w : BitVec 32 := 0xFFFFFFFF; decide (s.NoAbort) && decide (s.ownIn = true)),
    (let s : State := rg; let w : BitVec 32 := 0xFFFFFFFF; decide (s.NoAbort) && decide (s.ownIn = false) && decide (s.twinState = 0)),
    (let s : State := tw 2 {}; let w : BitVec 32 := 0xFFFFFFFF; decide (s.NoAbort) && decide (s.ownIn = false) && decide (s.twinState ≠ 0)),
    (let s : State := rg; decide (s.twinState = 0)),
    (let s : State := (tw 2 {}).clr R.TWIN_STATUS_TLINK_UP; decide (s.pins.inReset = false) && decide (s.twinState = 2)),
    (let s : State := tw 2 yl; decide (s.pins.inReset = false) && decide (s.twinState = 2)),
    (let s : State := tw 2 yl; let c : Fin 3 := 0; let hb : TwinHb := {hbx 2 0 with seq := 65535}; let ofs : Int := 0; decide (s.hbAccepts c hb = false)),
    (let s : State := tw 2 yl; let c : Fin 3 := 0; let hb : TwinHb := hbx 3 0; let ofs : Int := -70; decide (s.twinState = 2) && decide (s.hbAccepts c hb = true) && decide (hb.flags.testBit 0 = s.ownIn) && decide (s.get (R.TWIN_HB_CNT_RX c) < 2 ^ 16 - 1)),
    (let s : State := tw 1 yl; let c : Fin 3 := 0; let hb : TwinHb := hbx 7 0; let ofs : Int := 0; decide (s.twinState = 1) && decide (s.hbAccepts c hb = true) && decide ([2, 4, 5, 7].contains hb.state = true)),
    (let s : State := ((tw 2 yl).clr R.TWIN_CFG_HB_A_EN).clr R.TWIN_CFG_HB_B_EN; let x : State := (s.setChan 0 { s.chan 0 with sent := ((s.chan 0).sent + 1) % 2 ^ 16 }).emit (twinLanes (twinBytes 1 ((s.hbFields (s.chan 0).sent).flatMap (fun e => (beBytes e.1 e.2).reverse)))); decide (s.twinState ≠ 0) && decide (s.twin.silence = false) && decide (s.flag R.TWIN_CFG_HB_A_EN = false) && decide (s.flag R.TWIN_CFG_HB_B_EN = false) && decide (s.tlink = true)),
    (let s : State := tw 0 yl; decide (s.twinState = 0)),
    (let s : State := up3 (tw 2 yl); let c : Fin 3 := 2; decide (s.twinState = 2) && decide (s.chanEnabled c = true) && decide (s.get (R.TWIN_HB_CNT_MISS c) < 2 ^ 16 - 1)),
    (let s : State := tw 3 yl; let c : Fin 3 := 0; let x : State := ((s.setChan c { s.chan c with heard := false, mismatch := 0 }).countSat (R.TWIN_HB_CNT_MISS c)).twinCheck; decide (s.twinState = 3) && decide (s.chanEnabled c = true)),
    (let s : State := tw 0 yl; decide (s.twinState = 0)),
    (let s : State := tw 1 yl; decide (s.twinState = 1)),
    (let s : State := (tw 2 {guard := true, ownOut := true}).clr R.TWIN_STATUS_OWN; decide (s.twinState = 2) && decide (s.twin.guard = true) && decide (s.preferred = false) && decide (s.owns = false)),
    (let s : State := ((tw 2 {ownOut := true}).raise R.TWIN_STATUS_OWN).raise R.SYS_STRAPS_TWIN_PREF; decide (s.twinState = 2) && decide (s.twin.guard = false) && decide (s.owns = true) && decide (s.preferred = true)),
    (let s : State := (tw 2 {ownOut := true}).raise R.TWIN_STATUS_OWN; decide (s.twinState = 2) && decide (s.twin.guard = false) && decide (s.owns = true) && decide (s.preferred = false)),
    (let s : State := (((tw 2 {want := true}).raise R.TWIN_STATUS_OWN_IN).raise R.TWIN_STATUS_OWN_BLOCKED).clr R.TWIN_STATUS_OWN; decide (s.twin.want = true) && decide (s.twin.guard = false) && decide (s.owns = false)),
    (let s : State := (tw 2 {}).raise R.TWIN_STATUS_OWN_IN; decide (s.twin.want = false)),
    (let s : State := tw 2 {guard := true, ownOut := true}; let x : State := { s with twin := { s.twin with guard := false } }; decide (s.twin.guard = true) && decide (s.ownIn = false) && decide (s.twin.take = none)),
    (let s : State := tw 2 {}; decide (s.twin.guard = false) && decide (s.twin.take = none)),
    (let s : State := (tw 1 {}).clr R.TWIN_STATUS_OWN; decide (s.twinState = 1) && decide ((∀ c : Fin 3, (s.chan c).heard = false)) && decide (s.ownIn = false) && decide (s.twin.guard = false) && decide (s.owns = false)),
    (let s : State := tw 1 {warm := true}; decide (s.twinState = 1) && decide ((∀ c : Fin 3, (s.chan c).heard = false))),
    (let s : State := (up3 (tw 4 yl)).raise R.TWIN_STATUS_OWN_IN; let c : Fin 3 := 2; decide (s.twinState = 4) && decide (s.ownIn = true) && decide (s.chanAlive c = true) && decide ((s.chan c).state = 2)),
    (let s : State := tw 1 {}; decide (s.twin.silence = false)),
    (let s : State := tw 2 {silence := true}; let x : State := { s with twin := { s.twin with silence := false, warm := true } }; decide (s.twin.silence = true)),
    (let s : State := up3 (tw 1 {warm := true, chans := aliveCh}); let c : Fin 3 := 1; decide (s.twinState = 1) && decide (s.twin.warm = true) && decide (s.chanAlive c = true) && decide ((s.chan c).state = 3))] : List Bool).all id = true := by decide +kernel

/-- The hypotheses of `TwinHandoversAct`, clause by clause. -/
theorem test_meets_TwinHandoversAct : ([
    (let s : State := tw 2 {}; let w : BitVec 32 := 0xFFFFFFFF; decide (s.NoAbort) && decide (s.twinState = 2) && decide (s.mayYield = false)),
    (let s : State := up3 (tw 2 yl); let w : BitVec 32 := 0; decide (s.NoAbort) && decide (s.twinState = 2) && decide (s.mayYield = true) && decide ((∀ c : Fin 3, s.chanAlive c = true)) && decide (w.toNat.testBit 4 = false)),
    (let s : State := up3 (tw 7 yl); let w : BitVec 32 := 0; decide (s.NoAbort) && decide (s.twinState = 7) && decide (w.toNat.testBit 2 = false)),
    (let s : State := up3 (tw 6 yl); let w : BitVec 32 := 0; let x : State := (((s.wr R.TWIN_CTRL (R.TWIN_CTRL_CANCEL.inWord (R.TWIN_CTRL_MODE.inWord w 1) 1 &&& 0xB)).handoverSend 3 0).twinEvent 7); decide (s.NoAbort) && decide (s.twinState = 6) && decide (w.toNat.testBit 2 = false)),
    (let s : State := up3 (tw 5 yl); decide (s.mayYield = true)),
    (let s : State := tw 3 yl; decide (s.mayYield = false) && decide (s.twinState ≠ 0)),
    (let s : State := tw 0 yl; decide (s.twinState = 0)),
    (let s : State := tw 7 yl; let h : Nat := 800; decide (s.twinState = 7)),
    (let s : State := tw 2 yl; let h : Nat := 800; decide (s.twinState ≠ 7)),
    (let s : State := tw 7 yl; decide (s.twinState = 7)),
    (let s : State := tw 6 yl; decide (s.twinState = 6)),
    (let s : State := tw 2 yl; decide (s.twinState ≠ 6) && decide (s.twinState ≠ 7)),
    (let s : State := (tw 3 yl).raise R.TWIN_STATUS_IMG_VALID; let x : State := s.enterPrepare (s.twin.peerState == 5); decide (s.twinState = 3) && decide (s.tlink = true) && decide (s.flag R.TWIN_STATUS_IMG_VALID = true) && decide (s.inhibited = false)),
    (let s : State := tw 3 yl; decide (s.twinState = 3) && decide (s.flag R.TWIN_STATUS_IMG_VALID = false)),
    (let s : State := (tw 5 yl).put R.TWIN_HEALTH_MASK_MASK 0; decide (s.twinState = 5) && decide (s.healthy = true)),
    (let s : State := (tw 5 {yl with byHealth := true}).put R.TWIN_HEALTH_MASK_MASK 0xFFF; decide (s.twinState = 5) && decide (s.healthy = false) && decide (s.twin.byHealth = true)),
    (let s : State := tw 6 yl; decide (s.twinState = 6) && decide (s.twin.take = none)),
    (let s : State := tw 7 yl; decide (s.twinState = 7) && decide (s.twin.yieldAt = none)),
    (let s : State := tw 7 {yl with yieldAt := some 0}; let h : Nat := 0; let x : State := ((s.twinEvent 6).countSat R.TWIN_CNT_HANDOVERS).standbyState; decide (s.twinState = 7) && decide (s.twin.yieldAt = some h) && decide (h ≤ s.time.index)),
    (let s : State := ((tw 5 {yl with peerState := 2}).put R.TWIN_HEALTH_MASK_MASK 0xFFF).raise R.TWIN_STATUS_PEER_HEALTHY; decide (s.twinState = 5) && decide (s.healthy = false) && decide (s.twin.byHealth = false) && decide (s.twin.failed = false) && decide (s.flag R.TWIN_STATUS_PEER_HEALTHY = true) && decide (s.peerImage = true) && decide (s.mayYield = false)),
    (let s : State := tw 7 {yl with yieldAt := some 8}; let h : Nat := 8; decide (s.twin.yieldAt = some h) && decide (s.time.index < h)),
    (let s : State := (((((tw 3 {yl with peerState := 2}).put R.TWIN_HEALTH_MASK_MASK 0).raise R.TWIN_STATUS_IMG_VALID).raise R.SYS_STRAPS_TWIN_PREF).put R.TWIN_CFG_REVERT_HOLD 1).raise R.TWIN_STATUS_PEER_HEALTHY; let x : State := (s.handoverSend 1 0).enterPrepare false; decide (s.twinState = 3) && decide (s.preferred = true) && decide (s.get R.TWIN_CFG_REVERT_HOLD ≠ 0) && decide (s.twin.failed = false) && decide (s.twin.peerState = 2) && decide (s.flag R.TWIN_STATUS_PEER_HEALTHY = true) && decide (s.tlink = true) && decide (s.flag R.TWIN_STATUS_IMG_VALID = true) && decide (s.healthy = true) && decide (s.inhibited = false)),
    (let s : State := tw 3 yl; decide (s.preferred = false)),
    (let s : State := (((tw 2 yl).put R.TWIN_CFG_NET_YIELD 1).put R.TWIN_HEALTH_PEER 6).raise R.TWIN_STATUS_PEER_HEALTHY; decide (s.twinState = 2) && decide (s.mayYield = true) && decide (s.get R.TWIN_CFG_NET_YIELD ≠ 0) && decide (s.linkIsUp 0 = false) && decide (s.linkIsUp 1 = false) && decide (s.flag R.TWIN_STATUS_PEER_HEALTHY = true) && decide (s.get R.TWIN_HEALTH_PEER / 2 % 4 ≠ 0)),
    (let s : State := up3 (tw 2 yl); decide (s.linkIsUp 0 = true))] : List Bool).all id = true := by decide +kernel

/-- The hypotheses of `ImageTravels`, clause by clause. -/
theorem test_meets_ImageTravels : ([
    (let s : State := {rg.put R.TWIN_STATUS_STATE 2 |>.raise R.TWIN_STATUS_TLINK_UP with time := {s0.time with index := 16, begun := true}, twin := {dirty := (List.range 130).map (fun k => (5, k))}}; decide (s.pushes = true) && decide (s.tlink = true) && decide (s.twin.sent = none) && decide (s.atBoundary = true) && decide (s.time.begun = true)),
    (let s : State := {tw 2 {} with time := {s0.time with index := 3}}; decide (s.pushes = true) && decide (s.tlink = true) && decide (s.atBoundary = false)),
    (let s : State := tw 3 yl; decide (s.pushes = false)),
    (let s : State := tw 2 {sent := some (65535, [(5,1)], 4)}; let push : BitVec 16 := 65535; let l : List (Nat × Nat) := [(5,1)]; let k : Nat := 4; decide (s.pushes = true) && decide (s.tlink = true) && decide (s.twin.sent = some (push.toNat, l, k))),
    (let s : State := tw 2 {}; let push : BitVec 16 := 65535; decide (s.twin.sent = none)),
    (let s : State := tw 3 {}; let words : List (BitVec 32) := pg1; decide (s.takesImage = true) && decide (words.length = 256) && decide ((pageKey words).1 = 1) && decide (bitsOf ((words[3]?).getD 0).toNat 31 16 = pageCrc words) && decide (bitsOf ((words[3]?).getD 0).toNat 15 0 ≠ s.twin.stagedPush)),
    (let s : State := tw 3 {stagedPush := 9}; let words : List (BitVec 32) := pg1; decide (s.takesImage = true) && decide (words.length = 256) && decide ((pageKey words).1 = 1) && decide (bitsOf ((words[3]?).getD 0).toNat 31 16 = pageCrc words) && decide (bitsOf ((words[3]?).getD 0).toNat 15 0 = s.twin.stagedPush) && decide (s.twin.commit = none) && decide ((putPage s.twin.staged words).length ≤ 128)),
    (let s : State := tw 3 {staged := [pg1], stagedPush := 9}; let push : BitVec 16 := 9; let pages : BitVec 16 := 1; let total : BitVec 16 := 1; decide (s.twinState = 3) && decide (s.tlink = true) && decide (s.twin.stagedPush = push.toNat) && decide (s.twin.staged.length = pages.toNat)),
    (let s : State := tw 3 {staged := [pg1], stagedPush := 9}; let push : BitVec 16 := 9; let pages : BitVec 16 := 2; let total : BitVec 16 := 1; decide (s.takesImage = true) && decide (s.twin.stagedPush = push.toNat) && decide (s.twin.staged.length < pages.toNat)),
    (let s : State := {(rg.put R.TWIN_STATUS_STATE 4).raise (R.REGION_BASE_EN 31) |>.put (R.REGION_WORDS_WORDS 31) 1 with twin := {take := some {}, store := [pg1]}}; let tk : TwinTake := {}; let k : Fin 32 := 5; let j : Fin 32 := 31; let x : State := (s.restoreRegion k).setTake { tk with next := k.val + 1 }; decide (s.twinState = 4 ∨ s.twinState = 6) && decide (s.twin.take = some tk) && decide (tk.restored = false) && decide (tk.ran = false) && decide (s.regions.find? (fun i => tk.next ≤ i) = some k.val) && decide (s.regionOn k = true) && decide (k.val < j.val) && decide (s.flag (R.REGION_BASE_EN j) = true) && decide ((s.restoreRegion k).regions = s.regions)),
    (let s : State := tw 6 {take := some {next := 9}}; let tk : TwinTake := {next := 9}; decide (s.twinState = 4 ∨ s.twinState = 6) && decide (s.twin.take = some tk) && decide (tk.restored = false) && decide (tk.ran = false) && decide ((∀ k : Fin 32, s.flag (R.REGION_BASE_EN k) = true → k.val < tk.next))),
    (let s : State := tw 3 {}; decide (s.twin.take = none)),
    (let s : State := (tw 4 {take := some {ran := true}}).raise R.TWIN_STATUS_OWN; let tm : BitVec 16 := 65535; let tk : TwinTake := {ran := true}; let y : State := (if s.leftOut tk.record then s.unitsRefused else s); let x : State := (y.startWrite 3).setTake { tk with start := some s.nextBoundary, time := tm.toNat }; decide (s.twinState = 4) && decide (s.owns = true) && decide (s.twin.take = some tk) && decide (tk.ran = true) && decide (tk.start = none) && decide (s.arming = false))] : List Bool).all id = true := by decide +kernel

end Wn

namespace Wo

def mq (op : Nat) : State := { (s0.put R.MP_STATUS_STATE 1).raise R.MP_MB_STATUS_BUSY with mgmt := { s0.mgmt with cmd := some (op, 16, 255) } }
def ee : LogEntry := { seq := 5, code := 0xFF, sev := 2, timeValid := true, gap := true, ns := 4294967296123456789, boot := 65535, arg0 := 1, arg1 := 2, arg2 := 3 }
def good (_ : Nat) : FwSlot := { words := [(0, 0x5746584D), (4, 1), (8, 0x01020304), (12, 0), (16, 0), (0x18, 0x42C4B0E3), (0x1C, 0x141CFC98), (0x20, 0xC8F4FB9A), (0x24, 0x24B96F99), (0x28, 0xE441AE27), (0x2C, 0x4C939B64), (0x30, 0x1B9995A4), (0x34, 0x55B85278)] ++ (List.range 18).map (fun k => (0xB8 + 4 * k, 0)) }

/-- The hypotheses of `MailboxAndProcessor`, clause by clause. -/
theorem test_meets_MailboxAndProcessor : ([
    (let s : State := s0; let p : Fin 4 := 3; let w : BitVec 32 := 0xFFFFFFFF; decide (s.NoAbort) && decide (s.flag R.MP_MB_STATUS_BUSY = false)),
    (let s : State := s0; let p : Fin 4 := 3; let w : BitVec 32 := 0xFFFFFFFF; decide (s.NoAbort) && decide (s.flag R.MP_MB_STATUS_BUSY = false)),
    (let s : State := s0; let p : Fin 4 := 3; let w : BitVec 32 := 0xFFFFFFFF; decide (s.NoAbort) && decide (s.flag R.MP_MB_STATUS_BUSY = false)),
    (let s : State := s0; let p : Fin 4 := 3; let w : BitVec 32 := 0xFFFFFFFF; decide (s.NoAbort) && decide (s.flag R.MP_MB_STATUS_BUSY = false)),
    (let s : State := s0; let p : Fin 4 := 3; let w : BitVec 32 := 0xFFFFFFFF; decide (s.NoAbort) && decide (s.flag R.MP_MB_STATUS_BUSY = false)),
    (let s : State := s0; let p : Fin 4 := 3; let w : BitVec 32 := 0xFFFFFFFF; decide (s.NoAbort) && decide (s.flag R.MP_MB_STATUS_BUSY = false)),
    (let s : State := s0; let p : Fin 4 := 3; let w : BitVec 32 := 0xFFFFFFFF; decide (s.NoAbort) && decide (s.flag R.MP_MB_STATUS_BUSY = false)),
    (let s : State := s0; let p : Fin 4 := 3; let w : BitVec 32 := 0xFFFFFFFF; decide (s.NoAbort) && decide (s.flag R.MP_MB_STATUS_BUSY = false)),
    (let s : State := s0; let p : Fin 4 := 3; let w : BitVec 32 := 0xFFFFFF15; decide (s.NoAbort) && decide (s.flag R.MP_MB_STATUS_BUSY = false) && decide (mbOps.contains (w.toNat % 256) = false)),
    (let s : State := s0.raise R.MP_MB_STATUS_BUSY; let p : Fin 4 := 3; let w : BitVec 32 := 0xFFFFFFFF; decide (s.NoAbort) && decide (s.flag R.MP_MB_STATUS_BUSY = true)),
    (let s : State := mq 0xFF; let ok : Bool := true; let bad : BitVec 32 := 0; let len : Nat := 16; let tag : Nat := 255; let op : Nat := 0xFF; decide (s.mpRuns = true) && decide (s.mgmt.cmd = some (op, len, tag)) && decide (mbOps.contains op = false) && decide (tag < 256)),
    (let s : State := { mq 1 with mgmt := { (mq 1).mgmt with cmd := some (1, 17, 255) } }; let ok : Bool := true; let bad : BitVec 32 := 0; let len : Nat := 17; let tag : Nat := 255; let op : Nat := 1; decide (s.mpRuns = true) && decide (s.mgmt.cmd = some (op, len, tag)) && decide (mbOps.contains op = true) && decide (16 < len) && decide (tag < 256)),
    (let s : State := mq 1; let ok : Bool := true; let bad : BitVec 32 := 0; let len : Nat := 16; let tag : Nat := 255; decide (s.mpRuns = true) && decide (s.mgmt.cmd = some (1, len, tag)) && decide (len ≤ 16) && decide (tag < 256)),
    (let s : State := mq 2; let ok : Bool := true; let bad : BitVec 32 := 0; let len : Nat := 16; let tag : Nat := 255; decide (s.mpRuns = true) && decide (s.mgmt.cmd = some (2, len, tag)) && decide (len ≤ 16) && decide ((s.rd (R.MP_MB_ARG 1)).toNat = 0) && decide (tag < 256)),
    (let s : State := { (mq 2).wr (R.MP_MB_ARG 1) 1 |>.wr (R.MP_MB_ARG 0) 5 with mgmt := { (mq 2).mgmt with ring := [ee] } }; let ok : Bool := true; let bad : BitVec 32 := 0; let len : Nat := 16; let tag : Nat := 255; let e : LogEntry := ee; decide (s.mpRuns = true) && decide (s.mgmt.cmd = some (2, len, tag)) && decide (len ≤ 16) && decide ((s.rd (R.MP_MB_ARG 1)).toNat = 1) && decide (s.logFind (s.rd (R.MP_MB_ARG 0)).toNat = some e) && decide (tag < 256)),
    (let s : State := (mq 3).wr (R.MP_MB_ARG 2) 65535; let ok : Bool := true; let bad : BitVec 32 := 0; let len : Nat := 16; let tag : Nat := 255; decide (s.mpRuns = true) && decide (s.mgmt.cmd = some (3, len, tag)) && decide (len ≤ 16) && decide ((s.rd (R.MP_MB_ARG 2)).toNat < 2 ^ 16) && decide (tag < 256)),
    (let s : State := (mq 3).wr (R.MP_MB_ARG 2) 65536; let ok : Bool := true; let bad : BitVec 32 := 0; let len : Nat := 16; let tag : Nat := 255; decide (s.mpRuns = true) && decide (s.mgmt.cmd = some (3, len, tag)) && decide (len ≤ 16) && decide (2 ^ 16 ≤ (s.rd (R.MP_MB_ARG 2)).toNat) && decide (tag < 256)),
    (let s : State := (mq 0x10).wr (R.MP_MB_ARG 0) 786688; let bad : BitVec 32 := 0; let len : Nat := 16; let tag : Nat := 255; decide (s.mpRuns = true) && decide (s.mgmt.cmd = some (0x10, len, tag)) && decide (len ≤ 16) && decide (256 ≤ (s.rd (R.MP_MB_ARG 0)).toNat) && decide ((s.rd (R.MP_MB_ARG 0)).toNat ≤ 786688)),
    (let s : State := mq 0x11; let ok : Bool := true; let bad : BitVec 32 := 0; let len : Nat := 16; let tag : Nat := 255; decide (s.mpRuns = true) && decide (s.mgmt.cmd = some (0x11, len, tag)) && decide (len ≤ 16) && decide (s.mgmt.begun = none) && decide (tag < 256)),
    (let s : State := {(mq 0x11).wr (R.MP_MB_ARG 1) 4 |>.wr (R.MP_MB_ARG 0) 252 with mgmt := {(mq 0x11).mgmt with begun := some (1, 256)}}; let bad : BitVec 32 := 0; let len : Nat := 16; let tag : Nat := 255; let size : Nat := 256; let k : Fin 2 := 1; decide (s.mpRuns = true) && decide (s.mgmt.cmd = some (0x11, len, tag)) && decide (len ≤ 16) && decide (s.mgmt.begun = some (k.val, size)) && decide ((s.rd (R.MP_MB_ARG 1)).toNat = 4) && decide ((s.rd (R.MP_MB_ARG 0)).toNat % 4 = 0) && decide ((s.rd (R.MP_MB_ARG 0)).toNat + 4 ≤ size)),
    (let s : State := {mq 0x12 with mgmt := {(mq 0x12).mgmt with begun := some (1, 256)}}; let bad : BitVec 32 := 0; let len : Nat := 16; let tag : Nat := 255; let size : Nat := 256; let k : Fin 2 := 1; decide (s.mpRuns = true) && decide (s.mgmt.cmd = some (0x12, len, tag)) && decide (len ≤ 16) && decide (s.mgmt.begun = some (k.val, size)) && decide (s.imageStatus (s.fwSlot k) = 4) && decide (tag < 256)),
    (let s : State := {mq 0x12 with mgmt := {(mq 0x12).mgmt with begun := some (1, 256), slotB := good 0}}; let bad : BitVec 32 := 0; let len : Nat := 16; let tag : Nat := 255; let size : Nat := 256; let k : Fin 2 := 1; decide (s.mpRuns = true) && decide (s.mgmt.cmd = some (0x12, len, tag)) && decide (len ≤ 16) && decide (s.mgmt.begun = some (k.val, size)) && decide (s.imageStatus (s.fwSlot k) = 0) && decide (tag < 256)),
    (let s : State := {mq 0x12 with mgmt := {(mq 0x12).mgmt with begun := some (1, 256)}}; let bad : BitVec 32 := 0; let len : Nat := 16; let tag : Nat := 255; let size : Nat := 256; let k : Fin 2 := 1; decide (s.mpRuns = true) && decide (s.mgmt.cmd = some (0x12, len, tag)) && decide (len ≤ 16) && decide (s.mgmt.begun = some (k.val, size)) && decide (tag < 256)),
    (let s : State := {mq 0x13 with mgmt := {(mq 0x13).mgmt with begun := some (1, 256), verified := true}}; let bad : BitVec 32 := 0; let len : Nat := 16; let tag : Nat := 255; let size : Nat := 256; let k : Fin 2 := 1; decide (s.mpRuns = true) && decide (s.mgmt.cmd = some (0x13, len, tag)) && decide (len ≤ 16) && decide (s.mgmt.begun = some (k.val, size)) && decide (s.mgmt.verified = true) && decide (tag < 256)),
    (let s : State := {mq 0x13 with mgmt := {(mq 0x13).mgmt with begun := some (1, 256), verified := true}}; let bad : BitVec 32 := 0; let len : Nat := 16; let tag : Nat := 255; let size : Nat := 256; let k : Fin 2 := 1; decide (s.mpRuns = true) && decide (s.mgmt.cmd = some (0x13, len, tag)) && decide (len ≤ 16) && decide (s.mgmt.begun = some (k.val, size)) && decide (s.mgmt.verified = true) && decide (tag < 256)),
    (let s : State := mq 0x14; let ok : Bool := true; let bad : BitVec 32 := 0; let len : Nat := 16; let tag : Nat := 255; decide (s.mpRuns = true) && decide (s.mgmt.cmd = some (0x14, len, tag)) && decide (len ≤ 16) && decide (s.flag R.MP_STATUS_TRIAL = false) && decide (tag < 256)),
    (let s : State := ((mq 0x14).raise R.MP_STATUS_TRIAL).put R.MP_STATUS_SLOT 1; let bad : BitVec 32 := 0; let len : Nat := 16; let tag : Nat := 255; let k : Fin 2 := 1; decide (s.mpRuns = true) && decide (s.mgmt.cmd = some (0x14, len, tag)) && decide (len ≤ 16) && decide (s.flag R.MP_STATUS_TRIAL = true) && decide (s.get R.MP_STATUS_SLOT = k.val) && decide (s.get R.MP_FW_SVN_IMG ≤ s.fuseSvn) && decide (s.mgmt.svnDue = 0) && decide (tag < 256)),
    (let s : State := s0; let ok : Bool := true; let bad : BitVec 32 := 0; decide (s.mgmt.cmd = none)),
    (let s : State := s0.put R.MP_STATUS_STATE 1; let w : BitVec 32 := 0xFFFFFFFD; decide (s.NoAbort) && decide (w.toNat.testBit 1 = false) && decide (s.get R.MP_STATUS_STATE ≠ 2) && decide (s.mgmt.cmd = none)),
    (let s : State := mq 1; let w : BitVec 32 := 0; let op : Nat := 1; let len : Nat := 16; let tag : Nat := 255; decide (s.NoAbort) && decide (w.toNat.testBit 1 = false) && decide (s.get R.MP_STATUS_STATE ≠ 2) && decide (s.mgmt.cmd = some (op, len, tag)) && decide (tag < 256)),
    (let s : State := mq 1; let w : BitVec 32 := 0xFFFFFFFE; decide (s.NoAbort) && decide (w.toNat.testBit 0 = false)),
    (let s : State := mq 1; let pc : BitVec 32 := 77; decide (s.pins.inReset = false)),
    (let s : State := {s0 with mgmt := {s0.mgmt with recovery := true}}; let bad : BitVec 32 := 0; decide (s.pins.inReset = false) && decide (s.mgmt.booting = true) && decide (s.get R.MP_STATUS_STATE = 0) && decide (s.mgmt.recovery = true)),
    (let s : State := s0; let bad : BitVec 32 := 0; decide (s.pins.inReset = false) && decide (s.mgmt.booting = true) && decide (s.get R.MP_STATUS_STATE = 0) && decide (s.mgmt.recovery = false) && decide (s.fwState 0 = 0) && decide (s.fwState 1 = 0)),
    (let s : State := {s0 with mgmt := {s0.mgmt with slotA := good 4, boot0 := {generation := 1, a := 4}}}; let bad : BitVec 32 := 0; decide (s.pins.inReset = false) && decide (s.mgmt.booting = true) && decide (s.get R.MP_STATUS_STATE = 0) && decide (s.mgmt.recovery = false) && decide (s.fwState 0 = 4) && decide (s.fwState 1 = 0) && decide (s.imageStatus s.mgmt.slotA = 0) && decide (s.mgmt.svnDue = 0) && decide ((∀ n : Fin 16, s.get (R.MP_GPIO_CFG_ACTION n) ≠ 1)))] : List Bool).all id = true := by decide +kernel

/-- The hypotheses of `SensorsPinsAndFuses`, clause by clause. -/
theorem test_meets_SensorsPinsAndFuses : ([
    (let s : State := s0; let temps : List (BitVec 16) := [5]; let supplies : List (BitVec 16) := [6]; decide (s.mpRuns = false)),
    (let s : State := mq 1; let r : BitVec 16 := 0xFFFF; decide (s.mpRuns = true)),
    (let s : State := {(mq 1).put (R.MP_TEMP_THR_WARN 0) 100 with mgmt := {(mq 1).mgmt with breach := [(0, 1)]}}; let r : BitVec 16 := 800; decide (s.mpRuns = true) && decide (look 0 s.mgmt.breach 0 = 1) && decide ((s.rd R.MP_ALARM_STATUS).toNat.testBit 0 = false) && decide (8 * sgn 8 (s.get (R.MP_TEMP_THR_WARN 0)) ≤ r.toInt)),
    (let s : State := mq 1; decide (s.mgmt.uncopied = 0)),
    (let s : State := {mq 1 with mgmt := {(mq 1).mgmt with ring := [ee], uncopied := 1}}; let e : LogEntry := ee; let k : Nat := 0; decide (s.mpRuns = true) && decide (s.mgmt.uncopied = k + 1) && decide (s.mgmt.ring[k]? = some e) && decide (s.mgmt.flash.length < 8192)),
    (let s : State := {mq 1 with mgmt := {(mq 1).mgmt with ring := [ee], uncopied := 1, flash := List.replicate 8192 ee}}; let e : LogEntry := ee; let k : Nat := 0; decide (s.mpRuns = true) && decide (s.mgmt.uncopied = k + 1) && decide (s.mgmt.ring[k]? = some e) && decide (8192 ≤ s.mgmt.flash.length)),
    (let s : State := mq 1; let n : Fin 16 := 15; let level : Bool := false; let tm : Nat := 7; decide ((s.pin n).level = level)),
    (let s : State := (mq 1).put (R.MP_GPIO_CFG_DEB 15) 255; let n : Fin 16 := 15; let level : Bool := true; let tm : Nat := 7; decide (s.pins.inReset = false) && decide ((s.pin n).level ≠ level) && decide (s.pinIn n = true) && decide ((s.pin n).running = false) && decide (s.get (R.MP_GPIO_CFG_DEB n) ≠ 0)),
    (let s : State := {(mq 1).put (R.MP_GPIO_CFG_DEB 15) 255 with mgmt := {(mq 1).mgmt with pins := [(15, {running := true})]}}; let n : Fin 16 := 15; let level : Bool := true; let tm : Nat := 7; decide (s.pins.inReset = false) && decide ((s.pin n).level ≠ level) && decide (s.pinIn n = true) && decide ((s.pin n).running = true) && decide (s.get (R.MP_GPIO_CFG_DEB n) ≠ 0) && decide (s.get (gpioOvf n) < 2 ^ 16 - 1)),
    (let s : State := s0.put (R.MP_GPIO_CFG_DEB 15) 0; let n : Fin 16 := 15; let level : Bool := true; let tm : Nat := 7; decide (s.pins.inReset = false) && decide ((s.pin n).level ≠ level) && decide (s.pinIn n = true) && decide ((s.pin n).settled ≠ level) && decide (s.get (R.MP_GPIO_CFG_DEB n) = 0) && decide (s.mpRuns = false)),
    (let s : State := s0; let n : Fin 16 := 15; let tm : Nat := 7; decide ((s.pin n).running = false)),
    (let s : State := {((mq 1).put (R.MP_GPIO_CFG_DEB 15) 255).put (R.MP_GPIO_CFG_REC 15) 3 with mgmt := {(mq 1).mgmt with pins := [(15, {running := true, level := true})]}}; let n : Fin 16 := 15; let tm : Nat := 70000000; decide ((s.pin n).running = true) && decide ((s.pin n).level ≠ (s.pin n).settled) && decide (s.mpRuns = true) && decide (s.get (R.MP_GPIO_CFG_ACTION n) = 0) && decide (s.get (R.MP_GPIO_CFG_REC n) = 3) && decide (s.mgmt.evts.length < 32)),
    (let s : State := s0; let p : Fin 4 := 3; let w : BitVec 32 := 0xFFFFFFD7; decide (s.NoAbort) && decide (s.fuseRefusal p (w.toNat % 64) ≠ 0)),
    (let s : State := s0; let p : Fin 4 := 2; let w : BitVec 32 := 0xFFFFFFD7; decide (s.NoAbort) && decide (s.fuseRefusal p (w.toNat % 64) = 0)),
    (let s : State := s0; let bad : BitVec 32 := 0; decide (s.flag R.FUSE_STATUS_BUSY = false)),
    (let s : State := {s0.raise R.FUSE_STATUS_BUSY with mgmt := {s0.mgmt with fusing := [(23, 1)]}}; let n : Fin 24 := 23; let v : BitVec 32 := 1; decide (s.flag R.FUSE_STATUS_BUSY = true) && decide (s.mgmt.fusing = [(n.val, v)])),
    (let s : State := {s0.raise R.FUSE_STATUS_BUSY with mgmt := {s0.mgmt with fusing := [(23, 3)]}}; let n : Fin 24 := 23; let v : BitVec 32 := 3; let bad : BitVec 32 := 1; decide (s.flag R.FUSE_STATUS_BUSY = true) && decide (s.mgmt.fusing = [(n.val, v)]) && decide (v &&& bad &&& ~~~ s.rd (R.FUSE_WORD n) ≠ 0)),
    (let s : State := s0; let w : BitVec 32 := 0xFFFFFFFF; decide (s.NoAbort) && decide (bitsOf (s.rd R.MP_ALARM_STATUS).toNat 31 24 = 0) && decide (s.flag R.FUSE_STATUS_BUSY = false)),
    (let s : State := s0.wr R.MP_ALARM_STATUS 0x01000000; let w : BitVec 32 := 0; decide (s.NoAbort) && decide (bitsOf (s.rd R.MP_ALARM_STATUS).toNat 31 24 ≠ 0))] : List Bool).all id = true := by decide +kernel

end Wo

namespace Wp


/-- The hypotheses of `ClockFrames`, clause by clause. -/
theorem test_meets_ClockFrames : ([
    (let s : State := s0.put (R.REF_STATUS_QSTATE 7) 5; let n : Fin 8 := 7; let r : Fin 4 := 3; decide (s.q n = 5 ∨ s.get (R.REF_RATE_RATE n) ≠ 7)),
    (let s : State := s0.put R.VET_STATUS_STATE 2; let w : BitVec 32 := 1; decide (s.NoAbort) && decide (s.vetState = 2)),
    (let s : State := s0; let w : BitVec 32 := 1; decide (s.NoAbort)),
    (let s : State := s0; let w : BitVec 32 := 1; decide (s.NoAbort)),
    (let s : State := s0; let w : BitVec 32 := 1; decide (s.NoAbort)),
    (let s : State := s0; let w : BitVec 32 := 1; decide (s.NoAbort)),
    (let s : State := s0; let n : Fin 3 := 2; decide (n ≠ 0 ∨ s.vet.suspended = false)),
    (let s : State := ({ s0 with vet := { s0.vet with suspended := true } } : State); decide (s.vet.suspended = true)),
    (let s : State := s0; let n : Fin 3 := 2; let e : Int := 7; decide (n ≠ 0)),
    (let s : State := s0; let w : BitVec 32 := 1; decide (s.NoAbort)),
    (let s : State := s0; let w : BitVec 32 := 1; decide (s.NoAbort)),
    (let s : State := s0; let n : Fin 12 := 11; let w : BitVec 32 := 1; decide (s.NoAbort)),
    (let s : State := s0; let n : Fin 12 := 11; let w : BitVec 32 := 1; decide (s.NoAbort)),
    (let s : State := s0; let n : Fin 12 := 11; let w : BitVec 32 := 1; decide (s.NoAbort)),
    (let s : State := s0; let w : BitVec 32 := 1; decide (s.NoAbort)),
    (let s : State := s0; decide (s.host.qspi ≠ .read ∨ s.host.qspiWord = none)),
    (let s : State := s0; let p : Fin 4 := 3; decide (s.host.held = [])),
    (let s : State := s0; let us : Nat := 7; decide (s.host.held = []))] : List Bool).all id = true := by decide +kernel

/-- The hypotheses of `FlowAndSiloFrames`, clause by clause. -/
theorem test_meets_FlowAndSiloFrames : ([
    (let s : State := s0; let x : Fin 2 := 1; let w : BitVec 32 := 1; decide (s.NoAbort)),
    (let s : State := s0; let w : BitVec 32 := 1; decide (s.NoAbort)),
    (let s : State := s0; let x : Fin 2 := 1; decide ((s.port x).busy = true ∨ (s.port x).queue = [])),
    (let s : State := s0; let x : Fin 2 := 1; decide ((s.port x).busy = true ∨ (s.port x).queue = [])),
    (let s : State := s0; let w : BitVec 32 := 1; decide (s.NoAbort)),
    (let s : State := s0; let n : Fin 256 := 255; let w : BitVec 32 := 1; decide (s.NoAbort)),
    (let s : State := s0; let w : BitVec 32 := 1; decide (s.NoAbort)),
    (let s : State := s0; let w : BitVec 32 := 1; decide (s.NoAbort)),
    (let s : State := s0; let n : Fin 4096 := 4095; decide (s.NoAbort)),
    (let s : State := s0; let n : Fin 4096 := 4095; decide (s.NoAbort)),
    (let s : State := s0; let w : BitVec 32 := 1; decide (s.NoAbort)),
    (let s : State := s0; let n : Fin 16 := 15; let w : BitVec 32 := 1; decide (s.NoAbort)),
    (let s : State := s0; let n : Fin 16 := 15; let w : BitVec 32 := 1; decide (s.NoAbort)),
    (let s : State := s0; let n : Fin 16 := 15; let w : BitVec 32 := 1; decide (s.NoAbort)),
    (let s : State := s0; let n : Fin 16 := 15; let w : BitVec 32 := 1; decide (s.NoAbort)),
    (let s : State := s0; let e : Fin 16384 := 16383; let w : BitVec 32 := 1; decide (s.NoAbort)),
    (let s : State := s0; let q : Fin 32 := 31; let w : BitVec 32 := 1; decide (s.NoAbort)),
    (let s : State := s0; let q : Fin 32 := 31; let l : Fin 64 := 63; let w : BitVec 32 := 1; decide (s.NoAbort)),
    (let s : State := s0; let w : BitVec 32 := 1; decide (s.NoAbort)),
    (let s : State := s0; let w : BitVec 32 := 1; decide (s.NoAbort)),
    (let s : State := s0; let n : Fin 64 := 63; let w : BitVec 32 := 1; decide (s.NoAbort)),
    (let s : State := s0; let c : Fin 8 := 7; let w : BitVec 32 := 1; decide (s.NoAbort))] : List Bool).all id = true := by decide +kernel

/-- The hypotheses of `PortAndAnalogFrames`, clause by clause. -/
theorem test_meets_PortAndAnalogFrames : ([
    (let s : State := s0; let m : Fin 2 := 1; let w : BitVec 32 := 1; decide (s.NoAbort)),
    (let s : State := s0; let w : BitVec 32 := 1; decide (s.NoAbort)),
    (let s : State := s0; let w : BitVec 32 := 1; decide (s.NoAbort)),
    (let s : State := s0; let w : BitVec 32 := 1; decide (s.NoAbort))] : List Bool).all id = true := by decide +kernel

/-- The hypotheses of `ControlFrames`, clause by clause. -/
theorem test_meets_ControlFrames : ([
    (let s : State := s0.put R.TWIN_STATUS_STATE 2; decide (s.twinState = 2)),
    (let s : State := s0.put R.TWIN_STATUS_STATE 2; decide (s.twinState = 2)),
    (let s : State := s0.put R.TWIN_STATUS_STATE 2; let c : Fin 3 := 2; decide (s.twinState = 2)),
    (let s : State := s0.put R.TWIN_STATUS_STATE 3; let crcOk : Bool := true; let words : List (BitVec 32) := []; decide (s.twinState = 3)),
    (let s : State := s0.put R.TWIN_STATUS_STATE 3; let push : BitVec 16 := 1; let pages : BitVec 16 := 1; let total : BitVec 16 := 1; decide (s.twinState = 3)),
    (let s : State := s0; let p : Fin 4 := 3; let w : BitVec 32 := 1; decide (s.NoAbort)),
    (let s : State := s0; let p : Fin 4 := 3; let w : BitVec 32 := 1; decide (s.NoAbort)),
    (let s : State := s0; let p : Fin 4 := 3; let w : BitVec 32 := 1; decide (s.NoAbort)),
    (let s : State := s0; let p : Fin 4 := 3; let w : BitVec 32 := 1; decide (s.NoAbort)),
    (let s : State := s0; let p : Fin 4 := 3; let w : BitVec 32 := 1; decide (s.NoAbort)),
    (let s : State := s0; let p : Fin 4 := 3; let w : BitVec 32 := 1; decide (s.NoAbort)),
    (let s : State := s0; let p : Fin 4 := 3; let w : BitVec 32 := 1; decide (s.NoAbort)),
    (let s : State := s0; let p : Fin 4 := 3; let w : BitVec 32 := 1; decide (s.NoAbort)),
    (let s : State := s0; let p : Fin 4 := 3; let w : BitVec 32 := 1; decide (s.NoAbort)),
    (let s : State := s0; let w : BitVec 32 := 1; decide (s.NoAbort) && decide (w.toNat.testBit 1 = false)),
    (let s : State := s0; let ok : Bool := true; let bad : BitVec 32 := 1; decide (s.flag R.MP_STATUS_TRIAL = false ∨ ok = false)),
    (let s : State := s0; let ok : Bool := true; let bad : BitVec 32 := 1; decide (s.NoAbort)),
    (let s : State := s0; let n : Fin 16 := 15; let level : Bool := true; let tm : Nat := 7; decide ((s.mpRuns = true → s.get (R.MP_GPIO_CFG_ACTION n) = 0 ∨ s.get (R.MP_GPIO_CFG_ACTION n) = 5))),
    (let s : State := s0; let n : Fin 16 := 15; let tm : Nat := 7; decide (s.get (R.MP_GPIO_CFG_ACTION n) = 0 ∨ s.get (R.MP_GPIO_CFG_ACTION n) = 5)),
    (let s : State := s0; let p : Fin 4 := 3; let w : BitVec 32 := 1; decide (s.NoAbort)),
    (let s : State := s0; let w : BitVec 32 := 1; decide (s.NoAbort))] : List Bool).all id = true := by decide +kernel

end Wp

namespace Wq

def pcq (h : PsCh) : State := (s0.setPsCh 3 h).wr (R.PSC_RE_NOM 3) 0x3F800000

/-- The hypotheses of `OpenAndLowLoad`, clause by clause. -/
theorem test_meets_OpenAndLowLoad : ([
    (let s : State := pcq {pilot := 5, vals := [0x40800000, 0x3F000000, 0xC0800000, 0xBF000000]}; let p : Fin 4 := 3; let vp : F32 := 0x40800000; let ip : F32 := 0x3F000000; let vm : F32 := 0xC0800000; let im : F32 := 0xBF000000; let re : F32 := (fdiv (fsub vp vm).v (fsub ip im).v).v; decide (s.on .pstage = true) && decide ((s.psCh p).pilot = 5) && decide ((s.psCh p).spoiled = false) && decide ((s.psCh p).vals = [vp, ip, vm, im]) && decide ((fop (fsub ip im).v).m ≠ 0))] : List Bool).all id = true := by decide +kernel

end Wq

namespace Wr


/-- The hypotheses of `LaneInstructionFrames`, clause by clause. -/
theorem test_meets_LaneInstructionFrames : ([
    (let s : State := Wh.sp; let n : Fin 16 := 15; let f : InsnFields := {}; let c : Instr := .iVadd 15 {}; decide (s.CanGoOn n) && decide ((s.lane n).stepping = false) && decide ((∀ k : Fin 4, s.flag (R.LANE_BP_EN n k) = false)) && decide (c ∈ [Instr.iNop n f, .iLdv n f, .iLds n f, .iLdvx n f, .iIns n f, .iOuts n f, .iMova n f, .iAdda n f, .iMovas n f, .iMovsa n f, .iMovs n f, .iMovfs n f, .iClrf n f, .iMovls n f, .iVadd n f, .iVsub n f, .iVmul n f, .iVmac n f, .iVmuls n f, .iVmacs n f, .iVabs n f, .iVmax n f, .iVmin n f, .iVclip n f, .iVmov n f, .iVbcst n f, .iVext n f, .iVins n f, .iVsum n f, .iVpeak n f, .iSadd n f, .iSsub n f, .iSmul n f, .iSmac n f, .iSmax n f, .iSmin n f, .iScmp n f, .iSiadd n f, .iSand n f, .iSor n f, .iSxor n f, .iSshf n f, .iSicmp n f, .iScvtf n f, .iScvti n f, .iGwamp n f, .iMix n f, .iMixv n f, .iVlog2 n f, .iVexp2 n f, .iGainc n f]))] : List Bool).all id = true := by decide +kernel

end Wr

namespace Ws

def ln : Lane := { active := true, pc := 9, v := (List.range 256).map (fun k => (k, BitVec.ofNat 32 (0x3F000000 + 0x12345 * k))), s := [(3, 0xC0490FDB), (31, 0x40000001)], a := [(14, 0xFFFE), (15, 0x000A0005)], lc := [(3, 77)], flags := 0x1F04, ins := [(127, [1,2,3,4,5,6,7,0x3F800000]), (0, [1,2,3,4,5,6,7,8]), (90, [1,2,3,4,5,6,7,8])] }
def sp : State := (((((((s0.put (R.LANE_STATUS_STATE 15) 2).setLane 15 ln).wr (bankAddr 15 0 8) 0x0004).wr (bankAddr 15 0 0x34) 0x80000000).wr (R.LANE_XP 15) 0x00040000).wr (dataAddr 15 3) 0x3E800000).wr (dataAddr 15 0) 0x3F000000).wr (dataAddr 15 1) 0x3F100000
def nan : State := sp.setLane 15 { ln with s := [(3, 0x7FC00000), (31, 1)] }

/-- The hypotheses of `ComparisonsSetFlags`, clause by clause. -/
theorem test_meets_ComparisonsSetFlags : ([
    (let s : State := sp; let n : Fin 16 := 15; let f : InsnFields := {a := 3, b := 31}; let a : BitVec 32 := canon32 ((s.lane n).sc f.a.toNat); let b : BitVec 32 := canon32 ((s.lane n).sc f.b.toNat); decide (s.CanIssue n) && decide (f.z = 0) && decide (f.m = 0) && decide (f.imm = 0) && decide (f.d = 0) && decide (isNaN32 ((s.lane n).sc f.a.toNat) = false) && decide (isNaN32 ((s.lane n).sc f.b.toNat) = false)),
    (let s : State := nan; let n : Fin 16 := 15; let f : InsnFields := {a := 31, b := 3}; decide (s.CanIssue n) && decide (f.z = 0) && decide (f.m = 0) && decide (f.imm = 0) && decide (f.d = 0) && decide ((isNaN32 ((s.lane n).sc f.a.toNat) || isNaN32 ((s.lane n).sc f.b.toNat)) = true)),
    (let s : State := sp; let n : Fin 16 := 15; let f : InsnFields := {a := 3, b := 31}; decide (s.CanIssue n) && decide (f.z = 0) && decide (f.m = 0) && decide (f.imm = 0) && decide (f.d = 0))] : List Bool).all id = true := by decide +kernel

end Ws

/-- The hypotheses of `StepRunsFront`: a queue with a command, and an empty one. -/
theorem test_meets_StepRunsFront : ({ State.reset with pending := [.snap, .gearStep] } : State).pending = .snap :: [.gearStep]
    ∧ State.reset.pending = [] := ⟨rfl, rfl⟩

/-- The hypotheses of `StepKeepsInterrupts`: from the reset state, asking for a domain. -/
theorem test_meets_StepKeepsInterrupts : ∃ t, ({ State.reset with pending := [.domainReqWrite 0x20] } : State).IrqOk
    ∧ step { State.reset with pending := [.domainReqWrite 0x20] } = .next t := by
  refine ⟨_, ?_, rfl⟩
  unfold State.IrqOk
  decide +kernel

/-- The hypothesis of `PinFollowsSources`: a command that ends in a next state. -/
theorem test_meets_PinFollowsSources : ∃ t, exec (.domainReqWrite 0x20) State.reset = .next t := ⟨_, rfl⟩

/-- The hypotheses of `StorageReadsWrites`: a field of the map, and a store in its canonical form. -/
theorem test_meets_StorageReadsWrites : (R.SYS_IRQ_CFG_PIN_EN.lo ≤ R.SYS_IRQ_CFG_PIN_EN.hi ∧ R.SYS_IRQ_CFG_PIN_EN.hi < 32)
    ∧ (s0.regs.wf = true ∧ s0.regs ≠ []) := by decide +kernel

end Sys2Proof.Tests
end

section
/-!
PROOFS. What an instruction that goes on to the next index leaves in FLAGS, the order of canonical binary32 words, and the comparisons
(R252, R256).
-/
namespace Sys2Proof.Machine

/-! What leaves the Spelt engine's own state as it is -/

section
variable (s : State) (n : Nat)

@[simp] theorem State.siloShow_spelt : (s.siloShow n).spelt = s.spelt := by
  unfold State.siloShow
  dsimp only
  split <;> rfl

@[simp] theorem State.siloOrphan_spelt : (s.siloOrphan n).spelt = s.spelt := by
  unfold State.siloOrphan State.countSat
  split <;> rfl

@[simp] theorem State.siloPktClose_spelt (w : Word) : (s.siloPktClose n w).2.spelt = s.spelt := by
  unfold State.siloPktClose
  dsimp only
  split
  · exact s.siloOrphan_spelt n
  · rw [State.siloShow_spelt]
    split <;> rfl

@[simp] theorem State.siloStopProducer_spelt : (s.siloStopProducer n).spelt = s.spelt := by
  unfold State.siloStopProducer
  split
  · rfl
  · rw [State.siloPktClose_spelt]
    rfl

@[simp] theorem State.laneSilos_spelt : (s.laneSilos n).spelt = s.spelt := by
  refine forN_same (·.spelt) _ _ (fun k t => ?_) s
  split
  · exact t.siloStopProducer_spelt k
  · rfl

@[simp] theorem State.speltShow_spelt : s.speltShow.spelt = s.spelt :=
  forN_same (fun t : State => t.spelt) 16 (fun k t => t.put (R.LANE_STATUS_SWAP_HELD k) _) (fun _ _ => rfl) _

@[simp] theorem State.setLaneState_spelt (v : Nat) : (s.setLaneState n v).spelt = s.spelt := by
  unfold State.setLaneState
  dsimp only
  rw [apply_ite State.spelt]
  split
  · rfl
  · rw [State.speltShow_spelt]
    split <;> simp only [State.put_spelt, State.raise_eq] <;> split <;> simp

@[simp] theorem State.laneHaltNow_spelt (cause bp : Nat) : (s.laneHaltNow n cause bp).spelt = s.spelt := s.setLaneState_spelt n 3

@[simp] theorem State.srcStopAt_spelt (id : Nat) (v : F32) : (s.srcStopAt id v).spelt = s.spelt := by
  unfold State.srcStopAt
  split
  · split <;> rfl
  · rfl

@[simp] theorem State.laneMute_spelt : (s.laneMute n).spelt = s.spelt :=
  foldl_same (·.spelt) _ (fun t _ => t.srcStopAt_spelt _ _) _ s

/-- A lane is read from the Spelt engine's own state alone. -/
theorem State.lane_congr {s t : State} (h : s.spelt = t.spelt) (n : Nat) : s.lane n = t.lane n := by
  simp only [State.lane, h]

/-! What leaves a lane's FLAGS as they are -/

@[simp] theorem State.laneHaltNow_flags (cause bp : Nat) : ((s.laneHaltNow n cause bp).lane n).flags = (s.lane n).flags := by
  rw [State.lane_congr (s.laneHaltNow_spelt n cause bp)]

@[simp] theorem State.laneQuit_flags : ((s.laneQuit n).lane n).flags = (s.lane n).flags := by
  unfold State.laneQuit
  rw [State.setLane_lane]
  rfl

@[simp] theorem State.laneTrap_flags (pc cause : Nat) : ((s.laneTrap n pc cause).lane n).flags = (s.lane n).flags := by
  unfold State.laneTrap State.laneFault
  rw [State.lane_congr (State.setLaneState_spelt _ n 4), State.laneQuit_flags, State.lane_congr (State.laneMute_spelt _ n)]
  rfl

theorem State.laneAt_flags (f : State → State) (hf : ∀ t : State, ((f t).lane n).flags = (t.lane n).flags) :
    ((s.laneAt n f).lane n).flags = (s.lane n).flags := by
  unfold State.laneAt
  split
  · split
    · exact s.laneHaltNow_flags n 2 _
    · rw [hf, State.setLane_lane]
  · rfl

@[simp] theorem State.laneStepped_flags : ((s.laneStepped n).lane n).flags = (s.lane n).flags := by
  unfold State.laneStepped
  split
  · rw [State.laneHaltNow_flags, State.setLane_lane]
  · rfl

/-- Neither the end of a STEP, nor a breakpoint, nor a trap at the end of the code changes FLAGS. -/
@[simp] theorem State.laneAfter_flags : ((s.laneAfter n).lane n).flags = (s.lane n).flags := by
  unfold State.laneAfter
  rw [State.laneAt_flags, State.laneStepped_flags]
  intro t
  split
  · rfl
  · exact t.laneTrap_flags n _ 3

@[simp] theorem State.laneGo_seq_flags (o : Op) (i : Insn) (t stall : Nat) :
    ((s.laneGo n o i t stall .seq).lane n).flags = (s.lane n).flags := by
  simp only [State.laneGo, State.setLane_lane, Op.account]

/-! Issue of an instruction that goes on to the next index (R268) -/

/-- The state in which a lane's instruction runs: the breakpoint that it passed can halt the lane again (R239). -/
def State.laneReady (s : State) (n : Nat) : State := s.setLane n { s.lane n with pastBp := false }

@[simp] theorem State.laneReady_sc (r : Nat) : ((s.laneReady n).lane n).sc r = (s.lane n).sc r := by
  unfold State.laneReady
  rw [State.setLane_lane]
  rfl

theorem State.laneAt_of_canIssue (h : s.CanIssue n) (f : State → State) : s.laneAt n f = f (s.laneReady n) := by
  obtain ⟨hrun, hwait, -, hbp⟩ := h
  have hgo : (if (s.lane n).pastBp || s.dbgOff then none else s.bpHit n) = none := by
    split
    · rfl
    · next hno => simpa [hno] using hbp
  unfold State.laneAt
  rw [if_pos (by simp [hrun, hwait]), hgo]
  rfl

theorem State.laneIssue_of_seq {o : Op} {i : Insn} {u : State} (hok : o.fieldsOk i = true) (hrun : o.run n i s = (.seq, u)) :
    s.laneIssue n o i = u.laneGo n o i (o.issueAt (s.lane n) i) 0 .seq := by
  simp only [State.laneIssue, hok, hrun, Bool.not_true, Bool.false_eq_true, if_false]

/-- A lane that issues an instruction which goes on to the next index ends with the FLAGS that the operation left. -/
theorem State.issueRow_flags_of_seq {op : Nat} {o : Op} {f : InsnFields} {u : State} (hcan : s.CanIssue n)
    (hok : o.fieldsOk (insnOf op f) = true) (hrun : o.run n (insnOf op f) (s.laneReady n) = (.seq, u)) :
    ((s.issueRow n op o f).lane n).flags = (u.lane n).flags := by
  unfold State.issueRow
  rw [if_pos hcan.2.2.1, s.laneAt_of_canIssue n hcan, State.laneAfter_flags, State.laneIssue_of_seq _ n hok hrun,
    State.laneGo_seq_flags]

end

/-! The flags of a comparison (R256) -/

theorem Lane.flag_setFlag (l : Lane) {b : Nat} (hb : b < 32) (on : Bool) (c : Nat) :
    (l.setFlag b on).flag c = if c = b then on else l.flag c := by
  have hbit : (BitVec.ofNat 32 (2 ^ b)).getLsbD c = decide (c = b) := by
    rw [BitVec.getLsbD_ofNat, Nat.testBit_two_pow, Bool.eq_iff_iff]
    simp only [Bool.and_eq_true, decide_eq_true_eq]
    omega
  unfold Lane.setFlag Lane.flag
  cases on
  · simp only [Bool.false_eq_true, if_false, BitVec.getLsbD_and, BitVec.getLsbD_not, hbit]
    by_cases hc : c = b
    · simp [hc]
    · have hlt : l.flags.getLsbD c = true → c < 32 := BitVec.lt_of_getLsbD
      rw [Bool.eq_iff_iff]
      simpa [hc] using hlt
  · simp only [if_true, BitVec.getLsbD_or, hbit]
    by_cases hc : c = b <;> simp [hc]

section
variable (l : Lane) (z ng nv : Bool)

@[simp] theorem Lane.compare_zero : (l.compare z ng nv).flag 0 = z := by
  cases nv <;> simp [Lane.compare, Lane.flag_setFlag]

@[simp] theorem Lane.compare_negative : (l.compare z ng nv).flag 1 = ng := by
  cases nv <;> simp [Lane.compare, Lane.flag_setFlag]

@[simp] theorem Lane.compare_invalid : (l.compare z ng true).flag 8 = true := by
  simp [Lane.compare, Lane.flag_setFlag]

end

/-- An instruction that names two scalars and nothing else has the fields R245 asks for. -/
theorem Op.fieldsOk_of_two_scalars {o : Op} {op : Nat} {f : InsnFields} (hd : o.d = .none) (ha : o.a = .sc) (hb : o.b = .sc)
    (hi : o.imm = .none) (hbad : ∀ i, o.bad i = false) (fz : f.z = 0) (fm : f.m = 0) (fi : f.imm = 0) (fd : f.d = 0) :
    o.fieldsOk (insnOf op f) = true := by
  simp [Op.fieldsOk, insnOf, RegKind.ok, ImmShape.ok, hd, ha, hb, hi, hbad, fz, fm, fi, fd]

/-- A command that has a lane issue a comparison sets Z and N as the comparison says, and NV where an operand is NaN. -/
theorem gives_comparison {c : Instr} {s : State} {n op : Nat} {o : Op} {f : InsnFields} {z ng nv : Bool}
    (hc : exec c s = finish (s.issueRow n op o f)) (hcan : s.CanIssue n) (hok : o.fieldsOk (insnOf op f) = true)
    (hrun : o.run n (insnOf op f) (s.laneReady n)
      = (.seq, (s.laneReady n).setLane n (((s.laneReady n).lane n).compare z ng nv))) :
    Gives c s (fun t => (t.lane n).flag 0 = z ∧ (t.lane n).flag 1 = ng ∧ (nv = true → (t.lane n).flag 8 = true)) := by
  refine ⟨_, hc, ?_⟩
  have hflags := s.issueRow_flags_of_seq n hcan hok hrun
  rw [State.setLane_lane] at hflags
  dsimp only
  rw [State.lane_congr (State.settleIrq_spelt _)]
  unfold Lane.flag
  rw [hflags]
  refine ⟨Lane.compare_zero _ z ng nv, Lane.compare_negative _ z ng nv, ?_⟩
  rintro rfl
  exact Lane.compare_invalid _ z ng

/-! The order of canonical words (R252, R256) -/

/-- The magnitude of an operand, in units of 2^-150. -/
def FOp.size (o : FOp) : Nat := o.m <<< (o.e + 150).toNat

/-- The number whose sign and magnitude are given. -/
def signed (neg : Bool) (p : Nat) : Int := if neg then -(p : Int) else p

theorem flt_eq_signed (a b : F32) :
    flt a b = decide (signed (fop a).neg (fop a).size < signed (fop b).neg (fop b).size) := rfl

/-- The magnitude of a word whose low 31 bits are `p`, in units of 2^-150: exponent and fraction as binary32 reads them, with
nothing between 0 and the least normal number. -/
def magnitude (p : Nat) : Nat := if p < 2 ^ 23 then 0 else (2 ^ 23 + p % 2 ^ 23) * 2 ^ (p / 2 ^ 23)

/-- Normal magnitudes are ordered as their bits: first by the exponent, then by the fraction. -/
theorem magnitude_lt_of_lt {p q : Nat} (hpq : p < q) (hq : 2 ^ 23 ≤ q) : magnitude p < magnitude q := by
  have hpos (k : Nat) : 0 < 2 ^ k := Nat.two_pow_pos k
  unfold magnitude
  rw [if_neg (by omega : ¬ q < 2 ^ 23)]
  split
  · exact Nat.mul_pos (by omega) (hpos _)
  · rcases Nat.lt_or_eq_of_le (Nat.div_le_div_right (c := 2 ^ 23) (Nat.le_of_lt hpq)) with hexp | hexp
    · calc (2 ^ 23 + p % 2 ^ 23) * 2 ^ (p / 2 ^ 23) < (2 ^ 23 * 2) * 2 ^ (p / 2 ^ 23) :=
            Nat.mul_lt_mul_of_pos_right (by omega) (hpos _)
        _ = 2 ^ 23 * 2 ^ (p / 2 ^ 23 + 1) := by rw [Nat.mul_assoc, Nat.mul_comm 2, ← Nat.pow_succ]
        _ ≤ (2 ^ 23 + q % 2 ^ 23) * 2 ^ (q / 2 ^ 23) :=
            Nat.mul_le_mul (by omega) (Nat.pow_le_pow_right (by omega) hexp)
    · rw [hexp]
      exact Nat.mul_lt_mul_of_pos_right (by omega) (hpos _)

/-- The magnitudes a canonical word has: zero, and those of normal numbers. -/
abbrev CanonMag (p : Nat) : Prop := p = 0 ∨ 2 ^ 23 ≤ p

theorem magnitude_lt_iff {p q : Nat} (hp : CanonMag p) (hq : CanonMag q) : magnitude p < magnitude q ↔ p < q := by
  constructor
  · intro h
    rcases Nat.lt_trichotomy p q with hlt | rfl | hgt
    · exact hlt
    · omega
    · have hrev := magnitude_lt_of_lt hgt (by omega)
      omega
  · intro h
    exact magnitude_lt_of_lt h (by omega)

theorem magnitude_pos_iff {p : Nat} (hp : CanonMag p) : 0 < magnitude p ↔ 0 < p :=
  magnitude_lt_iff (Or.inl rfl) hp

/-- Reading magnitudes as plain bits keeps the order with signs too: a zero of either sign stands between the rest. -/
theorem signed_magnitude_lt_iff {p q : Nat} (hp : CanonMag p) (hq : CanonMag q) (neg neg' : Bool) :
    signed neg (magnitude p) < signed neg' (magnitude q) ↔ signed neg p < signed neg' q := by
  have hlt := magnitude_lt_iff hp hq
  have hgt := magnitude_lt_iff hq hp
  have hp0 := magnitude_pos_iff hp
  have hq0 := magnitude_pos_iff hq
  unfold signed
  split <;> split <;> omega

theorem and_signBit (w : F32) : w &&& 0x80000000 = fzero (w.getLsbD 31) := BitVec.and_twoPow w 31

theorem exponent_toNat (w : F32) : (w.extractLsb' 23 8).toNat = w.toNat / 2 ^ 23 % 256 := by
  rw [BitVec.extractLsb'_toNat, Nat.shiftRight_eq_div_pow]

theorem fraction_toNat (w : F32) : (w.extractLsb' 0 23).toNat = w.toNat % 2 ^ 23 := by
  rw [BitVec.extractLsb'_toNat, Nat.shiftRight_zero]

/-- The low 31 bits of a word. -/
def lowBits (w : F32) : Nat := w.toNat % 2 ^ 31

theorem toNat_eq_lowBits (w : F32) : w.toNat = (if w.msb then 2 ^ 31 else 0) + lowBits w := by
  rw [BitVec.msb_eq_decide, lowBits]
  simp only [decide_eq_true_eq]
  split <;> omega

theorem lowBits_lt (w : F32) : lowBits w < 2 ^ 31 := Nat.mod_lt _ (by decide)

/-- An operand agrees with a word: it has the word's sign, and the magnitude of the word's low bits, which is canonical. -/
structure FOp.Matches (o : FOp) (c : F32) : Prop where
  sign : o.neg = c.msb
  canon : CanonMag (lowBits c)
  size : o.size = magnitude (lowBits c)

theorem matches_zero (neg : Bool) : FOp.Matches { neg } (fzero neg) := by
  cases neg <;> exact ⟨by decide, by decide, by decide⟩

/-- An infinity counts as the largest magnitude. -/
theorem matches_largest (neg : Bool) : FOp.Matches { neg, m := 2 ^ 24 - 1, e := 104 } (fzero neg ||| 0x7F7FFFFF) := by
  have hlow : lowBits (fzero neg ||| 0x7F7FFFFF) = 0x7F7FFFFF := by cases neg <;> decide
  refine ⟨by cases neg <;> decide, by rw [hlow]; decide, ?_⟩
  rw [hlow]
  cases neg <;> decide

theorem matches_normal (w : F32) (h0 : (w.extractLsb' 23 8).toNat ≠ 0) :
    FOp.Matches
      { neg := w.getLsbD 31, m := 2 ^ 23 + (w.extractLsb' 0 23).toNat, e := ((w.extractLsb' 23 8).toNat : Int) - 150 } w := by
  rw [exponent_toNat] at h0
  have hmag : 2 ^ 23 ≤ lowBits w := by unfold lowBits; omega
  have hexp : lowBits w / 2 ^ 23 = w.toNat / 2 ^ 23 % 256 := by unfold lowBits; omega
  have hfrac : lowBits w % 2 ^ 23 = w.toNat % 2 ^ 23 := by unfold lowBits; omega
  refine ⟨rfl, Or.inr hmag, ?_⟩
  rw [magnitude, if_neg (Nat.not_lt.mpr hmag), hexp, hfrac, FOp.size, exponent_toNat, fraction_toNat, Nat.shiftLeft_eq,
    Int.sub_add_cancel, Int.toNat_natCast]

/-- A number as an operand agrees with its canonical word. -/
theorem fop_matches_canon32 {w : F32} (hw : isNaN32 w = false) : (fop w).Matches (canon32 w) := by
  by_cases hinf : (w.extractLsb' 23 8).toNat = 255
  · have hfrac : (w.extractLsb' 0 23).toNat = 0 := by
      have hexp : w.extractLsb' 23 8 = 0xFF := BitVec.eq_of_toNat_eq hinf
      have hzero : w.extractLsb' 0 23 = 0 := by
        simpa only [isNaN32, hexp, beq_self_eq_true, Bool.true_and, bne_eq_false_iff_eq] using hw
      rw [hzero]
      rfl
    simp only [fop, canon32, hinf, hfrac, if_true, and_signBit]
    exact matches_largest _
  · by_cases hzero : (w.extractLsb' 23 8).toNat = 0
    · simp only [fop, canon32, hzero, if_true, and_signBit, (by decide : ¬ (0 : Nat) = 255), if_false]
      exact matches_zero _
    · simp only [fop, canon32, hinf, hzero, if_false]
      exact matches_normal w hzero

/-- Both words are zeros, of whatever signs. -/
theorem or_shiftLeft_eq_zero_iff (a b : F32) : (a ||| b) <<< 1 = 0 ↔ lowBits a = 0 ∧ lowBits b = 0 := by
  have hz (w : F32) : w <<< 1 = 0 ↔ lowBits w = 0 := by
    rw [← BitVec.toNat_inj, BitVec.toNat_shiftLeft, Nat.shiftLeft_eq, lowBits]
    simp only [BitVec.ofNat_eq_ofNat, BitVec.toNat_ofNat]
    omega
  rw [BitVec.shiftLeft_or_distrib, ← hz a, ← hz b]
  exact BitVec.or_eq_zero_iff

/-- The number that a word's bits spell as sign and magnitude. -/
def bitOrder (w : F32) : Int := signed w.msb (lowBits w)

theorem bitOrder_eq_iff (a b : F32) : bitOrder a = bitOrder b ↔ a = b ∨ (a ||| b) <<< 1 = 0 := by
  have ha := lowBits_lt a
  have hb := lowBits_lt b
  rw [or_shiftLeft_eq_zero_iff, ← BitVec.toNat_inj, toNat_eq_lowBits a, toNat_eq_lowBits b]
  unfold bitOrder signed
  split <;> split <;> omega

theorem bitOrder_lt_iff (a b : F32) :
    bitOrder a < bitOrder b ↔
      (if a.msb then (if b.msb then b.ult a else decide ((a ||| b) <<< 1 ≠ 0)) else !b.msb && a.ult b) = true := by
  simp only [bitOrder, signed, ne_eq, or_shiftLeft_eq_zero_iff, BitVec.ult, toNat_eq_lowBits a, toNat_eq_lowBits b]
  cases a.msb with
  | false =>
    cases b.msb with
    | false => simp
    | true => simp
  | true =>
    cases b.msb with
    | false =>
      have hzeros : -(lowBits a : Int) < lowBits b ↔ lowBits a ≠ 0 ∨ lowBits b ≠ 0 := by omega
      simpa using hzeros
    | true => simp

/-- Numbers are ordered as the bits of their canonical words. -/
theorem flt_eq_bitOrder {x y : F32} (hx : isNaN32 x = false) (hy : isNaN32 y = false) :
    flt x y = decide (bitOrder (canon32 x) < bitOrder (canon32 y)) := by
  obtain ⟨hxsign, hxcanon, hxsize⟩ := fop_matches_canon32 hx
  obtain ⟨hysign, hycanon, hysize⟩ := fop_matches_canon32 hy
  rw [flt_eq_signed, hxsign, hysign, hxsize, hysize]
  exact decide_eq_decide.mpr (signed_magnitude_lt_iff hxcanon hycanon _ _)

/-- Neither of two numbers is the smaller just where the bits of their canonical words stand level. -/
theorem not_flt_eq_bitOrder {x y : F32} (hx : isNaN32 x = false) (hy : isNaN32 y = false) :
    (!flt x y && !flt y x) = decide (bitOrder (canon32 x) = bitOrder (canon32 y)) := by
  rw [flt_eq_bitOrder hx hy, flt_eq_bitOrder hy hx, Bool.eq_iff_iff]
  simp only [Bool.and_eq_true, Bool.not_eq_true', decide_eq_false_iff_not, decide_eq_true_eq]
  omega

/-! SCMP and SICMP -/

section
variable {n : Fin 16} {f : InsnFields} {s : State} (hcan : s.CanIssue n) (fz : f.z = 0) (fm : f.m = 0) (fi : f.imm = 0) (fd : f.d = 0)
include hcan fz fm fi fd

theorem gives_scmp {nan : Bool} (hnan : (isNaN32 ((s.lane n).sc f.a.toNat) || isNaN32 ((s.lane n).sc f.b.toNat)) = nan) :
    Gives (.iScmp n f) s (fun t =>
      (t.lane n).flag 0 = (!nan && !flt ((s.lane n).sc f.a.toNat) ((s.lane n).sc f.b.toNat)
        && !flt ((s.lane n).sc f.b.toNat) ((s.lane n).sc f.a.toNat))
      ∧ (t.lane n).flag 1 = (!nan && flt ((s.lane n).sc f.a.toNat) ((s.lane n).sc f.b.toNat))
      ∧ (nan = true → (t.lane n).flag 8 = true)) := by
  subst hnan
  refine gives_comparison (o := opScmp) rfl hcan (Op.fieldsOk_of_two_scalars rfl rfl rfl rfl (fun _ => rfl) fz fm fi fd) ?_
  simp only [opScmp, insnOf, State.laneReady_sc]

theorem gives_sicmp :
    Gives (.iSicmp n f) s (fun t =>
      (t.lane n).flag 0 = ((s.lane n).sc f.a.toNat == (s.lane n).sc f.b.toNat)
      ∧ (t.lane n).flag 1 = decide (((s.lane n).sc f.a.toNat).toInt < ((s.lane n).sc f.b.toNat).toInt)) := by
  have hrun : opSicmp.run n (insnOf 0x2C f) (s.laneReady n) = (.seq, (s.laneReady n).setLane n (((s.laneReady n).lane n).compare
      ((s.lane n).sc f.a.toNat == (s.lane n).sc f.b.toNat)
      (decide (((s.lane n).sc f.a.toNat).toInt < ((s.lane n).sc f.b.toNat).toInt)) false)) := by
    simp only [opSicmp, insnOf, State.laneReady_sc]
  obtain ⟨t, ht, hz, hn, -⟩ := gives_comparison (c := .iSicmp n f) rfl hcan
    (Op.fieldsOk_of_two_scalars rfl rfl rfl rfl (fun _ => rfl) fz fm fi fd) hrun
  exact ⟨t, ht, hz, hn⟩

end

/-- Settles O60: an instruction that goes on keeps the flags its operation left, and numbers are ordered as their canonical words. -/
theorem comparisonsSetFlags : Obligations.ComparisonsSetFlags := by
  refine ⟨?_, ?_, ?_⟩
  · rintro n f _ _ s hcan fz fm fi fd rfl rfl hx hy
    obtain ⟨t, ht, hz, hn, -⟩ := gives_scmp hcan fz fm fi fd (nan := false) (by rw [hx, hy]; rfl)
    refine ⟨t, ht, ?_, ?_⟩
    · exact hz.trans ((not_flt_eq_bitOrder hx hy).trans (decide_eq_decide.mpr (bitOrder_eq_iff _ _)))
    · rw [hn, Bool.not_false, Bool.true_and, flt_eq_bitOrder hx hy, Bool.eq_iff_iff, decide_eq_true_eq, bitOrder_lt_iff]
  · intro n f s hcan fz fm fi fd hnan
    obtain ⟨t, ht, hz, hn, hnv⟩ := gives_scmp hcan fz fm fi fd hnan
    exact ⟨t, ht, hz, hn, hnv rfl⟩
  · intro n f s hcan fz fm fi fd
    obtain ⟨t, ht, hz, hn⟩ := gives_sicmp hcan fz fm fi fd
    refine ⟨t, ht, ?_, hn⟩
    rw [hz, Bool.eq_iff_iff, beq_iff_eq, decide_eq_true_eq, BitVec.toInt_inj]

end Sys2Proof.Machine
end

section
/-!
PROOFS. What the consumer of a silo sees (R278, R290): which silo operations change it, and how a packet's close does.
-/
namespace Sys2Proof.Machine

/-! Packed words -/

/-- Packing pads the last word (R275). -/
@[simp] theorem length_packWords (bs : List (BitVec 8)) : (packWords bs).length = (bs.length + 3) / 4 := by
  fun_induction packWords bs with
  | case5 a b c d t ih =>
    simp only [List.length_cons, ih]
    omega
  | _ => simp

@[simp] theorem length_markLast (trunc : Bool) (ws : List SiloWord) : (markLast trunc ws).length = ws.length := by
  fun_induction markLast trunc ws with
  | case3 w t _ ih => simp only [List.length_cons, ih]
  | _ => rfl

/-! The consumer's view -/

/-- What the consumer of a silo sees: the visible words, and the registers IN_CNT and VIS. -/
structure SiloView where
  words : List SiloWord
  inCnt : Nat
  vis : Nat

/-- The view with VIS brought to the visible words. -/
def SiloView.shown (v : SiloView) : SiloView := { v with vis := 4 * v.words.length % 2 ^ 32 }

/-- The view after the words `ws` have become visible, VIS not yet brought to them. -/
def SiloView.extend (v : SiloView) (ws : List SiloWord) : SiloView :=
  { v with words := v.words ++ ws, inCnt := (v.inCnt + 4 * ws.length) % 2 ^ 32 }

/-- What the consumer of silo `n` sees. -/
def State.siloView (s : State) (n : Nat) : SiloView :=
  { words := (s.silo n).words, inCnt := s.get (R.SILO_S_IN_CNT_COUNT n), vis := s.get (R.SILO_S_VIS_VIS n) }

section
variable (s : State) (n : Nat)

theorem siloInCnt_ok : (R.SILO_S_IN_CNT_COUNT n).Ok := ⟨Nat.zero_le 31, Nat.lt_succ_self 31⟩

theorem siloVis_ok : (R.SILO_S_VIS_VIS n).Ok := ⟨Nat.zero_le 31, Nat.lt_succ_self 31⟩

@[simp] theorem State.put_silo (f : Field) (v k : Nat) : (s.put f v).silo k = s.silo k := rfl

/-- A field outside IN_CNT and VIS is not part of the view. -/
theorem State.siloView_put {f : Field} (v : Nat) (hin : R.SILO_S_IN_CNT n ≠ f.addr) (hvis : R.SILO_S_VIS n ≠ f.addr) :
    (s.put f v).siloView n = s.siloView n := by
  simp only [State.siloView, State.put_silo, s.get_put_reg (R.SILO_S_IN_CNT_COUNT n) f v hin, s.get_put_reg (R.SILO_S_VIS_VIS n) f v hvis]

/-- Of a silo's own state the view takes the visible words alone. -/
theorem State.siloView_setSilo {q : SiloQ} (h : q.words = (s.silo n).words) : (s.setSilo n q).siloView n = s.siloView n := by
  simp only [State.siloView, State.setSilo_silo, h]
  rfl

@[simp] theorem State.siloView_siloGrow (k : Nat) : (s.siloGrow n k).siloView n = s.siloView n := s.siloView_setSilo n rfl

@[simp] theorem State.siloView_siloSettle : (s.siloSettle n).siloView n = s.siloView n := s.siloView_setSilo n rfl

@[simp] theorem State.siloView_siloVisible (ws : List SiloWord) :
    (s.siloVisible n ws).siloView n = (s.siloView n).extend ws := by
  have hvis : (R.SILO_S_VIS_VIS n).addr ≠ (R.SILO_S_IN_CNT_COUNT n).addr := mt Nat.add_right_cancel (by decide)
  simp only [State.siloView, SiloView.extend, State.siloVisible, State.put_silo, State.setSilo_silo, State.get_put_reg _ _ _ _ hvis,
    State.get_put_same _ _ (siloInCnt_ok n)]
  rfl

theorem State.siloView_put_vis (v : Nat) :
    (s.put (R.SILO_S_VIS_VIS n) v).siloView n = { s.siloView n with vis := v % 2 ^ 32 } := by
  have hin : (R.SILO_S_IN_CNT_COUNT n).addr ≠ (R.SILO_S_VIS_VIS n).addr := mt Nat.add_right_cancel (by decide)
  simp only [State.siloView, State.put_silo, s.get_put_reg _ _ _ hin, s.get_put_same _ (siloVis_ok n)]
  rfl

@[simp] theorem State.siloView_siloShow : (s.siloShow n).siloView n = (s.siloView n).shown := by
  have hshown : (s.siloView n).shown = (s.put (R.SILO_S_VIS_VIS n) (4 * (s.silo n).words.length)).siloView n :=
    (s.siloView_put_vis n _).symm
  rw [hshown]
  unfold State.siloShow
  dsimp only
  generalize s.put (R.SILO_S_VIS_VIS n) (4 * (s.silo n).words.length) = x
  split <;> simp (disch := exact mt Nat.add_right_cancel (by decide)) only [State.raise_eq, State.siloView_put]

theorem State.siloView_countSat {f : Field} (hin : R.SILO_S_IN_CNT n ≠ f.addr) (hvis : R.SILO_S_VIS n ≠ f.addr) :
    (s.countSat f).siloView n = s.siloView n := by
  unfold State.countSat
  split
  · exact s.siloView_put n _ hin hvis
  · rfl

@[simp] theorem State.siloView_siloOrphan : (s.siloOrphan n).siloView n = s.siloView n := by
  unfold State.siloOrphan
  simp (disch := exact mt Nat.add_right_cancel (by decide)) only [State.raise_eq, State.siloView_put, State.siloView_countSat]

@[simp] theorem State.siloView_siloRefuse (k : Nat) : (s.siloRefuse n k).siloView n = s.siloView n := by
  unfold State.siloRefuse
  dsimp only
  split <;> simp (disch := exact mt Nat.add_right_cancel (by decide)) only
    [State.raise_eq, State.count_eq, State.siloView_put, State.siloView_countSat]

/-! What the bookkeeping leaves of a silo's own state -/

@[simp] theorem State.siloShow_silos : (s.siloShow n).silos = s.silos := by
  unfold State.siloShow
  dsimp only
  split <;> rfl

@[simp] theorem State.siloShow_silo (k : Nat) : (s.siloShow n).silo k = s.silo k := by
  simp only [State.silo, State.siloShow_silos]

@[simp] theorem State.siloGrow_pkt (k : Nat) : ((s.siloGrow n k).silo n).pkt = (s.silo n).pkt := by
  simp only [State.siloGrow, State.setSilo_silo]

@[simp] theorem State.siloSettle_pkt : ((s.siloSettle n).silo n).pkt = (s.silo n).pkt := by
  simp only [State.siloSettle, State.setSilo_silo]

@[simp] theorem State.siloVisible_pkt (ws : List SiloWord) : ((s.siloVisible n ws).silo n).pkt = (s.silo n).pkt := by
  simp only [State.siloVisible, State.put_silo, State.setSilo_silo]

/-! A packet's close, its data and its open (R277, R278) -/

/-- The words of a packet that closes: header, header word 1 and payload. -/
def SiloPkt.closedWords (p : SiloPkt) (user : Word) : List SiloWord :=
  markLast p.trunc ({ data := pktHeader p } :: { data := user } :: packWords p.bytes)

@[simp] theorem SiloPkt.length_closedWords (p : SiloPkt) (user : Word) : (p.closedWords user).length = (p.bytes.length + 3) / 4 + 2 := by
  simp only [SiloPkt.closedWords, length_markLast, List.length_cons, length_packWords]

theorem State.siloPktClose_of_pkt {p : SiloPkt} (user : Word) (hp : (s.silo n).pkt = some p) :
    (s.siloPktClose n user).2.siloView n = ((s.siloView n).extend (p.closedWords user)).shown
      ∧ ((s.siloPktClose n user).2.silo n).pkt = none := by
  have hraise : (if p.trunc then s.raise (R.SILO_S_EVENT_TRUNC n) else s).siloView n = s.siloView n := by
    split
    · exact s.siloView_put n 1 (mt Nat.add_right_cancel (by decide)) (mt Nat.add_right_cancel (by decide))
    · rfl
  simp only [State.siloPktClose, hp]
  revert hraise
  generalize (if p.trunc then s.raise (R.SILO_S_EVENT_TRUNC n) else s) = x
  intro hraise
  constructor
  · rw [State.siloView_siloShow, State.siloView_siloSettle, State.siloView_siloVisible, State.siloView_siloGrow,
      State.siloView_setSilo, hraise]
    · rfl
    · exact (congrArg SiloView.words hraise).symm
  · simp only [State.siloShow_silo, State.siloSettle_pkt, State.siloVisible_pkt, State.siloGrow_pkt, State.setSilo_silo]

/-- `t` shows the consumer of silo `n` what `s` does, but that VIS may have been brought to the visible words. -/
def State.ShowsSame (s t : State) (n : Nat) : Prop := t.siloView n = s.siloView n ∨ t.siloView n = (s.siloView n).shown

/-- Where VIS stands at the visible words already, bringing it to them changes nothing. -/
theorem State.view_of_showsSame {t : State} (h : s.ShowsSame t n) :
    (t.silo n).words = (s.silo n).words ∧ t.get (R.SILO_S_IN_CNT_COUNT n) = s.get (R.SILO_S_IN_CNT_COUNT n)
      ∧ (s.get (R.SILO_S_VIS_VIS n) = 4 * (s.silo n).words.length → t.get (R.SILO_S_VIS_VIS n) = s.get (R.SILO_S_VIS_VIS n)) := by
  rcases h with h | h
  · exact ⟨congrArg SiloView.words h, congrArg SiloView.inCnt h, fun _ => congrArg SiloView.vis h⟩
  · refine ⟨congrArg SiloView.words h, congrArg SiloView.inCnt h, fun hvis => (congrArg SiloView.vis h).trans ?_⟩
    have hlt : s.get (R.SILO_S_VIS_VIS n) < 2 ^ 32 := Field.ofWord_lt _ (siloVis_ok n) _
    exact (congrArg (· % 2 ^ 32) hvis.symm).trans (Nat.mod_eq_of_lt hlt)

/-- In packet mode a data write shows the consumer nothing, whether it is taken, refused or ignored. -/
theorem State.siloData_showsSame (bs : List (BitVec 8)) (need : Nat) (hmode : s.flag (R.SILO_S_CFG_PKT_MODE n) = true) :
    s.ShowsSame (s.siloData n bs need).2 n := by
  simp only [State.siloData, hmode, if_true]
  split
  · exact .inl (s.siloView_siloOrphan n)
  · split
    · exact .inl rfl
    · split
      · right
        rw [State.siloView_siloShow, State.siloView_siloSettle, State.siloView_siloGrow, State.siloView_setSilo]
        rfl
      · right
        have hrefuse := s.siloView_siloRefuse n bs.length
        rw [State.siloView_siloShow, State.siloView_setSilo, hrefuse]
        exact (congrArg SiloView.words hrefuse).symm

/-- An open shows the consumer nothing, whether it is accepted, refused or an orphan. -/
theorem State.siloPktOpen_showsSame : s.ShowsSame (s.siloPktOpen n).2 n := by
  unfold State.siloPktOpen
  dsimp only
  split
  · exact .inl (s.siloView_siloOrphan n)
  · have hseq (v : Nat) : (s.put (R.SILO_S_SEQ_NEXT n) v).siloView n = s.siloView n :=
      s.siloView_put n v (mt Nat.add_right_cancel (by decide)) (mt Nat.add_right_cancel (by decide))
    split
    · right
      rw [State.siloView_siloShow, State.siloView_siloSettle, State.siloView_siloGrow, State.siloView_setSilo, hseq]
      rfl
    · left
      rw [State.siloView_setSilo, State.count_eq, State.siloView_put, hseq]
      · exact mt Nat.add_right_cancel (by decide)
      · exact mt Nat.add_right_cancel (by decide)
      · rfl

end

/-- Settles O34: a close extends the consumer's view by the whole packet at once; data and opens leave the view as it was. -/
theorem packetsBecomeVisible : Obligations.PacketsBecomeVisible := by
  refine ⟨?_, ?_, ?_⟩
  · rintro n p user s _ hp rfl
    obtain ⟨hview, hpkt⟩ := s.siloPktClose_of_pkt n user hp
    refine ⟨congrArg SiloView.words hview, hpkt, (congrArg SiloView.inCnt hview).trans ?_,
      fun hvis => (congrArg SiloView.vis hview).trans ?_⟩
    · simp only [SiloView.shown, SiloView.extend, SiloPkt.length_closedWords, State.siloView]
      omega
    · simp only [SiloView.shown, SiloView.extend, List.length_append, SiloPkt.length_closedWords, State.siloView, hvis]
      omega
  · rintro n bs need s _ hmode rfl
    exact s.view_of_showsSame n (s.siloData_showsSame n bs need hmode)
  · rintro n s _ rfl
    exact s.view_of_showsSame n (s.siloPktOpen_showsSame n)

end Sys2Proof.Machine
end

section
/-!
PROOFS. A pilot's measured resistance and the load events of its channel (R361 to R363).
-/
namespace Sys2Proof.Machine

/-- Raising one bit of a field sets that bit and leaves the field's other bits. -/
theorem State.flag_raise_bit (s : State) (f : Field) {b c : Nat} (hb : f.lo + b < 32) (hc : f.lo + c < 32) :
    (s.raise (f.bit b)).flag (f.bit c) = (s.flag (f.bit c) || c == b) := by
  by_cases hcb : c = b
  · subst hcb
    rw [s.flag_raise (f.bit c) ⟨Nat.le_refl _, hc⟩, beq_self_eq_true, Bool.or_true]
  · have hapart : (f.bit b).Apart (f.bit c) := by
      simp only [Field.Apart, Field.bit]
      omega
    have hget := s.get_put_field (f.bit c) (f.bit b) 1 rfl ⟨Nat.le_refl _, hc⟩ ⟨Nat.le_refl _, hb⟩ hapart
    simp [State.flag, hget, hcb]

/-! What R362 speaks of -/

/-- What R362 speaks of in a channel: its nominal resistance, its two load events and its state. -/
structure LoadView where
  nominal : F32
  openLoad : Bool
  lowLoad : Bool
  state : Nat

/-- The view after event `b` of the channel. -/
def LoadView.event (v : LoadView) (b : Nat) : LoadView :=
  { v with openLoad := v.openLoad || 9 == b, lowLoad := v.lowLoad || 10 == b }

/-- The view after a resistance `re` is measured. -/
def LoadView.measured (v : LoadView) (re : F32) : LoadView :=
  { v with
    openLoad := v.openLoad || flt (fmul 0x40800000 v.nominal).v re
    lowLoad := v.lowLoad || flt re (fmul 0x3F000000 v.nominal).v }

/-- What R362 speaks of in channel `p`. -/
def State.loadView (s : State) (p : Nat) : LoadView :=
  { nominal := s.rd (R.PSC_RE_NOM p)
    openLoad := s.flag ((R.PSC_EVENT_EVENT p).bit 9)
    lowLoad := s.flag ((R.PSC_EVENT_EVENT p).bit 10)
    state := s.psState p }

/-- The load events as a measured resistance `re` sets them (R362). -/
def State.loadEvents (s : State) (p : Nat) (nom re : F32) : State :=
  let s := if flt (fmul 0x40800000 nom).v re then s.psEvent p 9 else s
  if flt re (fmul 0x3F000000 nom).v then s.psEvent p 10 else s

/-- The coil temperature that follows from a measured resistance `re` (R363). -/
def State.coilMeasured (s : State) (p : Nat) (nom re : F32) : State :=
  if s.flag (R.PSC_CFG_TLIM_EN p) then
    let q := s.quot re nom
    let rise := (fdiv (fsub q.1 0x3F800000).v (alphaOf (q.2.flag (R.PSC_THERM_CFG_MATERIAL p)))).v
    let t := (fadd (fofInt (q.2.get (R.PSC_THERM_CFG_T_REF p) : Nat)) rise).v
    let was := fscaled (q.2.rd (R.PSC_T_COIL p)) 16
    let lim : Int := (q.2.get (R.PSC_THERM_CFG_T_LIM p) : Nat) * 2 ^ 16
    let s := q.2.wr (R.PSC_T_COIL p) t
    if was < lim ∧ lim ≤ fscaled t 16 then s.psEvent p 12 else s
  else s

section
variable (s : State) (p : Nat)

theorem State.loadView_congr {s t : State} (h : s.regs = t.regs) : s.loadView p = t.loadView p := by
  simp only [State.loadView, State.flag, State.psState, State.rd_congr h, State.get_congr h]

theorem State.loadView_wr {a : Nat} (w : Word) (hnom : R.PSC_RE_NOM p ≠ a) (hevent : R.PSC_EVENT p ≠ a) (hstatus : R.PSC_STATUS p ≠ a) :
    (s.wr a w).loadView p = s.loadView p := by
  have hbit (b : Nat) : (s.wr a w).get ((R.PSC_EVENT_EVENT p).bit b) = s.get ((R.PSC_EVENT_EVENT p).bit b) :=
    s.get_wr_other _ w hevent
  have hstate : (s.wr a w).get (R.PSC_STATUS_STATE p) = s.get (R.PSC_STATUS_STATE p) := s.get_wr_other _ w hstatus
  simp only [State.loadView, State.flag, State.psState, s.rd_wr_other w hnom, hbit, hstate]

/-- RE_VALID lies beside the channel's state in STATUS and is no part of the view. -/
@[simp] theorem State.loadView_raise_reValid : (s.raise (R.PSC_STATUS_RE_VALID p)).loadView p = s.loadView p := by
  have hnom : R.PSC_RE_NOM p ≠ (R.PSC_STATUS_RE_VALID p).addr := mt Nat.add_right_cancel (by decide)
  have hevent : R.PSC_EVENT p ≠ (R.PSC_STATUS_RE_VALID p).addr := mt Nat.add_right_cancel (by decide)
  have hbit (b : Nat) : (s.put (R.PSC_STATUS_RE_VALID p) 1).get ((R.PSC_EVENT_EVENT p).bit b) = s.get ((R.PSC_EVENT_EVENT p).bit b) :=
    s.get_put_reg _ _ 1 hevent
  have hstate : (s.put (R.PSC_STATUS_RE_VALID p) 1).get (R.PSC_STATUS_STATE p) = s.get (R.PSC_STATUS_STATE p) :=
    s.get_put_field _ _ 1 rfl (by simp [Field.Ok, R.PSC_STATUS_STATE]) (by simp [Field.Ok, R.PSC_STATUS_RE_VALID])
      (by simp [Field.Apart, R.PSC_STATUS_STATE, R.PSC_STATUS_RE_VALID])
  simp only [State.loadView, State.flag, State.psState, State.raise_eq, s.rd_put_other _ 1 hnom, hbit, hstate]

/-- An event of the channel shows in its EVENT bit alone. -/
theorem State.loadView_psEvent {b : Nat} (hb : b < 32) : (s.psEvent p b).loadView p = (s.loadView p).event b := by
  have hnom : R.PSC_RE_NOM p ≠ ((R.PSC_EVENT_EVENT p).bit b).addr := mt Nat.add_right_cancel (by decide)
  have hstatus : R.PSC_STATUS p ≠ ((R.PSC_EVENT_EVENT p).bit b).addr := mt Nat.add_right_cancel (by decide)
  have hstate : (s.put ((R.PSC_EVENT_EVENT p).bit b) 1).get (R.PSC_STATUS_STATE p) = s.get (R.PSC_STATUS_STATE p) :=
    s.get_put_reg _ _ 1 hstatus
  have hbit {c : Nat} (hc : c < 32) := s.flag_raise_bit (R.PSC_EVENT_EVENT p) (b := b) (c := c)
    (by simpa [R.PSC_EVENT_EVENT] using hb) (by simpa [R.PSC_EVENT_EVENT] using hc)
  simp only [State.loadView, LoadView.event, State.psEvent, hbit (c := 9) (by decide), hbit (c := 10) (by decide)]
  simp only [State.raise_eq, State.psState, s.rd_put_other _ 1 hnom, hstate]

theorem State.loadView_loadEvents (re : F32) :
    (s.loadEvents p (s.rd (R.PSC_RE_NOM p)) re).loadView p = (s.loadView p).measured re := by
  have hopen (t : State) : (t.psEvent p 9).loadView p = (t.loadView p).event 9 := t.loadView_psEvent p (by decide)
  have hlow (t : State) : (t.psEvent p 10).loadView p = (t.loadView p).event 10 := t.loadView_psEvent p (by decide)
  change (s.loadEvents p (s.loadView p).nominal re).loadView p = _
  unfold State.loadEvents LoadView.measured
  cases flt (fmul 0x40800000 (s.loadView p).nominal).v re <;> cases flt re (fmul 0x3F000000 (s.loadView p).nominal).v <;>
    simp [hopen, hlow, LoadView.event]

@[simp] theorem State.quot_regs (a b : F32) : (s.quot a b).2.regs = s.regs := by
  unfold State.quot
  split <;> rfl

/-- The coil temperature is T_COIL and the event TLIM, no part of the view. -/
@[simp] theorem State.loadView_coilMeasured (nom re : F32) : (s.coilMeasured p nom re).loadView p = s.loadView p := by
  have hcoil (w : Word) : ((s.quot re nom).2.wr (R.PSC_T_COIL p) w).loadView p = s.loadView p :=
    (State.loadView_wr _ p w (mt Nat.add_right_cancel (by decide)) (mt Nat.add_right_cancel (by decide))
      (mt Nat.add_right_cancel (by decide))).trans (State.loadView_congr p (s.quot_regs re nom))
  unfold State.coilMeasured
  dsimp only
  split
  · split
    · rw [State.loadView_psEvent _ p (by decide), hcoil]
      simp [LoadView.event]
    · exact hcoil _
  · rfl

/-- A pilot cycle that ends with a result (R361 to R363): the resistance is stored, and the load events and the coil temperature follow. -/
theorem State.pilotMeasured_of_vals {vp ip vm im : F32} (hon : s.on .pstage = true) (hpilot : (s.psCh p).pilot = 5)
    (hkept : (s.psCh p).spoiled = false) (hvals : (s.psCh p).vals = [vp, ip, vm, im]) (hdi : (fop (fsub ip im).v).m ≠ 0)
    {re : F32} (hre : re = (fdiv (fsub vp vm).v (fsub ip im).v).v) {x : State}
    (hx : x = (((s.setPsCh p { s.psCh p with pilot := 0, vals := [], spoiled := false }).wr (R.PSC_RE_MEAS p) re).raise
      (R.PSC_STATUS_RE_VALID p)).psEvent p 11) :
    s.pilotMeasured p = (x.loadEvents p (x.rd (R.PSC_RE_NOM p)) re).coilMeasured p (x.rd (R.PSC_RE_NOM p)) re := by
  subst hx hre
  simp only [State.pilotMeasured, hon, hpilot, hkept, hvals, if_neg hdi]
  rfl

/-- A pilot cycle that ends with a result shows in the view as its measured resistance alone. -/
theorem State.loadView_pilotMeasured {vp ip vm im : F32} (hon : s.on .pstage = true) (hpilot : (s.psCh p).pilot = 5)
    (hkept : (s.psCh p).spoiled = false) (hvals : (s.psCh p).vals = [vp, ip, vm, im]) (hdi : (fop (fsub ip im).v).m ≠ 0) :
    (s.pilotMeasured p).loadView p = (s.loadView p).measured (fdiv (fsub vp vm).v (fsub ip im).v).v := by
  rw [s.pilotMeasured_of_vals p hon hpilot hkept hvals hdi rfl rfl, State.loadView_coilMeasured, State.loadView_loadEvents,
    State.loadView_psEvent _ p (by decide), State.loadView_raise_reValid, State.loadView_wr]
  · simp only [LoadView.event, Nat.reduceBEq, Bool.or_false]
    rfl
  all_goals exact mt Nat.add_right_cancel (by decide)

end

/-- Settles O58: a measured resistance sets the load events by its comparison with RE_NOM and leaves the channel's state. -/
theorem openAndLowLoad : Obligations.OpenAndLowLoad := by
  rintro p vp ip vm im _ s hon hpilot hkept hvals hdi rfl
  refine ⟨_, rfl, ?_⟩
  have hview := (State.loadView_congr p (s.pilotMeasured p).settleIrq_regs).trans
    (s.loadView_pilotMeasured p hon hpilot hkept hvals hdi)
  exact ⟨congrArg LoadView.openLoad hview, congrArg LoadView.lowLoad hview, congrArg LoadView.state hview⟩

end Sys2Proof.Machine
end
